-- ==== Sys2Proof/Word.lean ====
section
/-! DEFINITION. The word types of the machine: bytes and 16-bit words (00_scope.md R10, R11). -/

namespace Sys2Proof

/-- Eight bits: a memory cell, a register, an I/O transfer (R101). -/
abbrev Byte := BitVec 8

/-- Sixteen bits: a register pair, an address, a port address (R10). -/
abbrev Word := BitVec 16

end Sys2Proof
end

