-- ==== Sys2Proof/Machine/Bytes.lean ====
section
/-!
DEFINITION. Byte order and sign extension (00_scope.md R10, R11; 20_memory.md R95), and the fields of an opcode byte
(30_encoding.md R131).
-/

namespace Sys2Proof

/-- Bits 15..8 of a word. -/
def hi (w : Word) : Byte := w.extractLsb' 8 8

/-- Bits 7..0 of a word. -/
def lo (w : Word) : Byte := w.extractLsb' 0 8

/-- `h:l`. -/
def pair (h l : Byte) : Word := h ++ l

/-- `sext_8`, as a word. -/
def sext8 (v : Byte) : Word := v.signExtend 16

/-! ## The fields of an opcode byte (R131) -/

def opX (op : Byte) : BitVec 2 := op.extractLsb' 6 2
def opY (op : Byte) : BitVec 3 := op.extractLsb' 3 3
def opZ (op : Byte) : BitVec 3 := op.extractLsb' 0 3
def opP (op : Byte) : BitVec 2 := op.extractLsb' 4 2
def opQ (op : Byte) : BitVec 1 := op.extractLsb' 3 1

/-- The opcode byte `xx yyy zzz`. -/
def opcode (x : BitVec 2) (y z : BitVec 3) : Byte := x ++ y ++ z

/-- `yyy` from p and q. -/
def fieldY (p : BitVec 2) (q : BitVec 1) : BitVec 3 := p ++ q

/-- The ED codes that no instruction has (R151; 48_cpu_control.md R467). -/
def isEdNoOperation (op : Byte) : Bool :=
  match (opX op).toNat with
  | 0 => true
  | 1 => opZ op == 7 && decide (6 ≤ (opY op).toNat)
  | 2 => decide (4 ≤ (opZ op).toNat) || decide ((opY op).toNat < 4)
  | _ => true

end Sys2Proof
end

