-- ==== Sys2Proof/Syntax.lean ====
section
/-!
DEFINITION. The instructions: one constructor per mnemonic of spec/opcode_table.json, named from it
(an `m` stands for the parentheses of a memory or port operand), its bytes beside it. Rows that share a mnemonic differ by
a field: `y`, `z` the fields of the opcode byte (30_encoding.md R131), `second` the second of two opcode bytes, `op` the
opcode byte of an ED no-operation. The constructors `dd_…` and `fd_…` are the opcodes that DD and FD leave unchanged
(R145). The last-named four are DD and FD bytes before DD, FD or ED (R144).
-/

namespace Sys2Proof

/-- The instruction set (30_encoding.md R139 to R155). -/
inductive Instr where
  | nop  -- 00
  | ld_BC_nn (nn : Word)  -- 01 nn
  | ld_mBC_A  -- 02
  | inc_BC  -- 03
  | inc_B  -- 04
  | dec_B  -- 05
  | ld_B_n (n : Byte)  -- 06 n
  | rlca  -- 07
  | ex_AF_AF  -- 08
  | add_HL_BC  -- 09
  | ld_A_mBC  -- 0A
  | dec_BC  -- 0B
  | inc_C  -- 0C
  | dec_C  -- 0D
  | ld_C_n (n : Byte)  -- 0E n
  | rrca  -- 0F
  | djnz_e (e : Byte)  -- 10 e
  | ld_DE_nn (nn : Word)  -- 11 nn
  | ld_mDE_A  -- 12
  | inc_DE  -- 13
  | inc_D  -- 14
  | dec_D  -- 15
  | ld_D_n (n : Byte)  -- 16 n
  | rla  -- 17
  | jr_e (e : Byte)  -- 18 e
  | add_HL_DE  -- 19
  | ld_A_mDE  -- 1A
  | dec_DE  -- 1B
  | inc_E  -- 1C
  | dec_E  -- 1D
  | ld_E_n (n : Byte)  -- 1E n
  | rra  -- 1F
  | jr_NZ_e (e : Byte)  -- 20 e
  | ld_HL_nn (nn : Word)  -- 21 nn
  | ld_mnn_HL (nn : Word)  -- 22 nn
  | inc_HL  -- 23
  | inc_H  -- 24
  | dec_H  -- 25
  | ld_H_n (n : Byte)  -- 26 n
  | daa  -- 27
  | jr_Z_e (e : Byte)  -- 28 e
  | add_HL_HL  -- 29
  | ld_HL_mnn (nn : Word)  -- 2A nn
  | dec_HL  -- 2B
  | inc_L  -- 2C
  | dec_L  -- 2D
  | ld_L_n (n : Byte)  -- 2E n
  | cpl  -- 2F
  | jr_NC_e (e : Byte)  -- 30 e
  | ld_SP_nn (nn : Word)  -- 31 nn
  | ld_mnn_A (nn : Word)  -- 32 nn
  | inc_SP  -- 33
  | inc_mHL  -- 34
  | dec_mHL  -- 35
  | ld_mHL_n (n : Byte)  -- 36 n
  | scf  -- 37
  | jr_C_e (e : Byte)  -- 38 e
  | add_HL_SP  -- 39
  | ld_A_mnn (nn : Word)  -- 3A nn
  | dec_SP  -- 3B
  | inc_A  -- 3C
  | dec_A  -- 3D
  | ld_A_n (n : Byte)  -- 3E n
  | ccf  -- 3F
  | ld_B_B  -- 40
  | ld_B_C  -- 41
  | ld_B_D  -- 42
  | ld_B_E  -- 43
  | ld_B_H  -- 44
  | ld_B_L  -- 45
  | ld_B_mHL  -- 46
  | ld_B_A  -- 47
  | ld_C_B  -- 48
  | ld_C_C  -- 49
  | ld_C_D  -- 4A
  | ld_C_E  -- 4B
  | ld_C_H  -- 4C
  | ld_C_L  -- 4D
  | ld_C_mHL  -- 4E
  | ld_C_A  -- 4F
  | ld_D_B  -- 50
  | ld_D_C  -- 51
  | ld_D_D  -- 52
  | ld_D_E  -- 53
  | ld_D_H  -- 54
  | ld_D_L  -- 55
  | ld_D_mHL  -- 56
  | ld_D_A  -- 57
  | ld_E_B  -- 58
  | ld_E_C  -- 59
  | ld_E_D  -- 5A
  | ld_E_E  -- 5B
  | ld_E_H  -- 5C
  | ld_E_L  -- 5D
  | ld_E_mHL  -- 5E
  | ld_E_A  -- 5F
  | ld_H_B  -- 60
  | ld_H_C  -- 61
  | ld_H_D  -- 62
  | ld_H_E  -- 63
  | ld_H_H  -- 64
  | ld_H_L  -- 65
  | ld_H_mHL  -- 66
  | ld_H_A  -- 67
  | ld_L_B  -- 68
  | ld_L_C  -- 69
  | ld_L_D  -- 6A
  | ld_L_E  -- 6B
  | ld_L_H  -- 6C
  | ld_L_L  -- 6D
  | ld_L_mHL  -- 6E
  | ld_L_A  -- 6F
  | ld_mHL_B  -- 70
  | ld_mHL_C  -- 71
  | ld_mHL_D  -- 72
  | ld_mHL_E  -- 73
  | ld_mHL_H  -- 74
  | ld_mHL_L  -- 75
  | halt  -- 76
  | ld_mHL_A  -- 77
  | ld_A_B  -- 78
  | ld_A_C  -- 79
  | ld_A_D  -- 7A
  | ld_A_E  -- 7B
  | ld_A_H  -- 7C
  | ld_A_L  -- 7D
  | ld_A_mHL  -- 7E
  | ld_A_A  -- 7F
  | add_A_B  -- 80
  | add_A_C  -- 81
  | add_A_D  -- 82
  | add_A_E  -- 83
  | add_A_H  -- 84
  | add_A_L  -- 85
  | add_A_mHL  -- 86
  | add_A_A  -- 87
  | adc_A_B  -- 88
  | adc_A_C  -- 89
  | adc_A_D  -- 8A
  | adc_A_E  -- 8B
  | adc_A_H  -- 8C
  | adc_A_L  -- 8D
  | adc_A_mHL  -- 8E
  | adc_A_A  -- 8F
  | sub_B  -- 90
  | sub_C  -- 91
  | sub_D  -- 92
  | sub_E  -- 93
  | sub_H  -- 94
  | sub_L  -- 95
  | sub_mHL  -- 96
  | sub_A  -- 97
  | sbc_A_B  -- 98
  | sbc_A_C  -- 99
  | sbc_A_D  -- 9A
  | sbc_A_E  -- 9B
  | sbc_A_H  -- 9C
  | sbc_A_L  -- 9D
  | sbc_A_mHL  -- 9E
  | sbc_A_A  -- 9F
  | and_B  -- A0
  | and_C  -- A1
  | and_D  -- A2
  | and_E  -- A3
  | and_H  -- A4
  | and_L  -- A5
  | and_mHL  -- A6
  | and_A  -- A7
  | xor_B  -- A8
  | xor_C  -- A9
  | xor_D  -- AA
  | xor_E  -- AB
  | xor_H  -- AC
  | xor_L  -- AD
  | xor_mHL  -- AE
  | xor_A  -- AF
  | or_B  -- B0
  | or_C  -- B1
  | or_D  -- B2
  | or_E  -- B3
  | or_H  -- B4
  | or_L  -- B5
  | or_mHL  -- B6
  | or_A  -- B7
  | cp_B  -- B8
  | cp_C  -- B9
  | cp_D  -- BA
  | cp_E  -- BB
  | cp_H  -- BC
  | cp_L  -- BD
  | cp_mHL  -- BE
  | cp_A  -- BF
  | ret_NZ  -- C0
  | pop_BC  -- C1
  | jp_NZ_nn (nn : Word)  -- C2 nn
  | jp_nn (nn : Word)  -- C3 nn
  | call_NZ_nn (nn : Word)  -- C4 nn
  | push_BC  -- C5
  | add_A_n (n : Byte)  -- C6 n
  | rst_00h  -- C7
  | ret_Z  -- C8
  | ret  -- C9
  | jp_Z_nn (nn : Word)  -- CA nn
  | call_Z_nn (nn : Word)  -- CC nn
  | call_nn (nn : Word)  -- CD nn
  | adc_A_n (n : Byte)  -- CE n
  | rst_08h  -- CF
  | ret_NC  -- D0
  | pop_DE  -- D1
  | jp_NC_nn (nn : Word)  -- D2 nn
  | out_mn_A (n : Byte)  -- D3 n
  | call_NC_nn (nn : Word)  -- D4 nn
  | push_DE  -- D5
  | sub_n (n : Byte)  -- D6 n
  | rst_10h  -- D7
  | ret_C  -- D8
  | exx  -- D9
  | jp_C_nn (nn : Word)  -- DA nn
  | in_A_mn (n : Byte)  -- DB n
  | call_C_nn (nn : Word)  -- DC nn
  | sbc_A_n (n : Byte)  -- DE n
  | rst_18h  -- DF
  | ret_PO  -- E0
  | pop_HL  -- E1
  | jp_PO_nn (nn : Word)  -- E2 nn
  | ex_mSP_HL  -- E3
  | call_PO_nn (nn : Word)  -- E4 nn
  | push_HL  -- E5
  | and_n (n : Byte)  -- E6 n
  | rst_20h  -- E7
  | ret_PE  -- E8
  | jp_mHL  -- E9
  | jp_PE_nn (nn : Word)  -- EA nn
  | ex_DE_HL  -- EB
  | call_PE_nn (nn : Word)  -- EC nn
  | xor_n (n : Byte)  -- EE n
  | rst_28h  -- EF
  | ret_P  -- F0
  | pop_AF  -- F1
  | jp_P_nn (nn : Word)  -- F2 nn
  | di  -- F3
  | call_P_nn (nn : Word)  -- F4 nn
  | push_AF  -- F5
  | or_n (n : Byte)  -- F6 n
  | rst_30h  -- F7
  | ret_M  -- F8
  | ld_SP_HL  -- F9
  | jp_M_nn (nn : Word)  -- FA nn
  | ei  -- FB
  | call_M_nn (nn : Word)  -- FC nn
  | cp_n (n : Byte)  -- FE n
  | rst_38h  -- FF
  | rlc_B  -- CB 00
  | rlc_C  -- CB 01
  | rlc_D  -- CB 02
  | rlc_E  -- CB 03
  | rlc_H  -- CB 04
  | rlc_L  -- CB 05
  | rlc_mHL  -- CB 06
  | rlc_A  -- CB 07
  | rrc_B  -- CB 08
  | rrc_C  -- CB 09
  | rrc_D  -- CB 0A
  | rrc_E  -- CB 0B
  | rrc_H  -- CB 0C
  | rrc_L  -- CB 0D
  | rrc_mHL  -- CB 0E
  | rrc_A  -- CB 0F
  | rl_B  -- CB 10
  | rl_C  -- CB 11
  | rl_D  -- CB 12
  | rl_E  -- CB 13
  | rl_H  -- CB 14
  | rl_L  -- CB 15
  | rl_mHL  -- CB 16
  | rl_A  -- CB 17
  | rr_B  -- CB 18
  | rr_C  -- CB 19
  | rr_D  -- CB 1A
  | rr_E  -- CB 1B
  | rr_H  -- CB 1C
  | rr_L  -- CB 1D
  | rr_mHL  -- CB 1E
  | rr_A  -- CB 1F
  | sla_B  -- CB 20
  | sla_C  -- CB 21
  | sla_D  -- CB 22
  | sla_E  -- CB 23
  | sla_H  -- CB 24
  | sla_L  -- CB 25
  | sla_mHL  -- CB 26
  | sla_A  -- CB 27
  | sra_B  -- CB 28
  | sra_C  -- CB 29
  | sra_D  -- CB 2A
  | sra_E  -- CB 2B
  | sra_H  -- CB 2C
  | sra_L  -- CB 2D
  | sra_mHL  -- CB 2E
  | sra_A  -- CB 2F
  | sll_B  -- CB 30
  | sll_C  -- CB 31
  | sll_D  -- CB 32
  | sll_E  -- CB 33
  | sll_H  -- CB 34
  | sll_L  -- CB 35
  | sll_mHL  -- CB 36
  | sll_A  -- CB 37
  | srl_B  -- CB 38
  | srl_C  -- CB 39
  | srl_D  -- CB 3A
  | srl_E  -- CB 3B
  | srl_H  -- CB 3C
  | srl_L  -- CB 3D
  | srl_mHL  -- CB 3E
  | srl_A  -- CB 3F
  | bit_0_B  -- CB 40
  | bit_0_C  -- CB 41
  | bit_0_D  -- CB 42
  | bit_0_E  -- CB 43
  | bit_0_H  -- CB 44
  | bit_0_L  -- CB 45
  | bit_0_mHL  -- CB 46
  | bit_0_A  -- CB 47
  | bit_1_B  -- CB 48
  | bit_1_C  -- CB 49
  | bit_1_D  -- CB 4A
  | bit_1_E  -- CB 4B
  | bit_1_H  -- CB 4C
  | bit_1_L  -- CB 4D
  | bit_1_mHL  -- CB 4E
  | bit_1_A  -- CB 4F
  | bit_2_B  -- CB 50
  | bit_2_C  -- CB 51
  | bit_2_D  -- CB 52
  | bit_2_E  -- CB 53
  | bit_2_H  -- CB 54
  | bit_2_L  -- CB 55
  | bit_2_mHL  -- CB 56
  | bit_2_A  -- CB 57
  | bit_3_B  -- CB 58
  | bit_3_C  -- CB 59
  | bit_3_D  -- CB 5A
  | bit_3_E  -- CB 5B
  | bit_3_H  -- CB 5C
  | bit_3_L  -- CB 5D
  | bit_3_mHL  -- CB 5E
  | bit_3_A  -- CB 5F
  | bit_4_B  -- CB 60
  | bit_4_C  -- CB 61
  | bit_4_D  -- CB 62
  | bit_4_E  -- CB 63
  | bit_4_H  -- CB 64
  | bit_4_L  -- CB 65
  | bit_4_mHL  -- CB 66
  | bit_4_A  -- CB 67
  | bit_5_B  -- CB 68
  | bit_5_C  -- CB 69
  | bit_5_D  -- CB 6A
  | bit_5_E  -- CB 6B
  | bit_5_H  -- CB 6C
  | bit_5_L  -- CB 6D
  | bit_5_mHL  -- CB 6E
  | bit_5_A  -- CB 6F
  | bit_6_B  -- CB 70
  | bit_6_C  -- CB 71
  | bit_6_D  -- CB 72
  | bit_6_E  -- CB 73
  | bit_6_H  -- CB 74
  | bit_6_L  -- CB 75
  | bit_6_mHL  -- CB 76
  | bit_6_A  -- CB 77
  | bit_7_B  -- CB 78
  | bit_7_C  -- CB 79
  | bit_7_D  -- CB 7A
  | bit_7_E  -- CB 7B
  | bit_7_H  -- CB 7C
  | bit_7_L  -- CB 7D
  | bit_7_mHL  -- CB 7E
  | bit_7_A  -- CB 7F
  | res_0_B  -- CB 80
  | res_0_C  -- CB 81
  | res_0_D  -- CB 82
  | res_0_E  -- CB 83
  | res_0_H  -- CB 84
  | res_0_L  -- CB 85
  | res_0_mHL  -- CB 86
  | res_0_A  -- CB 87
  | res_1_B  -- CB 88
  | res_1_C  -- CB 89
  | res_1_D  -- CB 8A
  | res_1_E  -- CB 8B
  | res_1_H  -- CB 8C
  | res_1_L  -- CB 8D
  | res_1_mHL  -- CB 8E
  | res_1_A  -- CB 8F
  | res_2_B  -- CB 90
  | res_2_C  -- CB 91
  | res_2_D  -- CB 92
  | res_2_E  -- CB 93
  | res_2_H  -- CB 94
  | res_2_L  -- CB 95
  | res_2_mHL  -- CB 96
  | res_2_A  -- CB 97
  | res_3_B  -- CB 98
  | res_3_C  -- CB 99
  | res_3_D  -- CB 9A
  | res_3_E  -- CB 9B
  | res_3_H  -- CB 9C
  | res_3_L  -- CB 9D
  | res_3_mHL  -- CB 9E
  | res_3_A  -- CB 9F
  | res_4_B  -- CB A0
  | res_4_C  -- CB A1
  | res_4_D  -- CB A2
  | res_4_E  -- CB A3
  | res_4_H  -- CB A4
  | res_4_L  -- CB A5
  | res_4_mHL  -- CB A6
  | res_4_A  -- CB A7
  | res_5_B  -- CB A8
  | res_5_C  -- CB A9
  | res_5_D  -- CB AA
  | res_5_E  -- CB AB
  | res_5_H  -- CB AC
  | res_5_L  -- CB AD
  | res_5_mHL  -- CB AE
  | res_5_A  -- CB AF
  | res_6_B  -- CB B0
  | res_6_C  -- CB B1
  | res_6_D  -- CB B2
  | res_6_E  -- CB B3
  | res_6_H  -- CB B4
  | res_6_L  -- CB B5
  | res_6_mHL  -- CB B6
  | res_6_A  -- CB B7
  | res_7_B  -- CB B8
  | res_7_C  -- CB B9
  | res_7_D  -- CB BA
  | res_7_E  -- CB BB
  | res_7_H  -- CB BC
  | res_7_L  -- CB BD
  | res_7_mHL  -- CB BE
  | res_7_A  -- CB BF
  | set_0_B  -- CB C0
  | set_0_C  -- CB C1
  | set_0_D  -- CB C2
  | set_0_E  -- CB C3
  | set_0_H  -- CB C4
  | set_0_L  -- CB C5
  | set_0_mHL  -- CB C6
  | set_0_A  -- CB C7
  | set_1_B  -- CB C8
  | set_1_C  -- CB C9
  | set_1_D  -- CB CA
  | set_1_E  -- CB CB
  | set_1_H  -- CB CC
  | set_1_L  -- CB CD
  | set_1_mHL  -- CB CE
  | set_1_A  -- CB CF
  | set_2_B  -- CB D0
  | set_2_C  -- CB D1
  | set_2_D  -- CB D2
  | set_2_E  -- CB D3
  | set_2_H  -- CB D4
  | set_2_L  -- CB D5
  | set_2_mHL  -- CB D6
  | set_2_A  -- CB D7
  | set_3_B  -- CB D8
  | set_3_C  -- CB D9
  | set_3_D  -- CB DA
  | set_3_E  -- CB DB
  | set_3_H  -- CB DC
  | set_3_L  -- CB DD
  | set_3_mHL  -- CB DE
  | set_3_A  -- CB DF
  | set_4_B  -- CB E0
  | set_4_C  -- CB E1
  | set_4_D  -- CB E2
  | set_4_E  -- CB E3
  | set_4_H  -- CB E4
  | set_4_L  -- CB E5
  | set_4_mHL  -- CB E6
  | set_4_A  -- CB E7
  | set_5_B  -- CB E8
  | set_5_C  -- CB E9
  | set_5_D  -- CB EA
  | set_5_E  -- CB EB
  | set_5_H  -- CB EC
  | set_5_L  -- CB ED
  | set_5_mHL  -- CB EE
  | set_5_A  -- CB EF
  | set_6_B  -- CB F0
  | set_6_C  -- CB F1
  | set_6_D  -- CB F2
  | set_6_E  -- CB F3
  | set_6_H  -- CB F4
  | set_6_L  -- CB F5
  | set_6_mHL  -- CB F6
  | set_6_A  -- CB F7
  | set_7_B  -- CB F8
  | set_7_C  -- CB F9
  | set_7_D  -- CB FA
  | set_7_E  -- CB FB
  | set_7_H  -- CB FC
  | set_7_L  -- CB FD
  | set_7_mHL  -- CB FE
  | set_7_A  -- CB FF
  | ed_nop (op : Byte)  -- ED op
  | in_B_mC  -- ED 40
  | out_mC_B  -- ED 41
  | sbc_HL_BC  -- ED 42
  | ld_mnn_BC (nn : Word)  -- ED 43 nn
  | neg (y : BitVec 3)  -- ED opcode 1 y 4
  | retn (y : BitVec 3)  -- ED opcode 1 y 5
  | im_0 (second : Bool)  -- ED if second then 66 else 46
  | ld_I_A  -- ED 47
  | in_C_mC  -- ED 48
  | out_mC_C  -- ED 49
  | adc_HL_BC  -- ED 4A
  | ld_BC_mnn (nn : Word)  -- ED 4B nn
  | reti  -- ED 4D
  | im_0_mirror (second : Bool)  -- ED if second then 6E else 4E
  | ld_R_A  -- ED 4F
  | in_D_mC  -- ED 50
  | out_mC_D  -- ED 51
  | sbc_HL_DE  -- ED 52
  | ld_mnn_DE (nn : Word)  -- ED 53 nn
  | im_1 (second : Bool)  -- ED if second then 76 else 56
  | ld_A_I  -- ED 57
  | in_E_mC  -- ED 58
  | out_mC_E  -- ED 59
  | adc_HL_DE  -- ED 5A
  | ld_DE_mnn (nn : Word)  -- ED 5B nn
  | im_2 (second : Bool)  -- ED if second then 7E else 5E
  | ld_A_R  -- ED 5F
  | in_H_mC  -- ED 60
  | out_mC_H  -- ED 61
  | sbc_HL_HL  -- ED 62
  | ld_mnn_HL_ed (nn : Word)  -- ED 63 nn
  | rrd  -- ED 67
  | in_L_mC  -- ED 68
  | out_mC_L  -- ED 69
  | adc_HL_HL  -- ED 6A
  | ld_HL_mnn_ed (nn : Word)  -- ED 6B nn
  | rld  -- ED 6F
  | in_mC  -- ED 70
  | out_mC_0  -- ED 71
  | sbc_HL_SP  -- ED 72
  | ld_mnn_SP (nn : Word)  -- ED 73 nn
  | in_A_mC  -- ED 78
  | out_mC_A  -- ED 79
  | adc_HL_SP  -- ED 7A
  | ld_SP_mnn (nn : Word)  -- ED 7B nn
  | ldi  -- ED A0
  | cpi  -- ED A1
  | ini  -- ED A2
  | outi  -- ED A3
  | ldd  -- ED A8
  | cpd  -- ED A9
  | ind  -- ED AA
  | outd  -- ED AB
  | ldir  -- ED B0
  | cpir  -- ED B1
  | inir  -- ED B2
  | otir  -- ED B3
  | lddr  -- ED B8
  | cpdr  -- ED B9
  | indr  -- ED BA
  | otdr  -- ED BB
  | dd_nop  -- DD 00
  | dd_ld_BC_nn (nn : Word)  -- DD 01 nn
  | dd_ld_mBC_A  -- DD 02
  | dd_inc_BC  -- DD 03
  | dd_inc_B  -- DD 04
  | dd_dec_B  -- DD 05
  | dd_ld_B_n (n : Byte)  -- DD 06 n
  | dd_rlca  -- DD 07
  | dd_ex_AF_AF  -- DD 08
  | add_IX_BC  -- DD 09
  | dd_ld_A_mBC  -- DD 0A
  | dd_dec_BC  -- DD 0B
  | dd_inc_C  -- DD 0C
  | dd_dec_C  -- DD 0D
  | dd_ld_C_n (n : Byte)  -- DD 0E n
  | dd_rrca  -- DD 0F
  | dd_djnz_e (e : Byte)  -- DD 10 e
  | dd_ld_DE_nn (nn : Word)  -- DD 11 nn
  | dd_ld_mDE_A  -- DD 12
  | dd_inc_DE  -- DD 13
  | dd_inc_D  -- DD 14
  | dd_dec_D  -- DD 15
  | dd_ld_D_n (n : Byte)  -- DD 16 n
  | dd_rla  -- DD 17
  | dd_jr_e (e : Byte)  -- DD 18 e
  | add_IX_DE  -- DD 19
  | dd_ld_A_mDE  -- DD 1A
  | dd_dec_DE  -- DD 1B
  | dd_inc_E  -- DD 1C
  | dd_dec_E  -- DD 1D
  | dd_ld_E_n (n : Byte)  -- DD 1E n
  | dd_rra  -- DD 1F
  | dd_jr_NZ_e (e : Byte)  -- DD 20 e
  | ld_IX_nn (nn : Word)  -- DD 21 nn
  | ld_mnn_IX (nn : Word)  -- DD 22 nn
  | inc_IX  -- DD 23
  | inc_IXH  -- DD 24
  | dec_IXH  -- DD 25
  | ld_IXH_n (n : Byte)  -- DD 26 n
  | dd_daa  -- DD 27
  | dd_jr_Z_e (e : Byte)  -- DD 28 e
  | add_IX_IX  -- DD 29
  | ld_IX_mnn (nn : Word)  -- DD 2A nn
  | dec_IX  -- DD 2B
  | inc_IXL  -- DD 2C
  | dec_IXL  -- DD 2D
  | ld_IXL_n (n : Byte)  -- DD 2E n
  | dd_cpl  -- DD 2F
  | dd_jr_NC_e (e : Byte)  -- DD 30 e
  | dd_ld_SP_nn (nn : Word)  -- DD 31 nn
  | dd_ld_mnn_A (nn : Word)  -- DD 32 nn
  | dd_inc_SP  -- DD 33
  | inc_mIXd (d : Byte)  -- DD 34 d
  | dec_mIXd (d : Byte)  -- DD 35 d
  | ld_mIXd_n (d : Byte) (n : Byte)  -- DD 36 d n
  | dd_scf  -- DD 37
  | dd_jr_C_e (e : Byte)  -- DD 38 e
  | add_IX_SP  -- DD 39
  | dd_ld_A_mnn (nn : Word)  -- DD 3A nn
  | dd_dec_SP  -- DD 3B
  | dd_inc_A  -- DD 3C
  | dd_dec_A  -- DD 3D
  | dd_ld_A_n (n : Byte)  -- DD 3E n
  | dd_ccf  -- DD 3F
  | dd_ld_B_B  -- DD 40
  | dd_ld_B_C  -- DD 41
  | dd_ld_B_D  -- DD 42
  | dd_ld_B_E  -- DD 43
  | ld_B_IXH  -- DD 44
  | ld_B_IXL  -- DD 45
  | ld_B_mIXd (d : Byte)  -- DD 46 d
  | dd_ld_B_A  -- DD 47
  | dd_ld_C_B  -- DD 48
  | dd_ld_C_C  -- DD 49
  | dd_ld_C_D  -- DD 4A
  | dd_ld_C_E  -- DD 4B
  | ld_C_IXH  -- DD 4C
  | ld_C_IXL  -- DD 4D
  | ld_C_mIXd (d : Byte)  -- DD 4E d
  | dd_ld_C_A  -- DD 4F
  | dd_ld_D_B  -- DD 50
  | dd_ld_D_C  -- DD 51
  | dd_ld_D_D  -- DD 52
  | dd_ld_D_E  -- DD 53
  | ld_D_IXH  -- DD 54
  | ld_D_IXL  -- DD 55
  | ld_D_mIXd (d : Byte)  -- DD 56 d
  | dd_ld_D_A  -- DD 57
  | dd_ld_E_B  -- DD 58
  | dd_ld_E_C  -- DD 59
  | dd_ld_E_D  -- DD 5A
  | dd_ld_E_E  -- DD 5B
  | ld_E_IXH  -- DD 5C
  | ld_E_IXL  -- DD 5D
  | ld_E_mIXd (d : Byte)  -- DD 5E d
  | dd_ld_E_A  -- DD 5F
  | ld_IXH_B  -- DD 60
  | ld_IXH_C  -- DD 61
  | ld_IXH_D  -- DD 62
  | ld_IXH_E  -- DD 63
  | ld_IXH_IXH  -- DD 64
  | ld_IXH_IXL  -- DD 65
  | ld_H_mIXd (d : Byte)  -- DD 66 d
  | ld_IXH_A  -- DD 67
  | ld_IXL_B  -- DD 68
  | ld_IXL_C  -- DD 69
  | ld_IXL_D  -- DD 6A
  | ld_IXL_E  -- DD 6B
  | ld_IXL_IXH  -- DD 6C
  | ld_IXL_IXL  -- DD 6D
  | ld_L_mIXd (d : Byte)  -- DD 6E d
  | ld_IXL_A  -- DD 6F
  | ld_mIXd_B (d : Byte)  -- DD 70 d
  | ld_mIXd_C (d : Byte)  -- DD 71 d
  | ld_mIXd_D (d : Byte)  -- DD 72 d
  | ld_mIXd_E (d : Byte)  -- DD 73 d
  | ld_mIXd_H (d : Byte)  -- DD 74 d
  | ld_mIXd_L (d : Byte)  -- DD 75 d
  | dd_halt  -- DD 76
  | ld_mIXd_A (d : Byte)  -- DD 77 d
  | dd_ld_A_B  -- DD 78
  | dd_ld_A_C  -- DD 79
  | dd_ld_A_D  -- DD 7A
  | dd_ld_A_E  -- DD 7B
  | ld_A_IXH  -- DD 7C
  | ld_A_IXL  -- DD 7D
  | ld_A_mIXd (d : Byte)  -- DD 7E d
  | dd_ld_A_A  -- DD 7F
  | dd_add_A_B  -- DD 80
  | dd_add_A_C  -- DD 81
  | dd_add_A_D  -- DD 82
  | dd_add_A_E  -- DD 83
  | add_A_IXH  -- DD 84
  | add_A_IXL  -- DD 85
  | add_A_mIXd (d : Byte)  -- DD 86 d
  | dd_add_A_A  -- DD 87
  | dd_adc_A_B  -- DD 88
  | dd_adc_A_C  -- DD 89
  | dd_adc_A_D  -- DD 8A
  | dd_adc_A_E  -- DD 8B
  | adc_A_IXH  -- DD 8C
  | adc_A_IXL  -- DD 8D
  | adc_A_mIXd (d : Byte)  -- DD 8E d
  | dd_adc_A_A  -- DD 8F
  | dd_sub_B  -- DD 90
  | dd_sub_C  -- DD 91
  | dd_sub_D  -- DD 92
  | dd_sub_E  -- DD 93
  | sub_IXH  -- DD 94
  | sub_IXL  -- DD 95
  | sub_mIXd (d : Byte)  -- DD 96 d
  | dd_sub_A  -- DD 97
  | dd_sbc_A_B  -- DD 98
  | dd_sbc_A_C  -- DD 99
  | dd_sbc_A_D  -- DD 9A
  | dd_sbc_A_E  -- DD 9B
  | sbc_A_IXH  -- DD 9C
  | sbc_A_IXL  -- DD 9D
  | sbc_A_mIXd (d : Byte)  -- DD 9E d
  | dd_sbc_A_A  -- DD 9F
  | dd_and_B  -- DD A0
  | dd_and_C  -- DD A1
  | dd_and_D  -- DD A2
  | dd_and_E  -- DD A3
  | and_IXH  -- DD A4
  | and_IXL  -- DD A5
  | and_mIXd (d : Byte)  -- DD A6 d
  | dd_and_A  -- DD A7
  | dd_xor_B  -- DD A8
  | dd_xor_C  -- DD A9
  | dd_xor_D  -- DD AA
  | dd_xor_E  -- DD AB
  | xor_IXH  -- DD AC
  | xor_IXL  -- DD AD
  | xor_mIXd (d : Byte)  -- DD AE d
  | dd_xor_A  -- DD AF
  | dd_or_B  -- DD B0
  | dd_or_C  -- DD B1
  | dd_or_D  -- DD B2
  | dd_or_E  -- DD B3
  | or_IXH  -- DD B4
  | or_IXL  -- DD B5
  | or_mIXd (d : Byte)  -- DD B6 d
  | dd_or_A  -- DD B7
  | dd_cp_B  -- DD B8
  | dd_cp_C  -- DD B9
  | dd_cp_D  -- DD BA
  | dd_cp_E  -- DD BB
  | cp_IXH  -- DD BC
  | cp_IXL  -- DD BD
  | cp_mIXd (d : Byte)  -- DD BE d
  | dd_cp_A  -- DD BF
  | dd_ret_NZ  -- DD C0
  | dd_pop_BC  -- DD C1
  | dd_jp_NZ_nn (nn : Word)  -- DD C2 nn
  | dd_jp_nn (nn : Word)  -- DD C3 nn
  | dd_call_NZ_nn (nn : Word)  -- DD C4 nn
  | dd_push_BC  -- DD C5
  | dd_add_A_n (n : Byte)  -- DD C6 n
  | dd_rst_00h  -- DD C7
  | dd_ret_Z  -- DD C8
  | dd_ret  -- DD C9
  | dd_jp_Z_nn (nn : Word)  -- DD CA nn
  | dd_call_Z_nn (nn : Word)  -- DD CC nn
  | dd_call_nn (nn : Word)  -- DD CD nn
  | dd_adc_A_n (n : Byte)  -- DD CE n
  | dd_rst_08h  -- DD CF
  | dd_ret_NC  -- DD D0
  | dd_pop_DE  -- DD D1
  | dd_jp_NC_nn (nn : Word)  -- DD D2 nn
  | dd_out_mn_A (n : Byte)  -- DD D3 n
  | dd_call_NC_nn (nn : Word)  -- DD D4 nn
  | dd_push_DE  -- DD D5
  | dd_sub_n (n : Byte)  -- DD D6 n
  | dd_rst_10h  -- DD D7
  | dd_ret_C  -- DD D8
  | dd_exx  -- DD D9
  | dd_jp_C_nn (nn : Word)  -- DD DA nn
  | dd_in_A_mn (n : Byte)  -- DD DB n
  | dd_call_C_nn (nn : Word)  -- DD DC nn
  | dd_sbc_A_n (n : Byte)  -- DD DE n
  | dd_rst_18h  -- DD DF
  | dd_ret_PO  -- DD E0
  | pop_IX  -- DD E1
  | dd_jp_PO_nn (nn : Word)  -- DD E2 nn
  | ex_mSP_IX  -- DD E3
  | dd_call_PO_nn (nn : Word)  -- DD E4 nn
  | push_IX  -- DD E5
  | dd_and_n (n : Byte)  -- DD E6 n
  | dd_rst_20h  -- DD E7
  | dd_ret_PE  -- DD E8
  | jp_mIX  -- DD E9
  | dd_jp_PE_nn (nn : Word)  -- DD EA nn
  | dd_ex_DE_HL  -- DD EB
  | dd_call_PE_nn (nn : Word)  -- DD EC nn
  | dd_xor_n (n : Byte)  -- DD EE n
  | dd_rst_28h  -- DD EF
  | dd_ret_P  -- DD F0
  | dd_pop_AF  -- DD F1
  | dd_jp_P_nn (nn : Word)  -- DD F2 nn
  | dd_di  -- DD F3
  | dd_call_P_nn (nn : Word)  -- DD F4 nn
  | dd_push_AF  -- DD F5
  | dd_or_n (n : Byte)  -- DD F6 n
  | dd_rst_30h  -- DD F7
  | dd_ret_M  -- DD F8
  | ld_SP_IX  -- DD F9
  | dd_jp_M_nn (nn : Word)  -- DD FA nn
  | dd_ei  -- DD FB
  | dd_call_M_nn (nn : Word)  -- DD FC nn
  | dd_cp_n (n : Byte)  -- DD FE n
  | dd_rst_38h  -- DD FF
  | rlc_mIXd_B (d : Byte)  -- DD CB d 00
  | rlc_mIXd_C (d : Byte)  -- DD CB d 01
  | rlc_mIXd_D (d : Byte)  -- DD CB d 02
  | rlc_mIXd_E (d : Byte)  -- DD CB d 03
  | rlc_mIXd_H (d : Byte)  -- DD CB d 04
  | rlc_mIXd_L (d : Byte)  -- DD CB d 05
  | rlc_mIXd (d : Byte)  -- DD CB d 06
  | rlc_mIXd_A (d : Byte)  -- DD CB d 07
  | rrc_mIXd_B (d : Byte)  -- DD CB d 08
  | rrc_mIXd_C (d : Byte)  -- DD CB d 09
  | rrc_mIXd_D (d : Byte)  -- DD CB d 0A
  | rrc_mIXd_E (d : Byte)  -- DD CB d 0B
  | rrc_mIXd_H (d : Byte)  -- DD CB d 0C
  | rrc_mIXd_L (d : Byte)  -- DD CB d 0D
  | rrc_mIXd (d : Byte)  -- DD CB d 0E
  | rrc_mIXd_A (d : Byte)  -- DD CB d 0F
  | rl_mIXd_B (d : Byte)  -- DD CB d 10
  | rl_mIXd_C (d : Byte)  -- DD CB d 11
  | rl_mIXd_D (d : Byte)  -- DD CB d 12
  | rl_mIXd_E (d : Byte)  -- DD CB d 13
  | rl_mIXd_H (d : Byte)  -- DD CB d 14
  | rl_mIXd_L (d : Byte)  -- DD CB d 15
  | rl_mIXd (d : Byte)  -- DD CB d 16
  | rl_mIXd_A (d : Byte)  -- DD CB d 17
  | rr_mIXd_B (d : Byte)  -- DD CB d 18
  | rr_mIXd_C (d : Byte)  -- DD CB d 19
  | rr_mIXd_D (d : Byte)  -- DD CB d 1A
  | rr_mIXd_E (d : Byte)  -- DD CB d 1B
  | rr_mIXd_H (d : Byte)  -- DD CB d 1C
  | rr_mIXd_L (d : Byte)  -- DD CB d 1D
  | rr_mIXd (d : Byte)  -- DD CB d 1E
  | rr_mIXd_A (d : Byte)  -- DD CB d 1F
  | sla_mIXd_B (d : Byte)  -- DD CB d 20
  | sla_mIXd_C (d : Byte)  -- DD CB d 21
  | sla_mIXd_D (d : Byte)  -- DD CB d 22
  | sla_mIXd_E (d : Byte)  -- DD CB d 23
  | sla_mIXd_H (d : Byte)  -- DD CB d 24
  | sla_mIXd_L (d : Byte)  -- DD CB d 25
  | sla_mIXd (d : Byte)  -- DD CB d 26
  | sla_mIXd_A (d : Byte)  -- DD CB d 27
  | sra_mIXd_B (d : Byte)  -- DD CB d 28
  | sra_mIXd_C (d : Byte)  -- DD CB d 29
  | sra_mIXd_D (d : Byte)  -- DD CB d 2A
  | sra_mIXd_E (d : Byte)  -- DD CB d 2B
  | sra_mIXd_H (d : Byte)  -- DD CB d 2C
  | sra_mIXd_L (d : Byte)  -- DD CB d 2D
  | sra_mIXd (d : Byte)  -- DD CB d 2E
  | sra_mIXd_A (d : Byte)  -- DD CB d 2F
  | sll_mIXd_B (d : Byte)  -- DD CB d 30
  | sll_mIXd_C (d : Byte)  -- DD CB d 31
  | sll_mIXd_D (d : Byte)  -- DD CB d 32
  | sll_mIXd_E (d : Byte)  -- DD CB d 33
  | sll_mIXd_H (d : Byte)  -- DD CB d 34
  | sll_mIXd_L (d : Byte)  -- DD CB d 35
  | sll_mIXd (d : Byte)  -- DD CB d 36
  | sll_mIXd_A (d : Byte)  -- DD CB d 37
  | srl_mIXd_B (d : Byte)  -- DD CB d 38
  | srl_mIXd_C (d : Byte)  -- DD CB d 39
  | srl_mIXd_D (d : Byte)  -- DD CB d 3A
  | srl_mIXd_E (d : Byte)  -- DD CB d 3B
  | srl_mIXd_H (d : Byte)  -- DD CB d 3C
  | srl_mIXd_L (d : Byte)  -- DD CB d 3D
  | srl_mIXd (d : Byte)  -- DD CB d 3E
  | srl_mIXd_A (d : Byte)  -- DD CB d 3F
  | bit_0_mIXd (z : BitVec 3) (d : Byte)  -- DD CB d opcode 1 0 z
  | bit_1_mIXd (z : BitVec 3) (d : Byte)  -- DD CB d opcode 1 1 z
  | bit_2_mIXd (z : BitVec 3) (d : Byte)  -- DD CB d opcode 1 2 z
  | bit_3_mIXd (z : BitVec 3) (d : Byte)  -- DD CB d opcode 1 3 z
  | bit_4_mIXd (z : BitVec 3) (d : Byte)  -- DD CB d opcode 1 4 z
  | bit_5_mIXd (z : BitVec 3) (d : Byte)  -- DD CB d opcode 1 5 z
  | bit_6_mIXd (z : BitVec 3) (d : Byte)  -- DD CB d opcode 1 6 z
  | bit_7_mIXd (z : BitVec 3) (d : Byte)  -- DD CB d opcode 1 7 z
  | res_0_mIXd_B (d : Byte)  -- DD CB d 80
  | res_0_mIXd_C (d : Byte)  -- DD CB d 81
  | res_0_mIXd_D (d : Byte)  -- DD CB d 82
  | res_0_mIXd_E (d : Byte)  -- DD CB d 83
  | res_0_mIXd_H (d : Byte)  -- DD CB d 84
  | res_0_mIXd_L (d : Byte)  -- DD CB d 85
  | res_0_mIXd (d : Byte)  -- DD CB d 86
  | res_0_mIXd_A (d : Byte)  -- DD CB d 87
  | res_1_mIXd_B (d : Byte)  -- DD CB d 88
  | res_1_mIXd_C (d : Byte)  -- DD CB d 89
  | res_1_mIXd_D (d : Byte)  -- DD CB d 8A
  | res_1_mIXd_E (d : Byte)  -- DD CB d 8B
  | res_1_mIXd_H (d : Byte)  -- DD CB d 8C
  | res_1_mIXd_L (d : Byte)  -- DD CB d 8D
  | res_1_mIXd (d : Byte)  -- DD CB d 8E
  | res_1_mIXd_A (d : Byte)  -- DD CB d 8F
  | res_2_mIXd_B (d : Byte)  -- DD CB d 90
  | res_2_mIXd_C (d : Byte)  -- DD CB d 91
  | res_2_mIXd_D (d : Byte)  -- DD CB d 92
  | res_2_mIXd_E (d : Byte)  -- DD CB d 93
  | res_2_mIXd_H (d : Byte)  -- DD CB d 94
  | res_2_mIXd_L (d : Byte)  -- DD CB d 95
  | res_2_mIXd (d : Byte)  -- DD CB d 96
  | res_2_mIXd_A (d : Byte)  -- DD CB d 97
  | res_3_mIXd_B (d : Byte)  -- DD CB d 98
  | res_3_mIXd_C (d : Byte)  -- DD CB d 99
  | res_3_mIXd_D (d : Byte)  -- DD CB d 9A
  | res_3_mIXd_E (d : Byte)  -- DD CB d 9B
  | res_3_mIXd_H (d : Byte)  -- DD CB d 9C
  | res_3_mIXd_L (d : Byte)  -- DD CB d 9D
  | res_3_mIXd (d : Byte)  -- DD CB d 9E
  | res_3_mIXd_A (d : Byte)  -- DD CB d 9F
  | res_4_mIXd_B (d : Byte)  -- DD CB d A0
  | res_4_mIXd_C (d : Byte)  -- DD CB d A1
  | res_4_mIXd_D (d : Byte)  -- DD CB d A2
  | res_4_mIXd_E (d : Byte)  -- DD CB d A3
  | res_4_mIXd_H (d : Byte)  -- DD CB d A4
  | res_4_mIXd_L (d : Byte)  -- DD CB d A5
  | res_4_mIXd (d : Byte)  -- DD CB d A6
  | res_4_mIXd_A (d : Byte)  -- DD CB d A7
  | res_5_mIXd_B (d : Byte)  -- DD CB d A8
  | res_5_mIXd_C (d : Byte)  -- DD CB d A9
  | res_5_mIXd_D (d : Byte)  -- DD CB d AA
  | res_5_mIXd_E (d : Byte)  -- DD CB d AB
  | res_5_mIXd_H (d : Byte)  -- DD CB d AC
  | res_5_mIXd_L (d : Byte)  -- DD CB d AD
  | res_5_mIXd (d : Byte)  -- DD CB d AE
  | res_5_mIXd_A (d : Byte)  -- DD CB d AF
  | res_6_mIXd_B (d : Byte)  -- DD CB d B0
  | res_6_mIXd_C (d : Byte)  -- DD CB d B1
  | res_6_mIXd_D (d : Byte)  -- DD CB d B2
  | res_6_mIXd_E (d : Byte)  -- DD CB d B3
  | res_6_mIXd_H (d : Byte)  -- DD CB d B4
  | res_6_mIXd_L (d : Byte)  -- DD CB d B5
  | res_6_mIXd (d : Byte)  -- DD CB d B6
  | res_6_mIXd_A (d : Byte)  -- DD CB d B7
  | res_7_mIXd_B (d : Byte)  -- DD CB d B8
  | res_7_mIXd_C (d : Byte)  -- DD CB d B9
  | res_7_mIXd_D (d : Byte)  -- DD CB d BA
  | res_7_mIXd_E (d : Byte)  -- DD CB d BB
  | res_7_mIXd_H (d : Byte)  -- DD CB d BC
  | res_7_mIXd_L (d : Byte)  -- DD CB d BD
  | res_7_mIXd (d : Byte)  -- DD CB d BE
  | res_7_mIXd_A (d : Byte)  -- DD CB d BF
  | set_0_mIXd_B (d : Byte)  -- DD CB d C0
  | set_0_mIXd_C (d : Byte)  -- DD CB d C1
  | set_0_mIXd_D (d : Byte)  -- DD CB d C2
  | set_0_mIXd_E (d : Byte)  -- DD CB d C3
  | set_0_mIXd_H (d : Byte)  -- DD CB d C4
  | set_0_mIXd_L (d : Byte)  -- DD CB d C5
  | set_0_mIXd (d : Byte)  -- DD CB d C6
  | set_0_mIXd_A (d : Byte)  -- DD CB d C7
  | set_1_mIXd_B (d : Byte)  -- DD CB d C8
  | set_1_mIXd_C (d : Byte)  -- DD CB d C9
  | set_1_mIXd_D (d : Byte)  -- DD CB d CA
  | set_1_mIXd_E (d : Byte)  -- DD CB d CB
  | set_1_mIXd_H (d : Byte)  -- DD CB d CC
  | set_1_mIXd_L (d : Byte)  -- DD CB d CD
  | set_1_mIXd (d : Byte)  -- DD CB d CE
  | set_1_mIXd_A (d : Byte)  -- DD CB d CF
  | set_2_mIXd_B (d : Byte)  -- DD CB d D0
  | set_2_mIXd_C (d : Byte)  -- DD CB d D1
  | set_2_mIXd_D (d : Byte)  -- DD CB d D2
  | set_2_mIXd_E (d : Byte)  -- DD CB d D3
  | set_2_mIXd_H (d : Byte)  -- DD CB d D4
  | set_2_mIXd_L (d : Byte)  -- DD CB d D5
  | set_2_mIXd (d : Byte)  -- DD CB d D6
  | set_2_mIXd_A (d : Byte)  -- DD CB d D7
  | set_3_mIXd_B (d : Byte)  -- DD CB d D8
  | set_3_mIXd_C (d : Byte)  -- DD CB d D9
  | set_3_mIXd_D (d : Byte)  -- DD CB d DA
  | set_3_mIXd_E (d : Byte)  -- DD CB d DB
  | set_3_mIXd_H (d : Byte)  -- DD CB d DC
  | set_3_mIXd_L (d : Byte)  -- DD CB d DD
  | set_3_mIXd (d : Byte)  -- DD CB d DE
  | set_3_mIXd_A (d : Byte)  -- DD CB d DF
  | set_4_mIXd_B (d : Byte)  -- DD CB d E0
  | set_4_mIXd_C (d : Byte)  -- DD CB d E1
  | set_4_mIXd_D (d : Byte)  -- DD CB d E2
  | set_4_mIXd_E (d : Byte)  -- DD CB d E3
  | set_4_mIXd_H (d : Byte)  -- DD CB d E4
  | set_4_mIXd_L (d : Byte)  -- DD CB d E5
  | set_4_mIXd (d : Byte)  -- DD CB d E6
  | set_4_mIXd_A (d : Byte)  -- DD CB d E7
  | set_5_mIXd_B (d : Byte)  -- DD CB d E8
  | set_5_mIXd_C (d : Byte)  -- DD CB d E9
  | set_5_mIXd_D (d : Byte)  -- DD CB d EA
  | set_5_mIXd_E (d : Byte)  -- DD CB d EB
  | set_5_mIXd_H (d : Byte)  -- DD CB d EC
  | set_5_mIXd_L (d : Byte)  -- DD CB d ED
  | set_5_mIXd (d : Byte)  -- DD CB d EE
  | set_5_mIXd_A (d : Byte)  -- DD CB d EF
  | set_6_mIXd_B (d : Byte)  -- DD CB d F0
  | set_6_mIXd_C (d : Byte)  -- DD CB d F1
  | set_6_mIXd_D (d : Byte)  -- DD CB d F2
  | set_6_mIXd_E (d : Byte)  -- DD CB d F3
  | set_6_mIXd_H (d : Byte)  -- DD CB d F4
  | set_6_mIXd_L (d : Byte)  -- DD CB d F5
  | set_6_mIXd (d : Byte)  -- DD CB d F6
  | set_6_mIXd_A (d : Byte)  -- DD CB d F7
  | set_7_mIXd_B (d : Byte)  -- DD CB d F8
  | set_7_mIXd_C (d : Byte)  -- DD CB d F9
  | set_7_mIXd_D (d : Byte)  -- DD CB d FA
  | set_7_mIXd_E (d : Byte)  -- DD CB d FB
  | set_7_mIXd_H (d : Byte)  -- DD CB d FC
  | set_7_mIXd_L (d : Byte)  -- DD CB d FD
  | set_7_mIXd (d : Byte)  -- DD CB d FE
  | set_7_mIXd_A (d : Byte)  -- DD CB d FF
  | redundant_DD  -- DD
  | ignored_DD_before_ED  -- DD
  | fd_nop  -- FD 00
  | fd_ld_BC_nn (nn : Word)  -- FD 01 nn
  | fd_ld_mBC_A  -- FD 02
  | fd_inc_BC  -- FD 03
  | fd_inc_B  -- FD 04
  | fd_dec_B  -- FD 05
  | fd_ld_B_n (n : Byte)  -- FD 06 n
  | fd_rlca  -- FD 07
  | fd_ex_AF_AF  -- FD 08
  | add_IY_BC  -- FD 09
  | fd_ld_A_mBC  -- FD 0A
  | fd_dec_BC  -- FD 0B
  | fd_inc_C  -- FD 0C
  | fd_dec_C  -- FD 0D
  | fd_ld_C_n (n : Byte)  -- FD 0E n
  | fd_rrca  -- FD 0F
  | fd_djnz_e (e : Byte)  -- FD 10 e
  | fd_ld_DE_nn (nn : Word)  -- FD 11 nn
  | fd_ld_mDE_A  -- FD 12
  | fd_inc_DE  -- FD 13
  | fd_inc_D  -- FD 14
  | fd_dec_D  -- FD 15
  | fd_ld_D_n (n : Byte)  -- FD 16 n
  | fd_rla  -- FD 17
  | fd_jr_e (e : Byte)  -- FD 18 e
  | add_IY_DE  -- FD 19
  | fd_ld_A_mDE  -- FD 1A
  | fd_dec_DE  -- FD 1B
  | fd_inc_E  -- FD 1C
  | fd_dec_E  -- FD 1D
  | fd_ld_E_n (n : Byte)  -- FD 1E n
  | fd_rra  -- FD 1F
  | fd_jr_NZ_e (e : Byte)  -- FD 20 e
  | ld_IY_nn (nn : Word)  -- FD 21 nn
  | ld_mnn_IY (nn : Word)  -- FD 22 nn
  | inc_IY  -- FD 23
  | inc_IYH  -- FD 24
  | dec_IYH  -- FD 25
  | ld_IYH_n (n : Byte)  -- FD 26 n
  | fd_daa  -- FD 27
  | fd_jr_Z_e (e : Byte)  -- FD 28 e
  | add_IY_IY  -- FD 29
  | ld_IY_mnn (nn : Word)  -- FD 2A nn
  | dec_IY  -- FD 2B
  | inc_IYL  -- FD 2C
  | dec_IYL  -- FD 2D
  | ld_IYL_n (n : Byte)  -- FD 2E n
  | fd_cpl  -- FD 2F
  | fd_jr_NC_e (e : Byte)  -- FD 30 e
  | fd_ld_SP_nn (nn : Word)  -- FD 31 nn
  | fd_ld_mnn_A (nn : Word)  -- FD 32 nn
  | fd_inc_SP  -- FD 33
  | inc_mIYd (d : Byte)  -- FD 34 d
  | dec_mIYd (d : Byte)  -- FD 35 d
  | ld_mIYd_n (d : Byte) (n : Byte)  -- FD 36 d n
  | fd_scf  -- FD 37
  | fd_jr_C_e (e : Byte)  -- FD 38 e
  | add_IY_SP  -- FD 39
  | fd_ld_A_mnn (nn : Word)  -- FD 3A nn
  | fd_dec_SP  -- FD 3B
  | fd_inc_A  -- FD 3C
  | fd_dec_A  -- FD 3D
  | fd_ld_A_n (n : Byte)  -- FD 3E n
  | fd_ccf  -- FD 3F
  | fd_ld_B_B  -- FD 40
  | fd_ld_B_C  -- FD 41
  | fd_ld_B_D  -- FD 42
  | fd_ld_B_E  -- FD 43
  | ld_B_IYH  -- FD 44
  | ld_B_IYL  -- FD 45
  | ld_B_mIYd (d : Byte)  -- FD 46 d
  | fd_ld_B_A  -- FD 47
  | fd_ld_C_B  -- FD 48
  | fd_ld_C_C  -- FD 49
  | fd_ld_C_D  -- FD 4A
  | fd_ld_C_E  -- FD 4B
  | ld_C_IYH  -- FD 4C
  | ld_C_IYL  -- FD 4D
  | ld_C_mIYd (d : Byte)  -- FD 4E d
  | fd_ld_C_A  -- FD 4F
  | fd_ld_D_B  -- FD 50
  | fd_ld_D_C  -- FD 51
  | fd_ld_D_D  -- FD 52
  | fd_ld_D_E  -- FD 53
  | ld_D_IYH  -- FD 54
  | ld_D_IYL  -- FD 55
  | ld_D_mIYd (d : Byte)  -- FD 56 d
  | fd_ld_D_A  -- FD 57
  | fd_ld_E_B  -- FD 58
  | fd_ld_E_C  -- FD 59
  | fd_ld_E_D  -- FD 5A
  | fd_ld_E_E  -- FD 5B
  | ld_E_IYH  -- FD 5C
  | ld_E_IYL  -- FD 5D
  | ld_E_mIYd (d : Byte)  -- FD 5E d
  | fd_ld_E_A  -- FD 5F
  | ld_IYH_B  -- FD 60
  | ld_IYH_C  -- FD 61
  | ld_IYH_D  -- FD 62
  | ld_IYH_E  -- FD 63
  | ld_IYH_IYH  -- FD 64
  | ld_IYH_IYL  -- FD 65
  | ld_H_mIYd (d : Byte)  -- FD 66 d
  | ld_IYH_A  -- FD 67
  | ld_IYL_B  -- FD 68
  | ld_IYL_C  -- FD 69
  | ld_IYL_D  -- FD 6A
  | ld_IYL_E  -- FD 6B
  | ld_IYL_IYH  -- FD 6C
  | ld_IYL_IYL  -- FD 6D
  | ld_L_mIYd (d : Byte)  -- FD 6E d
  | ld_IYL_A  -- FD 6F
  | ld_mIYd_B (d : Byte)  -- FD 70 d
  | ld_mIYd_C (d : Byte)  -- FD 71 d
  | ld_mIYd_D (d : Byte)  -- FD 72 d
  | ld_mIYd_E (d : Byte)  -- FD 73 d
  | ld_mIYd_H (d : Byte)  -- FD 74 d
  | ld_mIYd_L (d : Byte)  -- FD 75 d
  | fd_halt  -- FD 76
  | ld_mIYd_A (d : Byte)  -- FD 77 d
  | fd_ld_A_B  -- FD 78
  | fd_ld_A_C  -- FD 79
  | fd_ld_A_D  -- FD 7A
  | fd_ld_A_E  -- FD 7B
  | ld_A_IYH  -- FD 7C
  | ld_A_IYL  -- FD 7D
  | ld_A_mIYd (d : Byte)  -- FD 7E d
  | fd_ld_A_A  -- FD 7F
  | fd_add_A_B  -- FD 80
  | fd_add_A_C  -- FD 81
  | fd_add_A_D  -- FD 82
  | fd_add_A_E  -- FD 83
  | add_A_IYH  -- FD 84
  | add_A_IYL  -- FD 85
  | add_A_mIYd (d : Byte)  -- FD 86 d
  | fd_add_A_A  -- FD 87
  | fd_adc_A_B  -- FD 88
  | fd_adc_A_C  -- FD 89
  | fd_adc_A_D  -- FD 8A
  | fd_adc_A_E  -- FD 8B
  | adc_A_IYH  -- FD 8C
  | adc_A_IYL  -- FD 8D
  | adc_A_mIYd (d : Byte)  -- FD 8E d
  | fd_adc_A_A  -- FD 8F
  | fd_sub_B  -- FD 90
  | fd_sub_C  -- FD 91
  | fd_sub_D  -- FD 92
  | fd_sub_E  -- FD 93
  | sub_IYH  -- FD 94
  | sub_IYL  -- FD 95
  | sub_mIYd (d : Byte)  -- FD 96 d
  | fd_sub_A  -- FD 97
  | fd_sbc_A_B  -- FD 98
  | fd_sbc_A_C  -- FD 99
  | fd_sbc_A_D  -- FD 9A
  | fd_sbc_A_E  -- FD 9B
  | sbc_A_IYH  -- FD 9C
  | sbc_A_IYL  -- FD 9D
  | sbc_A_mIYd (d : Byte)  -- FD 9E d
  | fd_sbc_A_A  -- FD 9F
  | fd_and_B  -- FD A0
  | fd_and_C  -- FD A1
  | fd_and_D  -- FD A2
  | fd_and_E  -- FD A3
  | and_IYH  -- FD A4
  | and_IYL  -- FD A5
  | and_mIYd (d : Byte)  -- FD A6 d
  | fd_and_A  -- FD A7
  | fd_xor_B  -- FD A8
  | fd_xor_C  -- FD A9
  | fd_xor_D  -- FD AA
  | fd_xor_E  -- FD AB
  | xor_IYH  -- FD AC
  | xor_IYL  -- FD AD
  | xor_mIYd (d : Byte)  -- FD AE d
  | fd_xor_A  -- FD AF
  | fd_or_B  -- FD B0
  | fd_or_C  -- FD B1
  | fd_or_D  -- FD B2
  | fd_or_E  -- FD B3
  | or_IYH  -- FD B4
  | or_IYL  -- FD B5
  | or_mIYd (d : Byte)  -- FD B6 d
  | fd_or_A  -- FD B7
  | fd_cp_B  -- FD B8
  | fd_cp_C  -- FD B9
  | fd_cp_D  -- FD BA
  | fd_cp_E  -- FD BB
  | cp_IYH  -- FD BC
  | cp_IYL  -- FD BD
  | cp_mIYd (d : Byte)  -- FD BE d
  | fd_cp_A  -- FD BF
  | fd_ret_NZ  -- FD C0
  | fd_pop_BC  -- FD C1
  | fd_jp_NZ_nn (nn : Word)  -- FD C2 nn
  | fd_jp_nn (nn : Word)  -- FD C3 nn
  | fd_call_NZ_nn (nn : Word)  -- FD C4 nn
  | fd_push_BC  -- FD C5
  | fd_add_A_n (n : Byte)  -- FD C6 n
  | fd_rst_00h  -- FD C7
  | fd_ret_Z  -- FD C8
  | fd_ret  -- FD C9
  | fd_jp_Z_nn (nn : Word)  -- FD CA nn
  | fd_call_Z_nn (nn : Word)  -- FD CC nn
  | fd_call_nn (nn : Word)  -- FD CD nn
  | fd_adc_A_n (n : Byte)  -- FD CE n
  | fd_rst_08h  -- FD CF
  | fd_ret_NC  -- FD D0
  | fd_pop_DE  -- FD D1
  | fd_jp_NC_nn (nn : Word)  -- FD D2 nn
  | fd_out_mn_A (n : Byte)  -- FD D3 n
  | fd_call_NC_nn (nn : Word)  -- FD D4 nn
  | fd_push_DE  -- FD D5
  | fd_sub_n (n : Byte)  -- FD D6 n
  | fd_rst_10h  -- FD D7
  | fd_ret_C  -- FD D8
  | fd_exx  -- FD D9
  | fd_jp_C_nn (nn : Word)  -- FD DA nn
  | fd_in_A_mn (n : Byte)  -- FD DB n
  | fd_call_C_nn (nn : Word)  -- FD DC nn
  | fd_sbc_A_n (n : Byte)  -- FD DE n
  | fd_rst_18h  -- FD DF
  | fd_ret_PO  -- FD E0
  | pop_IY  -- FD E1
  | fd_jp_PO_nn (nn : Word)  -- FD E2 nn
  | ex_mSP_IY  -- FD E3
  | fd_call_PO_nn (nn : Word)  -- FD E4 nn
  | push_IY  -- FD E5
  | fd_and_n (n : Byte)  -- FD E6 n
  | fd_rst_20h  -- FD E7
  | fd_ret_PE  -- FD E8
  | jp_mIY  -- FD E9
  | fd_jp_PE_nn (nn : Word)  -- FD EA nn
  | fd_ex_DE_HL  -- FD EB
  | fd_call_PE_nn (nn : Word)  -- FD EC nn
  | fd_xor_n (n : Byte)  -- FD EE n
  | fd_rst_28h  -- FD EF
  | fd_ret_P  -- FD F0
  | fd_pop_AF  -- FD F1
  | fd_jp_P_nn (nn : Word)  -- FD F2 nn
  | fd_di  -- FD F3
  | fd_call_P_nn (nn : Word)  -- FD F4 nn
  | fd_push_AF  -- FD F5
  | fd_or_n (n : Byte)  -- FD F6 n
  | fd_rst_30h  -- FD F7
  | fd_ret_M  -- FD F8
  | ld_SP_IY  -- FD F9
  | fd_jp_M_nn (nn : Word)  -- FD FA nn
  | fd_ei  -- FD FB
  | fd_call_M_nn (nn : Word)  -- FD FC nn
  | fd_cp_n (n : Byte)  -- FD FE n
  | fd_rst_38h  -- FD FF
  | rlc_mIYd_B (d : Byte)  -- FD CB d 00
  | rlc_mIYd_C (d : Byte)  -- FD CB d 01
  | rlc_mIYd_D (d : Byte)  -- FD CB d 02
  | rlc_mIYd_E (d : Byte)  -- FD CB d 03
  | rlc_mIYd_H (d : Byte)  -- FD CB d 04
  | rlc_mIYd_L (d : Byte)  -- FD CB d 05
  | rlc_mIYd (d : Byte)  -- FD CB d 06
  | rlc_mIYd_A (d : Byte)  -- FD CB d 07
  | rrc_mIYd_B (d : Byte)  -- FD CB d 08
  | rrc_mIYd_C (d : Byte)  -- FD CB d 09
  | rrc_mIYd_D (d : Byte)  -- FD CB d 0A
  | rrc_mIYd_E (d : Byte)  -- FD CB d 0B
  | rrc_mIYd_H (d : Byte)  -- FD CB d 0C
  | rrc_mIYd_L (d : Byte)  -- FD CB d 0D
  | rrc_mIYd (d : Byte)  -- FD CB d 0E
  | rrc_mIYd_A (d : Byte)  -- FD CB d 0F
  | rl_mIYd_B (d : Byte)  -- FD CB d 10
  | rl_mIYd_C (d : Byte)  -- FD CB d 11
  | rl_mIYd_D (d : Byte)  -- FD CB d 12
  | rl_mIYd_E (d : Byte)  -- FD CB d 13
  | rl_mIYd_H (d : Byte)  -- FD CB d 14
  | rl_mIYd_L (d : Byte)  -- FD CB d 15
  | rl_mIYd (d : Byte)  -- FD CB d 16
  | rl_mIYd_A (d : Byte)  -- FD CB d 17
  | rr_mIYd_B (d : Byte)  -- FD CB d 18
  | rr_mIYd_C (d : Byte)  -- FD CB d 19
  | rr_mIYd_D (d : Byte)  -- FD CB d 1A
  | rr_mIYd_E (d : Byte)  -- FD CB d 1B
  | rr_mIYd_H (d : Byte)  -- FD CB d 1C
  | rr_mIYd_L (d : Byte)  -- FD CB d 1D
  | rr_mIYd (d : Byte)  -- FD CB d 1E
  | rr_mIYd_A (d : Byte)  -- FD CB d 1F
  | sla_mIYd_B (d : Byte)  -- FD CB d 20
  | sla_mIYd_C (d : Byte)  -- FD CB d 21
  | sla_mIYd_D (d : Byte)  -- FD CB d 22
  | sla_mIYd_E (d : Byte)  -- FD CB d 23
  | sla_mIYd_H (d : Byte)  -- FD CB d 24
  | sla_mIYd_L (d : Byte)  -- FD CB d 25
  | sla_mIYd (d : Byte)  -- FD CB d 26
  | sla_mIYd_A (d : Byte)  -- FD CB d 27
  | sra_mIYd_B (d : Byte)  -- FD CB d 28
  | sra_mIYd_C (d : Byte)  -- FD CB d 29
  | sra_mIYd_D (d : Byte)  -- FD CB d 2A
  | sra_mIYd_E (d : Byte)  -- FD CB d 2B
  | sra_mIYd_H (d : Byte)  -- FD CB d 2C
  | sra_mIYd_L (d : Byte)  -- FD CB d 2D
  | sra_mIYd (d : Byte)  -- FD CB d 2E
  | sra_mIYd_A (d : Byte)  -- FD CB d 2F
  | sll_mIYd_B (d : Byte)  -- FD CB d 30
  | sll_mIYd_C (d : Byte)  -- FD CB d 31
  | sll_mIYd_D (d : Byte)  -- FD CB d 32
  | sll_mIYd_E (d : Byte)  -- FD CB d 33
  | sll_mIYd_H (d : Byte)  -- FD CB d 34
  | sll_mIYd_L (d : Byte)  -- FD CB d 35
  | sll_mIYd (d : Byte)  -- FD CB d 36
  | sll_mIYd_A (d : Byte)  -- FD CB d 37
  | srl_mIYd_B (d : Byte)  -- FD CB d 38
  | srl_mIYd_C (d : Byte)  -- FD CB d 39
  | srl_mIYd_D (d : Byte)  -- FD CB d 3A
  | srl_mIYd_E (d : Byte)  -- FD CB d 3B
  | srl_mIYd_H (d : Byte)  -- FD CB d 3C
  | srl_mIYd_L (d : Byte)  -- FD CB d 3D
  | srl_mIYd (d : Byte)  -- FD CB d 3E
  | srl_mIYd_A (d : Byte)  -- FD CB d 3F
  | bit_0_mIYd (z : BitVec 3) (d : Byte)  -- FD CB d opcode 1 0 z
  | bit_1_mIYd (z : BitVec 3) (d : Byte)  -- FD CB d opcode 1 1 z
  | bit_2_mIYd (z : BitVec 3) (d : Byte)  -- FD CB d opcode 1 2 z
  | bit_3_mIYd (z : BitVec 3) (d : Byte)  -- FD CB d opcode 1 3 z
  | bit_4_mIYd (z : BitVec 3) (d : Byte)  -- FD CB d opcode 1 4 z
  | bit_5_mIYd (z : BitVec 3) (d : Byte)  -- FD CB d opcode 1 5 z
  | bit_6_mIYd (z : BitVec 3) (d : Byte)  -- FD CB d opcode 1 6 z
  | bit_7_mIYd (z : BitVec 3) (d : Byte)  -- FD CB d opcode 1 7 z
  | res_0_mIYd_B (d : Byte)  -- FD CB d 80
  | res_0_mIYd_C (d : Byte)  -- FD CB d 81
  | res_0_mIYd_D (d : Byte)  -- FD CB d 82
  | res_0_mIYd_E (d : Byte)  -- FD CB d 83
  | res_0_mIYd_H (d : Byte)  -- FD CB d 84
  | res_0_mIYd_L (d : Byte)  -- FD CB d 85
  | res_0_mIYd (d : Byte)  -- FD CB d 86
  | res_0_mIYd_A (d : Byte)  -- FD CB d 87
  | res_1_mIYd_B (d : Byte)  -- FD CB d 88
  | res_1_mIYd_C (d : Byte)  -- FD CB d 89
  | res_1_mIYd_D (d : Byte)  -- FD CB d 8A
  | res_1_mIYd_E (d : Byte)  -- FD CB d 8B
  | res_1_mIYd_H (d : Byte)  -- FD CB d 8C
  | res_1_mIYd_L (d : Byte)  -- FD CB d 8D
  | res_1_mIYd (d : Byte)  -- FD CB d 8E
  | res_1_mIYd_A (d : Byte)  -- FD CB d 8F
  | res_2_mIYd_B (d : Byte)  -- FD CB d 90
  | res_2_mIYd_C (d : Byte)  -- FD CB d 91
  | res_2_mIYd_D (d : Byte)  -- FD CB d 92
  | res_2_mIYd_E (d : Byte)  -- FD CB d 93
  | res_2_mIYd_H (d : Byte)  -- FD CB d 94
  | res_2_mIYd_L (d : Byte)  -- FD CB d 95
  | res_2_mIYd (d : Byte)  -- FD CB d 96
  | res_2_mIYd_A (d : Byte)  -- FD CB d 97
  | res_3_mIYd_B (d : Byte)  -- FD CB d 98
  | res_3_mIYd_C (d : Byte)  -- FD CB d 99
  | res_3_mIYd_D (d : Byte)  -- FD CB d 9A
  | res_3_mIYd_E (d : Byte)  -- FD CB d 9B
  | res_3_mIYd_H (d : Byte)  -- FD CB d 9C
  | res_3_mIYd_L (d : Byte)  -- FD CB d 9D
  | res_3_mIYd (d : Byte)  -- FD CB d 9E
  | res_3_mIYd_A (d : Byte)  -- FD CB d 9F
  | res_4_mIYd_B (d : Byte)  -- FD CB d A0
  | res_4_mIYd_C (d : Byte)  -- FD CB d A1
  | res_4_mIYd_D (d : Byte)  -- FD CB d A2
  | res_4_mIYd_E (d : Byte)  -- FD CB d A3
  | res_4_mIYd_H (d : Byte)  -- FD CB d A4
  | res_4_mIYd_L (d : Byte)  -- FD CB d A5
  | res_4_mIYd (d : Byte)  -- FD CB d A6
  | res_4_mIYd_A (d : Byte)  -- FD CB d A7
  | res_5_mIYd_B (d : Byte)  -- FD CB d A8
  | res_5_mIYd_C (d : Byte)  -- FD CB d A9
  | res_5_mIYd_D (d : Byte)  -- FD CB d AA
  | res_5_mIYd_E (d : Byte)  -- FD CB d AB
  | res_5_mIYd_H (d : Byte)  -- FD CB d AC
  | res_5_mIYd_L (d : Byte)  -- FD CB d AD
  | res_5_mIYd (d : Byte)  -- FD CB d AE
  | res_5_mIYd_A (d : Byte)  -- FD CB d AF
  | res_6_mIYd_B (d : Byte)  -- FD CB d B0
  | res_6_mIYd_C (d : Byte)  -- FD CB d B1
  | res_6_mIYd_D (d : Byte)  -- FD CB d B2
  | res_6_mIYd_E (d : Byte)  -- FD CB d B3
  | res_6_mIYd_H (d : Byte)  -- FD CB d B4
  | res_6_mIYd_L (d : Byte)  -- FD CB d B5
  | res_6_mIYd (d : Byte)  -- FD CB d B6
  | res_6_mIYd_A (d : Byte)  -- FD CB d B7
  | res_7_mIYd_B (d : Byte)  -- FD CB d B8
  | res_7_mIYd_C (d : Byte)  -- FD CB d B9
  | res_7_mIYd_D (d : Byte)  -- FD CB d BA
  | res_7_mIYd_E (d : Byte)  -- FD CB d BB
  | res_7_mIYd_H (d : Byte)  -- FD CB d BC
  | res_7_mIYd_L (d : Byte)  -- FD CB d BD
  | res_7_mIYd (d : Byte)  -- FD CB d BE
  | res_7_mIYd_A (d : Byte)  -- FD CB d BF
  | set_0_mIYd_B (d : Byte)  -- FD CB d C0
  | set_0_mIYd_C (d : Byte)  -- FD CB d C1
  | set_0_mIYd_D (d : Byte)  -- FD CB d C2
  | set_0_mIYd_E (d : Byte)  -- FD CB d C3
  | set_0_mIYd_H (d : Byte)  -- FD CB d C4
  | set_0_mIYd_L (d : Byte)  -- FD CB d C5
  | set_0_mIYd (d : Byte)  -- FD CB d C6
  | set_0_mIYd_A (d : Byte)  -- FD CB d C7
  | set_1_mIYd_B (d : Byte)  -- FD CB d C8
  | set_1_mIYd_C (d : Byte)  -- FD CB d C9
  | set_1_mIYd_D (d : Byte)  -- FD CB d CA
  | set_1_mIYd_E (d : Byte)  -- FD CB d CB
  | set_1_mIYd_H (d : Byte)  -- FD CB d CC
  | set_1_mIYd_L (d : Byte)  -- FD CB d CD
  | set_1_mIYd (d : Byte)  -- FD CB d CE
  | set_1_mIYd_A (d : Byte)  -- FD CB d CF
  | set_2_mIYd_B (d : Byte)  -- FD CB d D0
  | set_2_mIYd_C (d : Byte)  -- FD CB d D1
  | set_2_mIYd_D (d : Byte)  -- FD CB d D2
  | set_2_mIYd_E (d : Byte)  -- FD CB d D3
  | set_2_mIYd_H (d : Byte)  -- FD CB d D4
  | set_2_mIYd_L (d : Byte)  -- FD CB d D5
  | set_2_mIYd (d : Byte)  -- FD CB d D6
  | set_2_mIYd_A (d : Byte)  -- FD CB d D7
  | set_3_mIYd_B (d : Byte)  -- FD CB d D8
  | set_3_mIYd_C (d : Byte)  -- FD CB d D9
  | set_3_mIYd_D (d : Byte)  -- FD CB d DA
  | set_3_mIYd_E (d : Byte)  -- FD CB d DB
  | set_3_mIYd_H (d : Byte)  -- FD CB d DC
  | set_3_mIYd_L (d : Byte)  -- FD CB d DD
  | set_3_mIYd (d : Byte)  -- FD CB d DE
  | set_3_mIYd_A (d : Byte)  -- FD CB d DF
  | set_4_mIYd_B (d : Byte)  -- FD CB d E0
  | set_4_mIYd_C (d : Byte)  -- FD CB d E1
  | set_4_mIYd_D (d : Byte)  -- FD CB d E2
  | set_4_mIYd_E (d : Byte)  -- FD CB d E3
  | set_4_mIYd_H (d : Byte)  -- FD CB d E4
  | set_4_mIYd_L (d : Byte)  -- FD CB d E5
  | set_4_mIYd (d : Byte)  -- FD CB d E6
  | set_4_mIYd_A (d : Byte)  -- FD CB d E7
  | set_5_mIYd_B (d : Byte)  -- FD CB d E8
  | set_5_mIYd_C (d : Byte)  -- FD CB d E9
  | set_5_mIYd_D (d : Byte)  -- FD CB d EA
  | set_5_mIYd_E (d : Byte)  -- FD CB d EB
  | set_5_mIYd_H (d : Byte)  -- FD CB d EC
  | set_5_mIYd_L (d : Byte)  -- FD CB d ED
  | set_5_mIYd (d : Byte)  -- FD CB d EE
  | set_5_mIYd_A (d : Byte)  -- FD CB d EF
  | set_6_mIYd_B (d : Byte)  -- FD CB d F0
  | set_6_mIYd_C (d : Byte)  -- FD CB d F1
  | set_6_mIYd_D (d : Byte)  -- FD CB d F2
  | set_6_mIYd_E (d : Byte)  -- FD CB d F3
  | set_6_mIYd_H (d : Byte)  -- FD CB d F4
  | set_6_mIYd_L (d : Byte)  -- FD CB d F5
  | set_6_mIYd (d : Byte)  -- FD CB d F6
  | set_6_mIYd_A (d : Byte)  -- FD CB d F7
  | set_7_mIYd_B (d : Byte)  -- FD CB d F8
  | set_7_mIYd_C (d : Byte)  -- FD CB d F9
  | set_7_mIYd_D (d : Byte)  -- FD CB d FA
  | set_7_mIYd_E (d : Byte)  -- FD CB d FB
  | set_7_mIYd_H (d : Byte)  -- FD CB d FC
  | set_7_mIYd_L (d : Byte)  -- FD CB d FD
  | set_7_mIYd (d : Byte)  -- FD CB d FE
  | set_7_mIYd_A (d : Byte)  -- FD CB d FF
  | redundant_FD  -- FD
  | ignored_FD_before_ED  -- FD

end Sys2Proof
end

