-- ==== Sys2Proof/WellFormed.lean ====
section
/-!
DEFINITION. The terms of `Instr` that an encoding exists for. Immediates, displacements, addresses and copy fields take
every value of their width; two fields do not.
-/

namespace Sys2Proof

/-- Well-formed instructions: `RETN` is not `ED 4D`, which is RETI, and an ED no-operation is one of the codes of
30_encoding.md R151 that no instruction has. Every other constructor has an encoding for all its operands. -/
def Instr.wellFormed (i : Instr) : Bool :=
  match i with
  | .retn y => decide (y ≠ 1)
  | .ed_nop op => isEdNoOperation op
  | _ => true

end Sys2Proof
end

