-- ==== Sys2Proof/Decode.lean ====
section
/-!
DEFINITION. The decoder, total on any bytes, and the encoder (30_encoding.md). The decoder is the spec's opcode grids
(section 5.1), written out row by row; the encoder is the byte formats of R130 and the opcode table.
-/

namespace Sys2Proof

/-! ## The opcode grids -/

/-- What an opcode makes with the bytes after it: nothing, one byte (n, d or e), a word (nn, low byte first), or a
displacement and a byte (R130, R138, R142). -/
inductive Entry where
  | i0 (i : Instr)
  | i1 (f : Byte → Instr)
  | i2 (f : Word → Instr)
  | i11 (f : Byte → Byte → Instr)

/-- What an opcode byte is: an instruction's, or one of the bytes CB, ED, DD, FD (R139). -/
inductive Slot where
  | ins (e : Entry)
  | cb
  | ed
  | dd
  | fd

noncomputable def mainRow0 : List Slot :=
  [.ins (.i0 .nop), .ins (.i2 .ld_BC_nn), .ins (.i0 .ld_mBC_A), .ins (.i0 .inc_BC), .ins (.i0 .inc_B),
   .ins (.i0 .dec_B), .ins (.i1 .ld_B_n), .ins (.i0 .rlca), .ins (.i0 .ex_AF_AF), .ins (.i0 .add_HL_BC),
   .ins (.i0 .ld_A_mBC), .ins (.i0 .dec_BC), .ins (.i0 .inc_C), .ins (.i0 .dec_C), .ins (.i1 .ld_C_n),
   .ins (.i0 .rrca)]

noncomputable def mainRow1 : List Slot :=
  [.ins (.i1 .djnz_e), .ins (.i2 .ld_DE_nn), .ins (.i0 .ld_mDE_A), .ins (.i0 .inc_DE), .ins (.i0 .inc_D),
   .ins (.i0 .dec_D), .ins (.i1 .ld_D_n), .ins (.i0 .rla), .ins (.i1 .jr_e), .ins (.i0 .add_HL_DE),
   .ins (.i0 .ld_A_mDE), .ins (.i0 .dec_DE), .ins (.i0 .inc_E), .ins (.i0 .dec_E), .ins (.i1 .ld_E_n),
   .ins (.i0 .rra)]

noncomputable def mainRow2 : List Slot :=
  [.ins (.i1 .jr_NZ_e), .ins (.i2 .ld_HL_nn), .ins (.i2 .ld_mnn_HL), .ins (.i0 .inc_HL), .ins (.i0 .inc_H),
   .ins (.i0 .dec_H), .ins (.i1 .ld_H_n), .ins (.i0 .daa), .ins (.i1 .jr_Z_e), .ins (.i0 .add_HL_HL),
   .ins (.i2 .ld_HL_mnn), .ins (.i0 .dec_HL), .ins (.i0 .inc_L), .ins (.i0 .dec_L), .ins (.i1 .ld_L_n),
   .ins (.i0 .cpl)]

noncomputable def mainRow3 : List Slot :=
  [.ins (.i1 .jr_NC_e), .ins (.i2 .ld_SP_nn), .ins (.i2 .ld_mnn_A), .ins (.i0 .inc_SP), .ins (.i0 .inc_mHL),
   .ins (.i0 .dec_mHL), .ins (.i1 .ld_mHL_n), .ins (.i0 .scf), .ins (.i1 .jr_C_e), .ins (.i0 .add_HL_SP),
   .ins (.i2 .ld_A_mnn), .ins (.i0 .dec_SP), .ins (.i0 .inc_A), .ins (.i0 .dec_A), .ins (.i1 .ld_A_n),
   .ins (.i0 .ccf)]

noncomputable def mainRow4 : List Slot :=
  [.ins (.i0 .ld_B_B), .ins (.i0 .ld_B_C), .ins (.i0 .ld_B_D), .ins (.i0 .ld_B_E), .ins (.i0 .ld_B_H),
   .ins (.i0 .ld_B_L), .ins (.i0 .ld_B_mHL), .ins (.i0 .ld_B_A), .ins (.i0 .ld_C_B), .ins (.i0 .ld_C_C),
   .ins (.i0 .ld_C_D), .ins (.i0 .ld_C_E), .ins (.i0 .ld_C_H), .ins (.i0 .ld_C_L), .ins (.i0 .ld_C_mHL),
   .ins (.i0 .ld_C_A)]

noncomputable def mainRow5 : List Slot :=
  [.ins (.i0 .ld_D_B), .ins (.i0 .ld_D_C), .ins (.i0 .ld_D_D), .ins (.i0 .ld_D_E), .ins (.i0 .ld_D_H),
   .ins (.i0 .ld_D_L), .ins (.i0 .ld_D_mHL), .ins (.i0 .ld_D_A), .ins (.i0 .ld_E_B), .ins (.i0 .ld_E_C),
   .ins (.i0 .ld_E_D), .ins (.i0 .ld_E_E), .ins (.i0 .ld_E_H), .ins (.i0 .ld_E_L), .ins (.i0 .ld_E_mHL),
   .ins (.i0 .ld_E_A)]

noncomputable def mainRow6 : List Slot :=
  [.ins (.i0 .ld_H_B), .ins (.i0 .ld_H_C), .ins (.i0 .ld_H_D), .ins (.i0 .ld_H_E), .ins (.i0 .ld_H_H),
   .ins (.i0 .ld_H_L), .ins (.i0 .ld_H_mHL), .ins (.i0 .ld_H_A), .ins (.i0 .ld_L_B), .ins (.i0 .ld_L_C),
   .ins (.i0 .ld_L_D), .ins (.i0 .ld_L_E), .ins (.i0 .ld_L_H), .ins (.i0 .ld_L_L), .ins (.i0 .ld_L_mHL),
   .ins (.i0 .ld_L_A)]

noncomputable def mainRow7 : List Slot :=
  [.ins (.i0 .ld_mHL_B), .ins (.i0 .ld_mHL_C), .ins (.i0 .ld_mHL_D), .ins (.i0 .ld_mHL_E), .ins (.i0 .ld_mHL_H),
   .ins (.i0 .ld_mHL_L), .ins (.i0 .halt), .ins (.i0 .ld_mHL_A), .ins (.i0 .ld_A_B), .ins (.i0 .ld_A_C),
   .ins (.i0 .ld_A_D), .ins (.i0 .ld_A_E), .ins (.i0 .ld_A_H), .ins (.i0 .ld_A_L), .ins (.i0 .ld_A_mHL),
   .ins (.i0 .ld_A_A)]

noncomputable def mainRow8 : List Slot :=
  [.ins (.i0 .add_A_B), .ins (.i0 .add_A_C), .ins (.i0 .add_A_D), .ins (.i0 .add_A_E), .ins (.i0 .add_A_H),
   .ins (.i0 .add_A_L), .ins (.i0 .add_A_mHL), .ins (.i0 .add_A_A), .ins (.i0 .adc_A_B), .ins (.i0 .adc_A_C),
   .ins (.i0 .adc_A_D), .ins (.i0 .adc_A_E), .ins (.i0 .adc_A_H), .ins (.i0 .adc_A_L), .ins (.i0 .adc_A_mHL),
   .ins (.i0 .adc_A_A)]

noncomputable def mainRow9 : List Slot :=
  [.ins (.i0 .sub_B), .ins (.i0 .sub_C), .ins (.i0 .sub_D), .ins (.i0 .sub_E), .ins (.i0 .sub_H), .ins (.i0 .sub_L),
   .ins (.i0 .sub_mHL), .ins (.i0 .sub_A), .ins (.i0 .sbc_A_B), .ins (.i0 .sbc_A_C), .ins (.i0 .sbc_A_D),
   .ins (.i0 .sbc_A_E), .ins (.i0 .sbc_A_H), .ins (.i0 .sbc_A_L), .ins (.i0 .sbc_A_mHL), .ins (.i0 .sbc_A_A)]

noncomputable def mainRowA : List Slot :=
  [.ins (.i0 .and_B), .ins (.i0 .and_C), .ins (.i0 .and_D), .ins (.i0 .and_E), .ins (.i0 .and_H), .ins (.i0 .and_L),
   .ins (.i0 .and_mHL), .ins (.i0 .and_A), .ins (.i0 .xor_B), .ins (.i0 .xor_C), .ins (.i0 .xor_D),
   .ins (.i0 .xor_E), .ins (.i0 .xor_H), .ins (.i0 .xor_L), .ins (.i0 .xor_mHL), .ins (.i0 .xor_A)]

noncomputable def mainRowB : List Slot :=
  [.ins (.i0 .or_B), .ins (.i0 .or_C), .ins (.i0 .or_D), .ins (.i0 .or_E), .ins (.i0 .or_H), .ins (.i0 .or_L),
   .ins (.i0 .or_mHL), .ins (.i0 .or_A), .ins (.i0 .cp_B), .ins (.i0 .cp_C), .ins (.i0 .cp_D), .ins (.i0 .cp_E),
   .ins (.i0 .cp_H), .ins (.i0 .cp_L), .ins (.i0 .cp_mHL), .ins (.i0 .cp_A)]

noncomputable def mainRowC : List Slot :=
  [.ins (.i0 .ret_NZ), .ins (.i0 .pop_BC), .ins (.i2 .jp_NZ_nn), .ins (.i2 .jp_nn), .ins (.i2 .call_NZ_nn),
   .ins (.i0 .push_BC), .ins (.i1 .add_A_n), .ins (.i0 .rst_00h), .ins (.i0 .ret_Z), .ins (.i0 .ret),
   .ins (.i2 .jp_Z_nn), .cb, .ins (.i2 .call_Z_nn), .ins (.i2 .call_nn), .ins (.i1 .adc_A_n), .ins (.i0 .rst_08h)]

noncomputable def mainRowD : List Slot :=
  [.ins (.i0 .ret_NC), .ins (.i0 .pop_DE), .ins (.i2 .jp_NC_nn), .ins (.i1 .out_mn_A), .ins (.i2 .call_NC_nn),
   .ins (.i0 .push_DE), .ins (.i1 .sub_n), .ins (.i0 .rst_10h), .ins (.i0 .ret_C), .ins (.i0 .exx),
   .ins (.i2 .jp_C_nn), .ins (.i1 .in_A_mn), .ins (.i2 .call_C_nn), .dd, .ins (.i1 .sbc_A_n), .ins (.i0 .rst_18h)]

noncomputable def mainRowE : List Slot :=
  [.ins (.i0 .ret_PO), .ins (.i0 .pop_HL), .ins (.i2 .jp_PO_nn), .ins (.i0 .ex_mSP_HL), .ins (.i2 .call_PO_nn),
   .ins (.i0 .push_HL), .ins (.i1 .and_n), .ins (.i0 .rst_20h), .ins (.i0 .ret_PE), .ins (.i0 .jp_mHL),
   .ins (.i2 .jp_PE_nn), .ins (.i0 .ex_DE_HL), .ins (.i2 .call_PE_nn), .ed, .ins (.i1 .xor_n), .ins (.i0 .rst_28h)]

noncomputable def mainRowF : List Slot :=
  [.ins (.i0 .ret_P), .ins (.i0 .pop_AF), .ins (.i2 .jp_P_nn), .ins (.i0 .di), .ins (.i2 .call_P_nn),
   .ins (.i0 .push_AF), .ins (.i1 .or_n), .ins (.i0 .rst_30h), .ins (.i0 .ret_M), .ins (.i0 .ld_SP_HL),
   .ins (.i2 .jp_M_nn), .ins (.i0 .ei), .ins (.i2 .call_M_nn), .fd, .ins (.i1 .cp_n), .ins (.i0 .rst_38h)]

/-- The unprefixed opcodes, row by high nibble (R152 to R155). -/
noncomputable def mainRows : List (List Slot) :=
  [mainRow0, mainRow1, mainRow2, mainRow3, mainRow4, mainRow5, mainRow6, mainRow7,
   mainRow8, mainRow9, mainRowA, mainRowB, mainRowC, mainRowD, mainRowE, mainRowF]

noncomputable def cbRow0 : List Instr :=
  [.rlc_B, .rlc_C, .rlc_D, .rlc_E, .rlc_H, .rlc_L, .rlc_mHL, .rlc_A, .rrc_B, .rrc_C, .rrc_D, .rrc_E, .rrc_H, .rrc_L,
   .rrc_mHL, .rrc_A]

noncomputable def cbRow1 : List Instr :=
  [.rl_B, .rl_C, .rl_D, .rl_E, .rl_H, .rl_L, .rl_mHL, .rl_A, .rr_B, .rr_C, .rr_D, .rr_E, .rr_H, .rr_L, .rr_mHL, .rr_A]

noncomputable def cbRow2 : List Instr :=
  [.sla_B, .sla_C, .sla_D, .sla_E, .sla_H, .sla_L, .sla_mHL, .sla_A, .sra_B, .sra_C, .sra_D, .sra_E, .sra_H, .sra_L,
   .sra_mHL, .sra_A]

noncomputable def cbRow3 : List Instr :=
  [.sll_B, .sll_C, .sll_D, .sll_E, .sll_H, .sll_L, .sll_mHL, .sll_A, .srl_B, .srl_C, .srl_D, .srl_E, .srl_H, .srl_L,
   .srl_mHL, .srl_A]

noncomputable def cbRow4 : List Instr :=
  [.bit_0_B, .bit_0_C, .bit_0_D, .bit_0_E, .bit_0_H, .bit_0_L, .bit_0_mHL, .bit_0_A, .bit_1_B, .bit_1_C, .bit_1_D,
   .bit_1_E, .bit_1_H, .bit_1_L, .bit_1_mHL, .bit_1_A]

noncomputable def cbRow5 : List Instr :=
  [.bit_2_B, .bit_2_C, .bit_2_D, .bit_2_E, .bit_2_H, .bit_2_L, .bit_2_mHL, .bit_2_A, .bit_3_B, .bit_3_C, .bit_3_D,
   .bit_3_E, .bit_3_H, .bit_3_L, .bit_3_mHL, .bit_3_A]

noncomputable def cbRow6 : List Instr :=
  [.bit_4_B, .bit_4_C, .bit_4_D, .bit_4_E, .bit_4_H, .bit_4_L, .bit_4_mHL, .bit_4_A, .bit_5_B, .bit_5_C, .bit_5_D,
   .bit_5_E, .bit_5_H, .bit_5_L, .bit_5_mHL, .bit_5_A]

noncomputable def cbRow7 : List Instr :=
  [.bit_6_B, .bit_6_C, .bit_6_D, .bit_6_E, .bit_6_H, .bit_6_L, .bit_6_mHL, .bit_6_A, .bit_7_B, .bit_7_C, .bit_7_D,
   .bit_7_E, .bit_7_H, .bit_7_L, .bit_7_mHL, .bit_7_A]

noncomputable def cbRow8 : List Instr :=
  [.res_0_B, .res_0_C, .res_0_D, .res_0_E, .res_0_H, .res_0_L, .res_0_mHL, .res_0_A, .res_1_B, .res_1_C, .res_1_D,
   .res_1_E, .res_1_H, .res_1_L, .res_1_mHL, .res_1_A]

noncomputable def cbRow9 : List Instr :=
  [.res_2_B, .res_2_C, .res_2_D, .res_2_E, .res_2_H, .res_2_L, .res_2_mHL, .res_2_A, .res_3_B, .res_3_C, .res_3_D,
   .res_3_E, .res_3_H, .res_3_L, .res_3_mHL, .res_3_A]

noncomputable def cbRowA : List Instr :=
  [.res_4_B, .res_4_C, .res_4_D, .res_4_E, .res_4_H, .res_4_L, .res_4_mHL, .res_4_A, .res_5_B, .res_5_C, .res_5_D,
   .res_5_E, .res_5_H, .res_5_L, .res_5_mHL, .res_5_A]

noncomputable def cbRowB : List Instr :=
  [.res_6_B, .res_6_C, .res_6_D, .res_6_E, .res_6_H, .res_6_L, .res_6_mHL, .res_6_A, .res_7_B, .res_7_C, .res_7_D,
   .res_7_E, .res_7_H, .res_7_L, .res_7_mHL, .res_7_A]

noncomputable def cbRowC : List Instr :=
  [.set_0_B, .set_0_C, .set_0_D, .set_0_E, .set_0_H, .set_0_L, .set_0_mHL, .set_0_A, .set_1_B, .set_1_C, .set_1_D,
   .set_1_E, .set_1_H, .set_1_L, .set_1_mHL, .set_1_A]

noncomputable def cbRowD : List Instr :=
  [.set_2_B, .set_2_C, .set_2_D, .set_2_E, .set_2_H, .set_2_L, .set_2_mHL, .set_2_A, .set_3_B, .set_3_C, .set_3_D,
   .set_3_E, .set_3_H, .set_3_L, .set_3_mHL, .set_3_A]

noncomputable def cbRowE : List Instr :=
  [.set_4_B, .set_4_C, .set_4_D, .set_4_E, .set_4_H, .set_4_L, .set_4_mHL, .set_4_A, .set_5_B, .set_5_C, .set_5_D,
   .set_5_E, .set_5_H, .set_5_L, .set_5_mHL, .set_5_A]

noncomputable def cbRowF : List Instr :=
  [.set_6_B, .set_6_C, .set_6_D, .set_6_E, .set_6_H, .set_6_L, .set_6_mHL, .set_6_A, .set_7_B, .set_7_C, .set_7_D,
   .set_7_E, .set_7_H, .set_7_L, .set_7_mHL, .set_7_A]

/-- The opcodes after CB (R149). -/
noncomputable def cbRows : List (List Instr) :=
  [cbRow0, cbRow1, cbRow2, cbRow3, cbRow4, cbRow5, cbRow6, cbRow7,
   cbRow8, cbRow9, cbRowA, cbRowB, cbRowC, cbRowD, cbRowE, cbRowF]

noncomputable def edRow0 : List Entry :=
  [.i0 (.ed_nop 0x00), .i0 (.ed_nop 0x01), .i0 (.ed_nop 0x02), .i0 (.ed_nop 0x03), .i0 (.ed_nop 0x04),
   .i0 (.ed_nop 0x05), .i0 (.ed_nop 0x06), .i0 (.ed_nop 0x07), .i0 (.ed_nop 0x08), .i0 (.ed_nop 0x09),
   .i0 (.ed_nop 0x0A), .i0 (.ed_nop 0x0B), .i0 (.ed_nop 0x0C), .i0 (.ed_nop 0x0D), .i0 (.ed_nop 0x0E),
   .i0 (.ed_nop 0x0F)]

noncomputable def edRow1 : List Entry :=
  [.i0 (.ed_nop 0x10), .i0 (.ed_nop 0x11), .i0 (.ed_nop 0x12), .i0 (.ed_nop 0x13), .i0 (.ed_nop 0x14),
   .i0 (.ed_nop 0x15), .i0 (.ed_nop 0x16), .i0 (.ed_nop 0x17), .i0 (.ed_nop 0x18), .i0 (.ed_nop 0x19),
   .i0 (.ed_nop 0x1A), .i0 (.ed_nop 0x1B), .i0 (.ed_nop 0x1C), .i0 (.ed_nop 0x1D), .i0 (.ed_nop 0x1E),
   .i0 (.ed_nop 0x1F)]

noncomputable def edRow2 : List Entry :=
  [.i0 (.ed_nop 0x20), .i0 (.ed_nop 0x21), .i0 (.ed_nop 0x22), .i0 (.ed_nop 0x23), .i0 (.ed_nop 0x24),
   .i0 (.ed_nop 0x25), .i0 (.ed_nop 0x26), .i0 (.ed_nop 0x27), .i0 (.ed_nop 0x28), .i0 (.ed_nop 0x29),
   .i0 (.ed_nop 0x2A), .i0 (.ed_nop 0x2B), .i0 (.ed_nop 0x2C), .i0 (.ed_nop 0x2D), .i0 (.ed_nop 0x2E),
   .i0 (.ed_nop 0x2F)]

noncomputable def edRow3 : List Entry :=
  [.i0 (.ed_nop 0x30), .i0 (.ed_nop 0x31), .i0 (.ed_nop 0x32), .i0 (.ed_nop 0x33), .i0 (.ed_nop 0x34),
   .i0 (.ed_nop 0x35), .i0 (.ed_nop 0x36), .i0 (.ed_nop 0x37), .i0 (.ed_nop 0x38), .i0 (.ed_nop 0x39),
   .i0 (.ed_nop 0x3A), .i0 (.ed_nop 0x3B), .i0 (.ed_nop 0x3C), .i0 (.ed_nop 0x3D), .i0 (.ed_nop 0x3E),
   .i0 (.ed_nop 0x3F)]

noncomputable def edRow4 : List Entry :=
  [.i0 .in_B_mC, .i0 .out_mC_B, .i0 .sbc_HL_BC, .i2 .ld_mnn_BC, .i0 (.neg 0), .i0 (.retn 0), .i0 (.im_0 false),
   .i0 .ld_I_A, .i0 .in_C_mC, .i0 .out_mC_C, .i0 .adc_HL_BC, .i2 .ld_BC_mnn, .i0 (.neg 1), .i0 .reti,
   .i0 (.im_0_mirror false), .i0 .ld_R_A]

noncomputable def edRow5 : List Entry :=
  [.i0 .in_D_mC, .i0 .out_mC_D, .i0 .sbc_HL_DE, .i2 .ld_mnn_DE, .i0 (.neg 2), .i0 (.retn 2), .i0 (.im_1 false),
   .i0 .ld_A_I, .i0 .in_E_mC, .i0 .out_mC_E, .i0 .adc_HL_DE, .i2 .ld_DE_mnn, .i0 (.neg 3), .i0 (.retn 3),
   .i0 (.im_2 false), .i0 .ld_A_R]

noncomputable def edRow6 : List Entry :=
  [.i0 .in_H_mC, .i0 .out_mC_H, .i0 .sbc_HL_HL, .i2 .ld_mnn_HL_ed, .i0 (.neg 4), .i0 (.retn 4), .i0 (.im_0 true),
   .i0 .rrd, .i0 .in_L_mC, .i0 .out_mC_L, .i0 .adc_HL_HL, .i2 .ld_HL_mnn_ed, .i0 (.neg 5), .i0 (.retn 5),
   .i0 (.im_0_mirror true), .i0 .rld]

noncomputable def edRow7 : List Entry :=
  [.i0 .in_mC, .i0 .out_mC_0, .i0 .sbc_HL_SP, .i2 .ld_mnn_SP, .i0 (.neg 6), .i0 (.retn 6), .i0 (.im_1 true),
   .i0 (.ed_nop 0x77), .i0 .in_A_mC, .i0 .out_mC_A, .i0 .adc_HL_SP, .i2 .ld_SP_mnn, .i0 (.neg 7), .i0 (.retn 7),
   .i0 (.im_2 true), .i0 (.ed_nop 0x7F)]

noncomputable def edRow8 : List Entry :=
  [.i0 (.ed_nop 0x80), .i0 (.ed_nop 0x81), .i0 (.ed_nop 0x82), .i0 (.ed_nop 0x83), .i0 (.ed_nop 0x84),
   .i0 (.ed_nop 0x85), .i0 (.ed_nop 0x86), .i0 (.ed_nop 0x87), .i0 (.ed_nop 0x88), .i0 (.ed_nop 0x89),
   .i0 (.ed_nop 0x8A), .i0 (.ed_nop 0x8B), .i0 (.ed_nop 0x8C), .i0 (.ed_nop 0x8D), .i0 (.ed_nop 0x8E),
   .i0 (.ed_nop 0x8F)]

noncomputable def edRow9 : List Entry :=
  [.i0 (.ed_nop 0x90), .i0 (.ed_nop 0x91), .i0 (.ed_nop 0x92), .i0 (.ed_nop 0x93), .i0 (.ed_nop 0x94),
   .i0 (.ed_nop 0x95), .i0 (.ed_nop 0x96), .i0 (.ed_nop 0x97), .i0 (.ed_nop 0x98), .i0 (.ed_nop 0x99),
   .i0 (.ed_nop 0x9A), .i0 (.ed_nop 0x9B), .i0 (.ed_nop 0x9C), .i0 (.ed_nop 0x9D), .i0 (.ed_nop 0x9E),
   .i0 (.ed_nop 0x9F)]

noncomputable def edRowA : List Entry :=
  [.i0 .ldi, .i0 .cpi, .i0 .ini, .i0 .outi, .i0 (.ed_nop 0xA4), .i0 (.ed_nop 0xA5), .i0 (.ed_nop 0xA6),
   .i0 (.ed_nop 0xA7), .i0 .ldd, .i0 .cpd, .i0 .ind, .i0 .outd, .i0 (.ed_nop 0xAC), .i0 (.ed_nop 0xAD),
   .i0 (.ed_nop 0xAE), .i0 (.ed_nop 0xAF)]

noncomputable def edRowB : List Entry :=
  [.i0 .ldir, .i0 .cpir, .i0 .inir, .i0 .otir, .i0 (.ed_nop 0xB4), .i0 (.ed_nop 0xB5), .i0 (.ed_nop 0xB6),
   .i0 (.ed_nop 0xB7), .i0 .lddr, .i0 .cpdr, .i0 .indr, .i0 .otdr, .i0 (.ed_nop 0xBC), .i0 (.ed_nop 0xBD),
   .i0 (.ed_nop 0xBE), .i0 (.ed_nop 0xBF)]

noncomputable def edRowC : List Entry :=
  [.i0 (.ed_nop 0xC0), .i0 (.ed_nop 0xC1), .i0 (.ed_nop 0xC2), .i0 (.ed_nop 0xC3), .i0 (.ed_nop 0xC4),
   .i0 (.ed_nop 0xC5), .i0 (.ed_nop 0xC6), .i0 (.ed_nop 0xC7), .i0 (.ed_nop 0xC8), .i0 (.ed_nop 0xC9),
   .i0 (.ed_nop 0xCA), .i0 (.ed_nop 0xCB), .i0 (.ed_nop 0xCC), .i0 (.ed_nop 0xCD), .i0 (.ed_nop 0xCE),
   .i0 (.ed_nop 0xCF)]

noncomputable def edRowD : List Entry :=
  [.i0 (.ed_nop 0xD0), .i0 (.ed_nop 0xD1), .i0 (.ed_nop 0xD2), .i0 (.ed_nop 0xD3), .i0 (.ed_nop 0xD4),
   .i0 (.ed_nop 0xD5), .i0 (.ed_nop 0xD6), .i0 (.ed_nop 0xD7), .i0 (.ed_nop 0xD8), .i0 (.ed_nop 0xD9),
   .i0 (.ed_nop 0xDA), .i0 (.ed_nop 0xDB), .i0 (.ed_nop 0xDC), .i0 (.ed_nop 0xDD), .i0 (.ed_nop 0xDE),
   .i0 (.ed_nop 0xDF)]

noncomputable def edRowE : List Entry :=
  [.i0 (.ed_nop 0xE0), .i0 (.ed_nop 0xE1), .i0 (.ed_nop 0xE2), .i0 (.ed_nop 0xE3), .i0 (.ed_nop 0xE4),
   .i0 (.ed_nop 0xE5), .i0 (.ed_nop 0xE6), .i0 (.ed_nop 0xE7), .i0 (.ed_nop 0xE8), .i0 (.ed_nop 0xE9),
   .i0 (.ed_nop 0xEA), .i0 (.ed_nop 0xEB), .i0 (.ed_nop 0xEC), .i0 (.ed_nop 0xED), .i0 (.ed_nop 0xEE),
   .i0 (.ed_nop 0xEF)]

noncomputable def edRowF : List Entry :=
  [.i0 (.ed_nop 0xF0), .i0 (.ed_nop 0xF1), .i0 (.ed_nop 0xF2), .i0 (.ed_nop 0xF3), .i0 (.ed_nop 0xF4),
   .i0 (.ed_nop 0xF5), .i0 (.ed_nop 0xF6), .i0 (.ed_nop 0xF7), .i0 (.ed_nop 0xF8), .i0 (.ed_nop 0xF9),
   .i0 (.ed_nop 0xFA), .i0 (.ed_nop 0xFB), .i0 (.ed_nop 0xFC), .i0 (.ed_nop 0xFD), .i0 (.ed_nop 0xFE),
   .i0 (.ed_nop 0xFF)]

/-- The opcodes after ED (R151). -/
noncomputable def edRows : List (List Entry) :=
  [edRow0, edRow1, edRow2, edRow3, edRow4, edRow5, edRow6, edRow7,
   edRow8, edRow9, edRowA, edRowB, edRowC, edRowD, edRowE, edRowF]

noncomputable def ddRow0 : List Slot :=
  [.ins (.i0 .dd_nop), .ins (.i2 .dd_ld_BC_nn), .ins (.i0 .dd_ld_mBC_A), .ins (.i0 .dd_inc_BC), .ins (.i0 .dd_inc_B),
   .ins (.i0 .dd_dec_B), .ins (.i1 .dd_ld_B_n), .ins (.i0 .dd_rlca), .ins (.i0 .dd_ex_AF_AF), .ins (.i0 .add_IX_BC),
   .ins (.i0 .dd_ld_A_mBC), .ins (.i0 .dd_dec_BC), .ins (.i0 .dd_inc_C), .ins (.i0 .dd_dec_C), .ins (.i1 .dd_ld_C_n),
   .ins (.i0 .dd_rrca)]

noncomputable def ddRow1 : List Slot :=
  [.ins (.i1 .dd_djnz_e), .ins (.i2 .dd_ld_DE_nn), .ins (.i0 .dd_ld_mDE_A), .ins (.i0 .dd_inc_DE),
   .ins (.i0 .dd_inc_D), .ins (.i0 .dd_dec_D), .ins (.i1 .dd_ld_D_n), .ins (.i0 .dd_rla), .ins (.i1 .dd_jr_e),
   .ins (.i0 .add_IX_DE), .ins (.i0 .dd_ld_A_mDE), .ins (.i0 .dd_dec_DE), .ins (.i0 .dd_inc_E), .ins (.i0 .dd_dec_E),
   .ins (.i1 .dd_ld_E_n), .ins (.i0 .dd_rra)]

noncomputable def ddRow2 : List Slot :=
  [.ins (.i1 .dd_jr_NZ_e), .ins (.i2 .ld_IX_nn), .ins (.i2 .ld_mnn_IX), .ins (.i0 .inc_IX), .ins (.i0 .inc_IXH),
   .ins (.i0 .dec_IXH), .ins (.i1 .ld_IXH_n), .ins (.i0 .dd_daa), .ins (.i1 .dd_jr_Z_e), .ins (.i0 .add_IX_IX),
   .ins (.i2 .ld_IX_mnn), .ins (.i0 .dec_IX), .ins (.i0 .inc_IXL), .ins (.i0 .dec_IXL), .ins (.i1 .ld_IXL_n),
   .ins (.i0 .dd_cpl)]

noncomputable def ddRow3 : List Slot :=
  [.ins (.i1 .dd_jr_NC_e), .ins (.i2 .dd_ld_SP_nn), .ins (.i2 .dd_ld_mnn_A), .ins (.i0 .dd_inc_SP),
   .ins (.i1 .inc_mIXd), .ins (.i1 .dec_mIXd), .ins (.i11 .ld_mIXd_n), .ins (.i0 .dd_scf), .ins (.i1 .dd_jr_C_e),
   .ins (.i0 .add_IX_SP), .ins (.i2 .dd_ld_A_mnn), .ins (.i0 .dd_dec_SP), .ins (.i0 .dd_inc_A), .ins (.i0 .dd_dec_A),
   .ins (.i1 .dd_ld_A_n), .ins (.i0 .dd_ccf)]

noncomputable def ddRow4 : List Slot :=
  [.ins (.i0 .dd_ld_B_B), .ins (.i0 .dd_ld_B_C), .ins (.i0 .dd_ld_B_D), .ins (.i0 .dd_ld_B_E), .ins (.i0 .ld_B_IXH),
   .ins (.i0 .ld_B_IXL), .ins (.i1 .ld_B_mIXd), .ins (.i0 .dd_ld_B_A), .ins (.i0 .dd_ld_C_B), .ins (.i0 .dd_ld_C_C),
   .ins (.i0 .dd_ld_C_D), .ins (.i0 .dd_ld_C_E), .ins (.i0 .ld_C_IXH), .ins (.i0 .ld_C_IXL), .ins (.i1 .ld_C_mIXd),
   .ins (.i0 .dd_ld_C_A)]

noncomputable def ddRow5 : List Slot :=
  [.ins (.i0 .dd_ld_D_B), .ins (.i0 .dd_ld_D_C), .ins (.i0 .dd_ld_D_D), .ins (.i0 .dd_ld_D_E), .ins (.i0 .ld_D_IXH),
   .ins (.i0 .ld_D_IXL), .ins (.i1 .ld_D_mIXd), .ins (.i0 .dd_ld_D_A), .ins (.i0 .dd_ld_E_B), .ins (.i0 .dd_ld_E_C),
   .ins (.i0 .dd_ld_E_D), .ins (.i0 .dd_ld_E_E), .ins (.i0 .ld_E_IXH), .ins (.i0 .ld_E_IXL), .ins (.i1 .ld_E_mIXd),
   .ins (.i0 .dd_ld_E_A)]

noncomputable def ddRow6 : List Slot :=
  [.ins (.i0 .ld_IXH_B), .ins (.i0 .ld_IXH_C), .ins (.i0 .ld_IXH_D), .ins (.i0 .ld_IXH_E), .ins (.i0 .ld_IXH_IXH),
   .ins (.i0 .ld_IXH_IXL), .ins (.i1 .ld_H_mIXd), .ins (.i0 .ld_IXH_A), .ins (.i0 .ld_IXL_B), .ins (.i0 .ld_IXL_C),
   .ins (.i0 .ld_IXL_D), .ins (.i0 .ld_IXL_E), .ins (.i0 .ld_IXL_IXH), .ins (.i0 .ld_IXL_IXL), .ins (.i1 .ld_L_mIXd),
   .ins (.i0 .ld_IXL_A)]

noncomputable def ddRow7 : List Slot :=
  [.ins (.i1 .ld_mIXd_B), .ins (.i1 .ld_mIXd_C), .ins (.i1 .ld_mIXd_D), .ins (.i1 .ld_mIXd_E), .ins (.i1 .ld_mIXd_H),
   .ins (.i1 .ld_mIXd_L), .ins (.i0 .dd_halt), .ins (.i1 .ld_mIXd_A), .ins (.i0 .dd_ld_A_B), .ins (.i0 .dd_ld_A_C),
   .ins (.i0 .dd_ld_A_D), .ins (.i0 .dd_ld_A_E), .ins (.i0 .ld_A_IXH), .ins (.i0 .ld_A_IXL), .ins (.i1 .ld_A_mIXd),
   .ins (.i0 .dd_ld_A_A)]

noncomputable def ddRow8 : List Slot :=
  [.ins (.i0 .dd_add_A_B), .ins (.i0 .dd_add_A_C), .ins (.i0 .dd_add_A_D), .ins (.i0 .dd_add_A_E),
   .ins (.i0 .add_A_IXH), .ins (.i0 .add_A_IXL), .ins (.i1 .add_A_mIXd), .ins (.i0 .dd_add_A_A),
   .ins (.i0 .dd_adc_A_B), .ins (.i0 .dd_adc_A_C), .ins (.i0 .dd_adc_A_D), .ins (.i0 .dd_adc_A_E),
   .ins (.i0 .adc_A_IXH), .ins (.i0 .adc_A_IXL), .ins (.i1 .adc_A_mIXd), .ins (.i0 .dd_adc_A_A)]

noncomputable def ddRow9 : List Slot :=
  [.ins (.i0 .dd_sub_B), .ins (.i0 .dd_sub_C), .ins (.i0 .dd_sub_D), .ins (.i0 .dd_sub_E), .ins (.i0 .sub_IXH),
   .ins (.i0 .sub_IXL), .ins (.i1 .sub_mIXd), .ins (.i0 .dd_sub_A), .ins (.i0 .dd_sbc_A_B), .ins (.i0 .dd_sbc_A_C),
   .ins (.i0 .dd_sbc_A_D), .ins (.i0 .dd_sbc_A_E), .ins (.i0 .sbc_A_IXH), .ins (.i0 .sbc_A_IXL),
   .ins (.i1 .sbc_A_mIXd), .ins (.i0 .dd_sbc_A_A)]

noncomputable def ddRowA : List Slot :=
  [.ins (.i0 .dd_and_B), .ins (.i0 .dd_and_C), .ins (.i0 .dd_and_D), .ins (.i0 .dd_and_E), .ins (.i0 .and_IXH),
   .ins (.i0 .and_IXL), .ins (.i1 .and_mIXd), .ins (.i0 .dd_and_A), .ins (.i0 .dd_xor_B), .ins (.i0 .dd_xor_C),
   .ins (.i0 .dd_xor_D), .ins (.i0 .dd_xor_E), .ins (.i0 .xor_IXH), .ins (.i0 .xor_IXL), .ins (.i1 .xor_mIXd),
   .ins (.i0 .dd_xor_A)]

noncomputable def ddRowB : List Slot :=
  [.ins (.i0 .dd_or_B), .ins (.i0 .dd_or_C), .ins (.i0 .dd_or_D), .ins (.i0 .dd_or_E), .ins (.i0 .or_IXH),
   .ins (.i0 .or_IXL), .ins (.i1 .or_mIXd), .ins (.i0 .dd_or_A), .ins (.i0 .dd_cp_B), .ins (.i0 .dd_cp_C),
   .ins (.i0 .dd_cp_D), .ins (.i0 .dd_cp_E), .ins (.i0 .cp_IXH), .ins (.i0 .cp_IXL), .ins (.i1 .cp_mIXd),
   .ins (.i0 .dd_cp_A)]

noncomputable def ddRowC : List Slot :=
  [.ins (.i0 .dd_ret_NZ), .ins (.i0 .dd_pop_BC), .ins (.i2 .dd_jp_NZ_nn), .ins (.i2 .dd_jp_nn),
   .ins (.i2 .dd_call_NZ_nn), .ins (.i0 .dd_push_BC), .ins (.i1 .dd_add_A_n), .ins (.i0 .dd_rst_00h),
   .ins (.i0 .dd_ret_Z), .ins (.i0 .dd_ret), .ins (.i2 .dd_jp_Z_nn), .cb, .ins (.i2 .dd_call_Z_nn),
   .ins (.i2 .dd_call_nn), .ins (.i1 .dd_adc_A_n), .ins (.i0 .dd_rst_08h)]

noncomputable def ddRowD : List Slot :=
  [.ins (.i0 .dd_ret_NC), .ins (.i0 .dd_pop_DE), .ins (.i2 .dd_jp_NC_nn), .ins (.i1 .dd_out_mn_A),
   .ins (.i2 .dd_call_NC_nn), .ins (.i0 .dd_push_DE), .ins (.i1 .dd_sub_n), .ins (.i0 .dd_rst_10h),
   .ins (.i0 .dd_ret_C), .ins (.i0 .dd_exx), .ins (.i2 .dd_jp_C_nn), .ins (.i1 .dd_in_A_mn),
   .ins (.i2 .dd_call_C_nn), .dd, .ins (.i1 .dd_sbc_A_n), .ins (.i0 .dd_rst_18h)]

noncomputable def ddRowE : List Slot :=
  [.ins (.i0 .dd_ret_PO), .ins (.i0 .pop_IX), .ins (.i2 .dd_jp_PO_nn), .ins (.i0 .ex_mSP_IX),
   .ins (.i2 .dd_call_PO_nn), .ins (.i0 .push_IX), .ins (.i1 .dd_and_n), .ins (.i0 .dd_rst_20h),
   .ins (.i0 .dd_ret_PE), .ins (.i0 .jp_mIX), .ins (.i2 .dd_jp_PE_nn), .ins (.i0 .dd_ex_DE_HL),
   .ins (.i2 .dd_call_PE_nn), .ed, .ins (.i1 .dd_xor_n), .ins (.i0 .dd_rst_28h)]

noncomputable def ddRowF : List Slot :=
  [.ins (.i0 .dd_ret_P), .ins (.i0 .dd_pop_AF), .ins (.i2 .dd_jp_P_nn), .ins (.i0 .dd_di), .ins (.i2 .dd_call_P_nn),
   .ins (.i0 .dd_push_AF), .ins (.i1 .dd_or_n), .ins (.i0 .dd_rst_30h), .ins (.i0 .dd_ret_M), .ins (.i0 .ld_SP_IX),
   .ins (.i2 .dd_jp_M_nn), .ins (.i0 .dd_ei), .ins (.i2 .dd_call_M_nn), .fd, .ins (.i1 .dd_cp_n),
   .ins (.i0 .dd_rst_38h)]

/-- The opcodes after DD (R140, R141, R145). -/
noncomputable def ddRows : List (List Slot) :=
  [ddRow0, ddRow1, ddRow2, ddRow3, ddRow4, ddRow5, ddRow6, ddRow7,
   ddRow8, ddRow9, ddRowA, ddRowB, ddRowC, ddRowD, ddRowE, ddRowF]

noncomputable def fdRow0 : List Slot :=
  [.ins (.i0 .fd_nop), .ins (.i2 .fd_ld_BC_nn), .ins (.i0 .fd_ld_mBC_A), .ins (.i0 .fd_inc_BC), .ins (.i0 .fd_inc_B),
   .ins (.i0 .fd_dec_B), .ins (.i1 .fd_ld_B_n), .ins (.i0 .fd_rlca), .ins (.i0 .fd_ex_AF_AF), .ins (.i0 .add_IY_BC),
   .ins (.i0 .fd_ld_A_mBC), .ins (.i0 .fd_dec_BC), .ins (.i0 .fd_inc_C), .ins (.i0 .fd_dec_C), .ins (.i1 .fd_ld_C_n),
   .ins (.i0 .fd_rrca)]

noncomputable def fdRow1 : List Slot :=
  [.ins (.i1 .fd_djnz_e), .ins (.i2 .fd_ld_DE_nn), .ins (.i0 .fd_ld_mDE_A), .ins (.i0 .fd_inc_DE),
   .ins (.i0 .fd_inc_D), .ins (.i0 .fd_dec_D), .ins (.i1 .fd_ld_D_n), .ins (.i0 .fd_rla), .ins (.i1 .fd_jr_e),
   .ins (.i0 .add_IY_DE), .ins (.i0 .fd_ld_A_mDE), .ins (.i0 .fd_dec_DE), .ins (.i0 .fd_inc_E), .ins (.i0 .fd_dec_E),
   .ins (.i1 .fd_ld_E_n), .ins (.i0 .fd_rra)]

noncomputable def fdRow2 : List Slot :=
  [.ins (.i1 .fd_jr_NZ_e), .ins (.i2 .ld_IY_nn), .ins (.i2 .ld_mnn_IY), .ins (.i0 .inc_IY), .ins (.i0 .inc_IYH),
   .ins (.i0 .dec_IYH), .ins (.i1 .ld_IYH_n), .ins (.i0 .fd_daa), .ins (.i1 .fd_jr_Z_e), .ins (.i0 .add_IY_IY),
   .ins (.i2 .ld_IY_mnn), .ins (.i0 .dec_IY), .ins (.i0 .inc_IYL), .ins (.i0 .dec_IYL), .ins (.i1 .ld_IYL_n),
   .ins (.i0 .fd_cpl)]

noncomputable def fdRow3 : List Slot :=
  [.ins (.i1 .fd_jr_NC_e), .ins (.i2 .fd_ld_SP_nn), .ins (.i2 .fd_ld_mnn_A), .ins (.i0 .fd_inc_SP),
   .ins (.i1 .inc_mIYd), .ins (.i1 .dec_mIYd), .ins (.i11 .ld_mIYd_n), .ins (.i0 .fd_scf), .ins (.i1 .fd_jr_C_e),
   .ins (.i0 .add_IY_SP), .ins (.i2 .fd_ld_A_mnn), .ins (.i0 .fd_dec_SP), .ins (.i0 .fd_inc_A), .ins (.i0 .fd_dec_A),
   .ins (.i1 .fd_ld_A_n), .ins (.i0 .fd_ccf)]

noncomputable def fdRow4 : List Slot :=
  [.ins (.i0 .fd_ld_B_B), .ins (.i0 .fd_ld_B_C), .ins (.i0 .fd_ld_B_D), .ins (.i0 .fd_ld_B_E), .ins (.i0 .ld_B_IYH),
   .ins (.i0 .ld_B_IYL), .ins (.i1 .ld_B_mIYd), .ins (.i0 .fd_ld_B_A), .ins (.i0 .fd_ld_C_B), .ins (.i0 .fd_ld_C_C),
   .ins (.i0 .fd_ld_C_D), .ins (.i0 .fd_ld_C_E), .ins (.i0 .ld_C_IYH), .ins (.i0 .ld_C_IYL), .ins (.i1 .ld_C_mIYd),
   .ins (.i0 .fd_ld_C_A)]

noncomputable def fdRow5 : List Slot :=
  [.ins (.i0 .fd_ld_D_B), .ins (.i0 .fd_ld_D_C), .ins (.i0 .fd_ld_D_D), .ins (.i0 .fd_ld_D_E), .ins (.i0 .ld_D_IYH),
   .ins (.i0 .ld_D_IYL), .ins (.i1 .ld_D_mIYd), .ins (.i0 .fd_ld_D_A), .ins (.i0 .fd_ld_E_B), .ins (.i0 .fd_ld_E_C),
   .ins (.i0 .fd_ld_E_D), .ins (.i0 .fd_ld_E_E), .ins (.i0 .ld_E_IYH), .ins (.i0 .ld_E_IYL), .ins (.i1 .ld_E_mIYd),
   .ins (.i0 .fd_ld_E_A)]

noncomputable def fdRow6 : List Slot :=
  [.ins (.i0 .ld_IYH_B), .ins (.i0 .ld_IYH_C), .ins (.i0 .ld_IYH_D), .ins (.i0 .ld_IYH_E), .ins (.i0 .ld_IYH_IYH),
   .ins (.i0 .ld_IYH_IYL), .ins (.i1 .ld_H_mIYd), .ins (.i0 .ld_IYH_A), .ins (.i0 .ld_IYL_B), .ins (.i0 .ld_IYL_C),
   .ins (.i0 .ld_IYL_D), .ins (.i0 .ld_IYL_E), .ins (.i0 .ld_IYL_IYH), .ins (.i0 .ld_IYL_IYL), .ins (.i1 .ld_L_mIYd),
   .ins (.i0 .ld_IYL_A)]

noncomputable def fdRow7 : List Slot :=
  [.ins (.i1 .ld_mIYd_B), .ins (.i1 .ld_mIYd_C), .ins (.i1 .ld_mIYd_D), .ins (.i1 .ld_mIYd_E), .ins (.i1 .ld_mIYd_H),
   .ins (.i1 .ld_mIYd_L), .ins (.i0 .fd_halt), .ins (.i1 .ld_mIYd_A), .ins (.i0 .fd_ld_A_B), .ins (.i0 .fd_ld_A_C),
   .ins (.i0 .fd_ld_A_D), .ins (.i0 .fd_ld_A_E), .ins (.i0 .ld_A_IYH), .ins (.i0 .ld_A_IYL), .ins (.i1 .ld_A_mIYd),
   .ins (.i0 .fd_ld_A_A)]

noncomputable def fdRow8 : List Slot :=
  [.ins (.i0 .fd_add_A_B), .ins (.i0 .fd_add_A_C), .ins (.i0 .fd_add_A_D), .ins (.i0 .fd_add_A_E),
   .ins (.i0 .add_A_IYH), .ins (.i0 .add_A_IYL), .ins (.i1 .add_A_mIYd), .ins (.i0 .fd_add_A_A),
   .ins (.i0 .fd_adc_A_B), .ins (.i0 .fd_adc_A_C), .ins (.i0 .fd_adc_A_D), .ins (.i0 .fd_adc_A_E),
   .ins (.i0 .adc_A_IYH), .ins (.i0 .adc_A_IYL), .ins (.i1 .adc_A_mIYd), .ins (.i0 .fd_adc_A_A)]

noncomputable def fdRow9 : List Slot :=
  [.ins (.i0 .fd_sub_B), .ins (.i0 .fd_sub_C), .ins (.i0 .fd_sub_D), .ins (.i0 .fd_sub_E), .ins (.i0 .sub_IYH),
   .ins (.i0 .sub_IYL), .ins (.i1 .sub_mIYd), .ins (.i0 .fd_sub_A), .ins (.i0 .fd_sbc_A_B), .ins (.i0 .fd_sbc_A_C),
   .ins (.i0 .fd_sbc_A_D), .ins (.i0 .fd_sbc_A_E), .ins (.i0 .sbc_A_IYH), .ins (.i0 .sbc_A_IYL),
   .ins (.i1 .sbc_A_mIYd), .ins (.i0 .fd_sbc_A_A)]

noncomputable def fdRowA : List Slot :=
  [.ins (.i0 .fd_and_B), .ins (.i0 .fd_and_C), .ins (.i0 .fd_and_D), .ins (.i0 .fd_and_E), .ins (.i0 .and_IYH),
   .ins (.i0 .and_IYL), .ins (.i1 .and_mIYd), .ins (.i0 .fd_and_A), .ins (.i0 .fd_xor_B), .ins (.i0 .fd_xor_C),
   .ins (.i0 .fd_xor_D), .ins (.i0 .fd_xor_E), .ins (.i0 .xor_IYH), .ins (.i0 .xor_IYL), .ins (.i1 .xor_mIYd),
   .ins (.i0 .fd_xor_A)]

noncomputable def fdRowB : List Slot :=
  [.ins (.i0 .fd_or_B), .ins (.i0 .fd_or_C), .ins (.i0 .fd_or_D), .ins (.i0 .fd_or_E), .ins (.i0 .or_IYH),
   .ins (.i0 .or_IYL), .ins (.i1 .or_mIYd), .ins (.i0 .fd_or_A), .ins (.i0 .fd_cp_B), .ins (.i0 .fd_cp_C),
   .ins (.i0 .fd_cp_D), .ins (.i0 .fd_cp_E), .ins (.i0 .cp_IYH), .ins (.i0 .cp_IYL), .ins (.i1 .cp_mIYd),
   .ins (.i0 .fd_cp_A)]

noncomputable def fdRowC : List Slot :=
  [.ins (.i0 .fd_ret_NZ), .ins (.i0 .fd_pop_BC), .ins (.i2 .fd_jp_NZ_nn), .ins (.i2 .fd_jp_nn),
   .ins (.i2 .fd_call_NZ_nn), .ins (.i0 .fd_push_BC), .ins (.i1 .fd_add_A_n), .ins (.i0 .fd_rst_00h),
   .ins (.i0 .fd_ret_Z), .ins (.i0 .fd_ret), .ins (.i2 .fd_jp_Z_nn), .cb, .ins (.i2 .fd_call_Z_nn),
   .ins (.i2 .fd_call_nn), .ins (.i1 .fd_adc_A_n), .ins (.i0 .fd_rst_08h)]

noncomputable def fdRowD : List Slot :=
  [.ins (.i0 .fd_ret_NC), .ins (.i0 .fd_pop_DE), .ins (.i2 .fd_jp_NC_nn), .ins (.i1 .fd_out_mn_A),
   .ins (.i2 .fd_call_NC_nn), .ins (.i0 .fd_push_DE), .ins (.i1 .fd_sub_n), .ins (.i0 .fd_rst_10h),
   .ins (.i0 .fd_ret_C), .ins (.i0 .fd_exx), .ins (.i2 .fd_jp_C_nn), .ins (.i1 .fd_in_A_mn),
   .ins (.i2 .fd_call_C_nn), .dd, .ins (.i1 .fd_sbc_A_n), .ins (.i0 .fd_rst_18h)]

noncomputable def fdRowE : List Slot :=
  [.ins (.i0 .fd_ret_PO), .ins (.i0 .pop_IY), .ins (.i2 .fd_jp_PO_nn), .ins (.i0 .ex_mSP_IY),
   .ins (.i2 .fd_call_PO_nn), .ins (.i0 .push_IY), .ins (.i1 .fd_and_n), .ins (.i0 .fd_rst_20h),
   .ins (.i0 .fd_ret_PE), .ins (.i0 .jp_mIY), .ins (.i2 .fd_jp_PE_nn), .ins (.i0 .fd_ex_DE_HL),
   .ins (.i2 .fd_call_PE_nn), .ed, .ins (.i1 .fd_xor_n), .ins (.i0 .fd_rst_28h)]

noncomputable def fdRowF : List Slot :=
  [.ins (.i0 .fd_ret_P), .ins (.i0 .fd_pop_AF), .ins (.i2 .fd_jp_P_nn), .ins (.i0 .fd_di), .ins (.i2 .fd_call_P_nn),
   .ins (.i0 .fd_push_AF), .ins (.i1 .fd_or_n), .ins (.i0 .fd_rst_30h), .ins (.i0 .fd_ret_M), .ins (.i0 .ld_SP_IY),
   .ins (.i2 .fd_jp_M_nn), .ins (.i0 .fd_ei), .ins (.i2 .fd_call_M_nn), .fd, .ins (.i1 .fd_cp_n),
   .ins (.i0 .fd_rst_38h)]

/-- The opcodes after FD (R140, R141, R145). -/
noncomputable def fdRows : List (List Slot) :=
  [fdRow0, fdRow1, fdRow2, fdRow3, fdRow4, fdRow5, fdRow6, fdRow7,
   fdRow8, fdRow9, fdRowA, fdRowB, fdRowC, fdRowD, fdRowE, fdRowF]

noncomputable def ddcbRow0 : List (Byte → Instr) :=
  [.rlc_mIXd_B, .rlc_mIXd_C, .rlc_mIXd_D, .rlc_mIXd_E, .rlc_mIXd_H, .rlc_mIXd_L, .rlc_mIXd, .rlc_mIXd_A, .rrc_mIXd_B,
   .rrc_mIXd_C, .rrc_mIXd_D, .rrc_mIXd_E, .rrc_mIXd_H, .rrc_mIXd_L, .rrc_mIXd, .rrc_mIXd_A]

noncomputable def ddcbRow1 : List (Byte → Instr) :=
  [.rl_mIXd_B, .rl_mIXd_C, .rl_mIXd_D, .rl_mIXd_E, .rl_mIXd_H, .rl_mIXd_L, .rl_mIXd, .rl_mIXd_A, .rr_mIXd_B,
   .rr_mIXd_C, .rr_mIXd_D, .rr_mIXd_E, .rr_mIXd_H, .rr_mIXd_L, .rr_mIXd, .rr_mIXd_A]

noncomputable def ddcbRow2 : List (Byte → Instr) :=
  [.sla_mIXd_B, .sla_mIXd_C, .sla_mIXd_D, .sla_mIXd_E, .sla_mIXd_H, .sla_mIXd_L, .sla_mIXd, .sla_mIXd_A, .sra_mIXd_B,
   .sra_mIXd_C, .sra_mIXd_D, .sra_mIXd_E, .sra_mIXd_H, .sra_mIXd_L, .sra_mIXd, .sra_mIXd_A]

noncomputable def ddcbRow3 : List (Byte → Instr) :=
  [.sll_mIXd_B, .sll_mIXd_C, .sll_mIXd_D, .sll_mIXd_E, .sll_mIXd_H, .sll_mIXd_L, .sll_mIXd, .sll_mIXd_A, .srl_mIXd_B,
   .srl_mIXd_C, .srl_mIXd_D, .srl_mIXd_E, .srl_mIXd_H, .srl_mIXd_L, .srl_mIXd, .srl_mIXd_A]

noncomputable def ddcbRow4 : List (Byte → Instr) :=
  [.bit_0_mIXd 0, .bit_0_mIXd 1, .bit_0_mIXd 2, .bit_0_mIXd 3, .bit_0_mIXd 4, .bit_0_mIXd 5, .bit_0_mIXd 6,
   .bit_0_mIXd 7, .bit_1_mIXd 0, .bit_1_mIXd 1, .bit_1_mIXd 2, .bit_1_mIXd 3, .bit_1_mIXd 4, .bit_1_mIXd 5,
   .bit_1_mIXd 6, .bit_1_mIXd 7]

noncomputable def ddcbRow5 : List (Byte → Instr) :=
  [.bit_2_mIXd 0, .bit_2_mIXd 1, .bit_2_mIXd 2, .bit_2_mIXd 3, .bit_2_mIXd 4, .bit_2_mIXd 5, .bit_2_mIXd 6,
   .bit_2_mIXd 7, .bit_3_mIXd 0, .bit_3_mIXd 1, .bit_3_mIXd 2, .bit_3_mIXd 3, .bit_3_mIXd 4, .bit_3_mIXd 5,
   .bit_3_mIXd 6, .bit_3_mIXd 7]

noncomputable def ddcbRow6 : List (Byte → Instr) :=
  [.bit_4_mIXd 0, .bit_4_mIXd 1, .bit_4_mIXd 2, .bit_4_mIXd 3, .bit_4_mIXd 4, .bit_4_mIXd 5, .bit_4_mIXd 6,
   .bit_4_mIXd 7, .bit_5_mIXd 0, .bit_5_mIXd 1, .bit_5_mIXd 2, .bit_5_mIXd 3, .bit_5_mIXd 4, .bit_5_mIXd 5,
   .bit_5_mIXd 6, .bit_5_mIXd 7]

noncomputable def ddcbRow7 : List (Byte → Instr) :=
  [.bit_6_mIXd 0, .bit_6_mIXd 1, .bit_6_mIXd 2, .bit_6_mIXd 3, .bit_6_mIXd 4, .bit_6_mIXd 5, .bit_6_mIXd 6,
   .bit_6_mIXd 7, .bit_7_mIXd 0, .bit_7_mIXd 1, .bit_7_mIXd 2, .bit_7_mIXd 3, .bit_7_mIXd 4, .bit_7_mIXd 5,
   .bit_7_mIXd 6, .bit_7_mIXd 7]

noncomputable def ddcbRow8 : List (Byte → Instr) :=
  [.res_0_mIXd_B, .res_0_mIXd_C, .res_0_mIXd_D, .res_0_mIXd_E, .res_0_mIXd_H, .res_0_mIXd_L, .res_0_mIXd,
   .res_0_mIXd_A, .res_1_mIXd_B, .res_1_mIXd_C, .res_1_mIXd_D, .res_1_mIXd_E, .res_1_mIXd_H, .res_1_mIXd_L,
   .res_1_mIXd, .res_1_mIXd_A]

noncomputable def ddcbRow9 : List (Byte → Instr) :=
  [.res_2_mIXd_B, .res_2_mIXd_C, .res_2_mIXd_D, .res_2_mIXd_E, .res_2_mIXd_H, .res_2_mIXd_L, .res_2_mIXd,
   .res_2_mIXd_A, .res_3_mIXd_B, .res_3_mIXd_C, .res_3_mIXd_D, .res_3_mIXd_E, .res_3_mIXd_H, .res_3_mIXd_L,
   .res_3_mIXd, .res_3_mIXd_A]

noncomputable def ddcbRowA : List (Byte → Instr) :=
  [.res_4_mIXd_B, .res_4_mIXd_C, .res_4_mIXd_D, .res_4_mIXd_E, .res_4_mIXd_H, .res_4_mIXd_L, .res_4_mIXd,
   .res_4_mIXd_A, .res_5_mIXd_B, .res_5_mIXd_C, .res_5_mIXd_D, .res_5_mIXd_E, .res_5_mIXd_H, .res_5_mIXd_L,
   .res_5_mIXd, .res_5_mIXd_A]

noncomputable def ddcbRowB : List (Byte → Instr) :=
  [.res_6_mIXd_B, .res_6_mIXd_C, .res_6_mIXd_D, .res_6_mIXd_E, .res_6_mIXd_H, .res_6_mIXd_L, .res_6_mIXd,
   .res_6_mIXd_A, .res_7_mIXd_B, .res_7_mIXd_C, .res_7_mIXd_D, .res_7_mIXd_E, .res_7_mIXd_H, .res_7_mIXd_L,
   .res_7_mIXd, .res_7_mIXd_A]

noncomputable def ddcbRowC : List (Byte → Instr) :=
  [.set_0_mIXd_B, .set_0_mIXd_C, .set_0_mIXd_D, .set_0_mIXd_E, .set_0_mIXd_H, .set_0_mIXd_L, .set_0_mIXd,
   .set_0_mIXd_A, .set_1_mIXd_B, .set_1_mIXd_C, .set_1_mIXd_D, .set_1_mIXd_E, .set_1_mIXd_H, .set_1_mIXd_L,
   .set_1_mIXd, .set_1_mIXd_A]

noncomputable def ddcbRowD : List (Byte → Instr) :=
  [.set_2_mIXd_B, .set_2_mIXd_C, .set_2_mIXd_D, .set_2_mIXd_E, .set_2_mIXd_H, .set_2_mIXd_L, .set_2_mIXd,
   .set_2_mIXd_A, .set_3_mIXd_B, .set_3_mIXd_C, .set_3_mIXd_D, .set_3_mIXd_E, .set_3_mIXd_H, .set_3_mIXd_L,
   .set_3_mIXd, .set_3_mIXd_A]

noncomputable def ddcbRowE : List (Byte → Instr) :=
  [.set_4_mIXd_B, .set_4_mIXd_C, .set_4_mIXd_D, .set_4_mIXd_E, .set_4_mIXd_H, .set_4_mIXd_L, .set_4_mIXd,
   .set_4_mIXd_A, .set_5_mIXd_B, .set_5_mIXd_C, .set_5_mIXd_D, .set_5_mIXd_E, .set_5_mIXd_H, .set_5_mIXd_L,
   .set_5_mIXd, .set_5_mIXd_A]

noncomputable def ddcbRowF : List (Byte → Instr) :=
  [.set_6_mIXd_B, .set_6_mIXd_C, .set_6_mIXd_D, .set_6_mIXd_E, .set_6_mIXd_H, .set_6_mIXd_L, .set_6_mIXd,
   .set_6_mIXd_A, .set_7_mIXd_B, .set_7_mIXd_C, .set_7_mIXd_D, .set_7_mIXd_E, .set_7_mIXd_H, .set_7_mIXd_L,
   .set_7_mIXd, .set_7_mIXd_A]

/-- The opcodes after DD CB d (R143). -/
noncomputable def ddcbRows : List (List (Byte → Instr)) :=
  [ddcbRow0, ddcbRow1, ddcbRow2, ddcbRow3, ddcbRow4, ddcbRow5, ddcbRow6, ddcbRow7,
   ddcbRow8, ddcbRow9, ddcbRowA, ddcbRowB, ddcbRowC, ddcbRowD, ddcbRowE, ddcbRowF]

noncomputable def fdcbRow0 : List (Byte → Instr) :=
  [.rlc_mIYd_B, .rlc_mIYd_C, .rlc_mIYd_D, .rlc_mIYd_E, .rlc_mIYd_H, .rlc_mIYd_L, .rlc_mIYd, .rlc_mIYd_A, .rrc_mIYd_B,
   .rrc_mIYd_C, .rrc_mIYd_D, .rrc_mIYd_E, .rrc_mIYd_H, .rrc_mIYd_L, .rrc_mIYd, .rrc_mIYd_A]

noncomputable def fdcbRow1 : List (Byte → Instr) :=
  [.rl_mIYd_B, .rl_mIYd_C, .rl_mIYd_D, .rl_mIYd_E, .rl_mIYd_H, .rl_mIYd_L, .rl_mIYd, .rl_mIYd_A, .rr_mIYd_B,
   .rr_mIYd_C, .rr_mIYd_D, .rr_mIYd_E, .rr_mIYd_H, .rr_mIYd_L, .rr_mIYd, .rr_mIYd_A]

noncomputable def fdcbRow2 : List (Byte → Instr) :=
  [.sla_mIYd_B, .sla_mIYd_C, .sla_mIYd_D, .sla_mIYd_E, .sla_mIYd_H, .sla_mIYd_L, .sla_mIYd, .sla_mIYd_A, .sra_mIYd_B,
   .sra_mIYd_C, .sra_mIYd_D, .sra_mIYd_E, .sra_mIYd_H, .sra_mIYd_L, .sra_mIYd, .sra_mIYd_A]

noncomputable def fdcbRow3 : List (Byte → Instr) :=
  [.sll_mIYd_B, .sll_mIYd_C, .sll_mIYd_D, .sll_mIYd_E, .sll_mIYd_H, .sll_mIYd_L, .sll_mIYd, .sll_mIYd_A, .srl_mIYd_B,
   .srl_mIYd_C, .srl_mIYd_D, .srl_mIYd_E, .srl_mIYd_H, .srl_mIYd_L, .srl_mIYd, .srl_mIYd_A]

noncomputable def fdcbRow4 : List (Byte → Instr) :=
  [.bit_0_mIYd 0, .bit_0_mIYd 1, .bit_0_mIYd 2, .bit_0_mIYd 3, .bit_0_mIYd 4, .bit_0_mIYd 5, .bit_0_mIYd 6,
   .bit_0_mIYd 7, .bit_1_mIYd 0, .bit_1_mIYd 1, .bit_1_mIYd 2, .bit_1_mIYd 3, .bit_1_mIYd 4, .bit_1_mIYd 5,
   .bit_1_mIYd 6, .bit_1_mIYd 7]

noncomputable def fdcbRow5 : List (Byte → Instr) :=
  [.bit_2_mIYd 0, .bit_2_mIYd 1, .bit_2_mIYd 2, .bit_2_mIYd 3, .bit_2_mIYd 4, .bit_2_mIYd 5, .bit_2_mIYd 6,
   .bit_2_mIYd 7, .bit_3_mIYd 0, .bit_3_mIYd 1, .bit_3_mIYd 2, .bit_3_mIYd 3, .bit_3_mIYd 4, .bit_3_mIYd 5,
   .bit_3_mIYd 6, .bit_3_mIYd 7]

noncomputable def fdcbRow6 : List (Byte → Instr) :=
  [.bit_4_mIYd 0, .bit_4_mIYd 1, .bit_4_mIYd 2, .bit_4_mIYd 3, .bit_4_mIYd 4, .bit_4_mIYd 5, .bit_4_mIYd 6,
   .bit_4_mIYd 7, .bit_5_mIYd 0, .bit_5_mIYd 1, .bit_5_mIYd 2, .bit_5_mIYd 3, .bit_5_mIYd 4, .bit_5_mIYd 5,
   .bit_5_mIYd 6, .bit_5_mIYd 7]

noncomputable def fdcbRow7 : List (Byte → Instr) :=
  [.bit_6_mIYd 0, .bit_6_mIYd 1, .bit_6_mIYd 2, .bit_6_mIYd 3, .bit_6_mIYd 4, .bit_6_mIYd 5, .bit_6_mIYd 6,
   .bit_6_mIYd 7, .bit_7_mIYd 0, .bit_7_mIYd 1, .bit_7_mIYd 2, .bit_7_mIYd 3, .bit_7_mIYd 4, .bit_7_mIYd 5,
   .bit_7_mIYd 6, .bit_7_mIYd 7]

noncomputable def fdcbRow8 : List (Byte → Instr) :=
  [.res_0_mIYd_B, .res_0_mIYd_C, .res_0_mIYd_D, .res_0_mIYd_E, .res_0_mIYd_H, .res_0_mIYd_L, .res_0_mIYd,
   .res_0_mIYd_A, .res_1_mIYd_B, .res_1_mIYd_C, .res_1_mIYd_D, .res_1_mIYd_E, .res_1_mIYd_H, .res_1_mIYd_L,
   .res_1_mIYd, .res_1_mIYd_A]

noncomputable def fdcbRow9 : List (Byte → Instr) :=
  [.res_2_mIYd_B, .res_2_mIYd_C, .res_2_mIYd_D, .res_2_mIYd_E, .res_2_mIYd_H, .res_2_mIYd_L, .res_2_mIYd,
   .res_2_mIYd_A, .res_3_mIYd_B, .res_3_mIYd_C, .res_3_mIYd_D, .res_3_mIYd_E, .res_3_mIYd_H, .res_3_mIYd_L,
   .res_3_mIYd, .res_3_mIYd_A]

noncomputable def fdcbRowA : List (Byte → Instr) :=
  [.res_4_mIYd_B, .res_4_mIYd_C, .res_4_mIYd_D, .res_4_mIYd_E, .res_4_mIYd_H, .res_4_mIYd_L, .res_4_mIYd,
   .res_4_mIYd_A, .res_5_mIYd_B, .res_5_mIYd_C, .res_5_mIYd_D, .res_5_mIYd_E, .res_5_mIYd_H, .res_5_mIYd_L,
   .res_5_mIYd, .res_5_mIYd_A]

noncomputable def fdcbRowB : List (Byte → Instr) :=
  [.res_6_mIYd_B, .res_6_mIYd_C, .res_6_mIYd_D, .res_6_mIYd_E, .res_6_mIYd_H, .res_6_mIYd_L, .res_6_mIYd,
   .res_6_mIYd_A, .res_7_mIYd_B, .res_7_mIYd_C, .res_7_mIYd_D, .res_7_mIYd_E, .res_7_mIYd_H, .res_7_mIYd_L,
   .res_7_mIYd, .res_7_mIYd_A]

noncomputable def fdcbRowC : List (Byte → Instr) :=
  [.set_0_mIYd_B, .set_0_mIYd_C, .set_0_mIYd_D, .set_0_mIYd_E, .set_0_mIYd_H, .set_0_mIYd_L, .set_0_mIYd,
   .set_0_mIYd_A, .set_1_mIYd_B, .set_1_mIYd_C, .set_1_mIYd_D, .set_1_mIYd_E, .set_1_mIYd_H, .set_1_mIYd_L,
   .set_1_mIYd, .set_1_mIYd_A]

noncomputable def fdcbRowD : List (Byte → Instr) :=
  [.set_2_mIYd_B, .set_2_mIYd_C, .set_2_mIYd_D, .set_2_mIYd_E, .set_2_mIYd_H, .set_2_mIYd_L, .set_2_mIYd,
   .set_2_mIYd_A, .set_3_mIYd_B, .set_3_mIYd_C, .set_3_mIYd_D, .set_3_mIYd_E, .set_3_mIYd_H, .set_3_mIYd_L,
   .set_3_mIYd, .set_3_mIYd_A]

noncomputable def fdcbRowE : List (Byte → Instr) :=
  [.set_4_mIYd_B, .set_4_mIYd_C, .set_4_mIYd_D, .set_4_mIYd_E, .set_4_mIYd_H, .set_4_mIYd_L, .set_4_mIYd,
   .set_4_mIYd_A, .set_5_mIYd_B, .set_5_mIYd_C, .set_5_mIYd_D, .set_5_mIYd_E, .set_5_mIYd_H, .set_5_mIYd_L,
   .set_5_mIYd, .set_5_mIYd_A]

noncomputable def fdcbRowF : List (Byte → Instr) :=
  [.set_6_mIYd_B, .set_6_mIYd_C, .set_6_mIYd_D, .set_6_mIYd_E, .set_6_mIYd_H, .set_6_mIYd_L, .set_6_mIYd,
   .set_6_mIYd_A, .set_7_mIYd_B, .set_7_mIYd_C, .set_7_mIYd_D, .set_7_mIYd_E, .set_7_mIYd_H, .set_7_mIYd_L,
   .set_7_mIYd, .set_7_mIYd_A]

/-- The opcodes after FD CB d (R143). -/
noncomputable def fdcbRows : List (List (Byte → Instr)) :=
  [fdcbRow0, fdcbRow1, fdcbRow2, fdcbRow3, fdcbRow4, fdcbRow5, fdcbRow6, fdcbRow7,
   fdcbRow8, fdcbRow9, fdcbRowA, fdcbRowB, fdcbRowC, fdcbRowD, fdcbRowE, fdcbRowF]

/-! ## Decoding -/

/-- The cell of an opcode byte in a grid. -/
def cell {α : Type} (rows : List (List α)) (unused : α) (op : Byte) : α :=
  (rows.getD (op.toNat / 16) []).getD (op.toNat % 16) unused

/-- The instruction of an entry with the two bytes after its opcode, and its length, k bytes having gone before. -/
def Entry.take (e : Entry) (x y : Byte) (k : Nat) : Instr × Nat :=
  match e with
  | .i0 i => (i, k)
  | .i1 f => (f x, k + 1)
  | .i2 f => (f (pair y x), k + 2)
  | .i11 f => (f x y, k + 2)

/-- After DD or FD: an index form or an unchanged opcode (R141, R145), the DDCB form (R143), or, before DD, FD or ED, the
byte alone (R144). -/
def indexed (rows : List (List Slot)) (cbRows : List (List (Byte → Instr))) (redundant ignored : Instr) (b1 b2 b3 : Byte) :
    Instr × Nat :=
  match cell rows .cb b1 with
  | .ins e => e.take b2 b3 2
  | .cb => (cell cbRows (fun _ => .nop) b3 b2, 4)
  | .ed => (ignored, 1)
  | .dd | .fd => (redundant, 1)

/-- The instruction that starts with these four bytes, and its length (R148 to R155). -/
noncomputable def decodeWindow (b0 b1 b2 b3 : Byte) : Instr × Nat :=
  match cell mainRows .cb b0 with
  | .ins e => e.take b1 b2 1
  | .cb => (cell cbRows .nop b1, 2)
  | .ed => (cell edRows (.i0 .nop) b1).take b2 b3 2
  | .dd => indexed ddRows ddcbRows .redundant_DD .ignored_DD_before_ED b1 b2 b3
  | .fd => indexed fdRows fdcbRows .redundant_FD .ignored_FD_before_ED b1 b2 b3

/-- The decoder reading bytes, missing ones as 0. -/
noncomputable def decodeBytes (bytes : List Byte) : Instr × Nat :=
  decodeWindow (bytes.getD 0 0) (bytes.getD 1 0) (bytes.getD 2 0) (bytes.getD 3 0)

/-- The instruction that starts with these bytes. -/
noncomputable def instrOf (bytes : List Byte) : Instr := (decodeBytes bytes).1

/-- Why bytes are no instruction: no encoding is reserved or illegal (R156), so only that they end too soon. -/
inductive DecodeError where
  | truncated
  deriving DecidableEq, Repr

/-- The first instruction of some bytes and the bytes after it. -/
noncomputable def decode (bytes : List Byte) : Except DecodeError (Instr × List Byte) :=
  if (decodeBytes bytes).2 ≤ bytes.length then .ok ((decodeBytes bytes).1, bytes.drop (decodeBytes bytes).2)
  else .error .truncated

/-- DD or FD before DD, FD or ED: the step goes on with the next byte (R144). -/
def Instr.isChainByte (i : Instr) : Bool :=
  match i with
  | .redundant_DD | .redundant_FD | .ignored_DD_before_ED | .ignored_FD_before_ED => true
  | _ => false

/-- `EI`, with an ignored DD or FD or without (48_cpu_control.md R463; 60_exceptions.md R500). -/
def Instr.isEi (i : Instr) : Bool :=
  match i with
  | .ei | .dd_ei | .fd_ei => true
  | _ => false

/-- The byte after a chain byte that makes it one; any byte may follow any other instruction. -/
def Instr.mayPrecede (i : Instr) (next : Byte) : Bool :=
  match i with
  | .redundant_DD | .redundant_FD => next == 0xDD || next == 0xFD
  | .ignored_DD_before_ED | .ignored_FD_before_ED => next == 0xED
  | _ => true

/-! ## The length rule (R150) -/

/-- `BaseLength(op)`. -/
def baseLength (op : Byte) : Nat :=
  let x := (opX op).toNat
  let y := (opY op).toNat
  let z := (opZ op).toNat
  if x = 0 ∧ z = 0 then (if 2 ≤ y then 2 else 1)
  else if x = 0 ∧ z = 1 then (if opQ op = 0 then 3 else 1)
  else if x = 0 ∧ z = 2 then (if 4 ≤ y then 3 else 1)
  else if x = 0 ∧ z = 6 then 2
  else if x = 3 then
    (if op = 0xC3 ∨ op = 0xCD ∨ z = 2 ∨ z = 4 then 3 else if z = 6 ∨ op = 0xD3 ∨ op = 0xDB then 2 else 1)
  else 1

/-- `UsesHLMemory(op)`. -/
def usesHLMemory (op : Byte) : Bool :=
  op == 0x34 || op == 0x35 || op == 0x36 || (opX op == 1 && op != 0x76 && (opY op == 6 || opZ op == 6)) ||
    (opX op == 2 && opZ op == 6)

/-- DD or FD. -/
def isIndexByte (b : Byte) : Bool := b == 0xDD || b == 0xFD

/-- `Length(a)`, on the bytes from address a on. -/
def lengthRule (bytes : List Byte) : Nat :=
  let k := (bytes.takeWhile isIndexByte).length
  let op := bytes.getD k 0
  if op = 0xCB then (if k = 0 then 2 else k + 3)
  else if op = 0xED then k + (if (bytes.getD (k + 1) 0) &&& 0xC7 = 0x43 then 4 else 2)
  else k + (if 0 < k ∧ usesHLMemory op then baseLength op + 1 else baseLength op)

/-- The bytes a step consumes: every chain byte, then the instruction after them. -/
noncomputable def consumed : List Byte → Nat
  | [] => 0
  | b :: rest =>
    if (decodeBytes (b :: rest)).1.isChainByte then consumed rest + 1 else (decodeBytes (b :: rest)).2

/-! ## Encoding (R130, and the match values of the opcode table) -/

/-- The bytes of an instruction. -/
def encode : Instr → List Byte
  | .nop => [0x00]
  | .ld_BC_nn nn => [0x01, lo nn, hi nn]
  | .ld_mBC_A => [0x02]
  | .inc_BC => [0x03]
  | .inc_B => [0x04]
  | .dec_B => [0x05]
  | .ld_B_n n => [0x06, n]
  | .rlca => [0x07]
  | .ex_AF_AF => [0x08]
  | .add_HL_BC => [0x09]
  | .ld_A_mBC => [0x0A]
  | .dec_BC => [0x0B]
  | .inc_C => [0x0C]
  | .dec_C => [0x0D]
  | .ld_C_n n => [0x0E, n]
  | .rrca => [0x0F]
  | .djnz_e e => [0x10, e]
  | .ld_DE_nn nn => [0x11, lo nn, hi nn]
  | .ld_mDE_A => [0x12]
  | .inc_DE => [0x13]
  | .inc_D => [0x14]
  | .dec_D => [0x15]
  | .ld_D_n n => [0x16, n]
  | .rla => [0x17]
  | .jr_e e => [0x18, e]
  | .add_HL_DE => [0x19]
  | .ld_A_mDE => [0x1A]
  | .dec_DE => [0x1B]
  | .inc_E => [0x1C]
  | .dec_E => [0x1D]
  | .ld_E_n n => [0x1E, n]
  | .rra => [0x1F]
  | .jr_NZ_e e => [0x20, e]
  | .ld_HL_nn nn => [0x21, lo nn, hi nn]
  | .ld_mnn_HL nn => [0x22, lo nn, hi nn]
  | .inc_HL => [0x23]
  | .inc_H => [0x24]
  | .dec_H => [0x25]
  | .ld_H_n n => [0x26, n]
  | .daa => [0x27]
  | .jr_Z_e e => [0x28, e]
  | .add_HL_HL => [0x29]
  | .ld_HL_mnn nn => [0x2A, lo nn, hi nn]
  | .dec_HL => [0x2B]
  | .inc_L => [0x2C]
  | .dec_L => [0x2D]
  | .ld_L_n n => [0x2E, n]
  | .cpl => [0x2F]
  | .jr_NC_e e => [0x30, e]
  | .ld_SP_nn nn => [0x31, lo nn, hi nn]
  | .ld_mnn_A nn => [0x32, lo nn, hi nn]
  | .inc_SP => [0x33]
  | .inc_mHL => [0x34]
  | .dec_mHL => [0x35]
  | .ld_mHL_n n => [0x36, n]
  | .scf => [0x37]
  | .jr_C_e e => [0x38, e]
  | .add_HL_SP => [0x39]
  | .ld_A_mnn nn => [0x3A, lo nn, hi nn]
  | .dec_SP => [0x3B]
  | .inc_A => [0x3C]
  | .dec_A => [0x3D]
  | .ld_A_n n => [0x3E, n]
  | .ccf => [0x3F]
  | .ld_B_B => [0x40]
  | .ld_B_C => [0x41]
  | .ld_B_D => [0x42]
  | .ld_B_E => [0x43]
  | .ld_B_H => [0x44]
  | .ld_B_L => [0x45]
  | .ld_B_mHL => [0x46]
  | .ld_B_A => [0x47]
  | .ld_C_B => [0x48]
  | .ld_C_C => [0x49]
  | .ld_C_D => [0x4A]
  | .ld_C_E => [0x4B]
  | .ld_C_H => [0x4C]
  | .ld_C_L => [0x4D]
  | .ld_C_mHL => [0x4E]
  | .ld_C_A => [0x4F]
  | .ld_D_B => [0x50]
  | .ld_D_C => [0x51]
  | .ld_D_D => [0x52]
  | .ld_D_E => [0x53]
  | .ld_D_H => [0x54]
  | .ld_D_L => [0x55]
  | .ld_D_mHL => [0x56]
  | .ld_D_A => [0x57]
  | .ld_E_B => [0x58]
  | .ld_E_C => [0x59]
  | .ld_E_D => [0x5A]
  | .ld_E_E => [0x5B]
  | .ld_E_H => [0x5C]
  | .ld_E_L => [0x5D]
  | .ld_E_mHL => [0x5E]
  | .ld_E_A => [0x5F]
  | .ld_H_B => [0x60]
  | .ld_H_C => [0x61]
  | .ld_H_D => [0x62]
  | .ld_H_E => [0x63]
  | .ld_H_H => [0x64]
  | .ld_H_L => [0x65]
  | .ld_H_mHL => [0x66]
  | .ld_H_A => [0x67]
  | .ld_L_B => [0x68]
  | .ld_L_C => [0x69]
  | .ld_L_D => [0x6A]
  | .ld_L_E => [0x6B]
  | .ld_L_H => [0x6C]
  | .ld_L_L => [0x6D]
  | .ld_L_mHL => [0x6E]
  | .ld_L_A => [0x6F]
  | .ld_mHL_B => [0x70]
  | .ld_mHL_C => [0x71]
  | .ld_mHL_D => [0x72]
  | .ld_mHL_E => [0x73]
  | .ld_mHL_H => [0x74]
  | .ld_mHL_L => [0x75]
  | .halt => [0x76]
  | .ld_mHL_A => [0x77]
  | .ld_A_B => [0x78]
  | .ld_A_C => [0x79]
  | .ld_A_D => [0x7A]
  | .ld_A_E => [0x7B]
  | .ld_A_H => [0x7C]
  | .ld_A_L => [0x7D]
  | .ld_A_mHL => [0x7E]
  | .ld_A_A => [0x7F]
  | .add_A_B => [0x80]
  | .add_A_C => [0x81]
  | .add_A_D => [0x82]
  | .add_A_E => [0x83]
  | .add_A_H => [0x84]
  | .add_A_L => [0x85]
  | .add_A_mHL => [0x86]
  | .add_A_A => [0x87]
  | .adc_A_B => [0x88]
  | .adc_A_C => [0x89]
  | .adc_A_D => [0x8A]
  | .adc_A_E => [0x8B]
  | .adc_A_H => [0x8C]
  | .adc_A_L => [0x8D]
  | .adc_A_mHL => [0x8E]
  | .adc_A_A => [0x8F]
  | .sub_B => [0x90]
  | .sub_C => [0x91]
  | .sub_D => [0x92]
  | .sub_E => [0x93]
  | .sub_H => [0x94]
  | .sub_L => [0x95]
  | .sub_mHL => [0x96]
  | .sub_A => [0x97]
  | .sbc_A_B => [0x98]
  | .sbc_A_C => [0x99]
  | .sbc_A_D => [0x9A]
  | .sbc_A_E => [0x9B]
  | .sbc_A_H => [0x9C]
  | .sbc_A_L => [0x9D]
  | .sbc_A_mHL => [0x9E]
  | .sbc_A_A => [0x9F]
  | .and_B => [0xA0]
  | .and_C => [0xA1]
  | .and_D => [0xA2]
  | .and_E => [0xA3]
  | .and_H => [0xA4]
  | .and_L => [0xA5]
  | .and_mHL => [0xA6]
  | .and_A => [0xA7]
  | .xor_B => [0xA8]
  | .xor_C => [0xA9]
  | .xor_D => [0xAA]
  | .xor_E => [0xAB]
  | .xor_H => [0xAC]
  | .xor_L => [0xAD]
  | .xor_mHL => [0xAE]
  | .xor_A => [0xAF]
  | .or_B => [0xB0]
  | .or_C => [0xB1]
  | .or_D => [0xB2]
  | .or_E => [0xB3]
  | .or_H => [0xB4]
  | .or_L => [0xB5]
  | .or_mHL => [0xB6]
  | .or_A => [0xB7]
  | .cp_B => [0xB8]
  | .cp_C => [0xB9]
  | .cp_D => [0xBA]
  | .cp_E => [0xBB]
  | .cp_H => [0xBC]
  | .cp_L => [0xBD]
  | .cp_mHL => [0xBE]
  | .cp_A => [0xBF]
  | .ret_NZ => [0xC0]
  | .pop_BC => [0xC1]
  | .jp_NZ_nn nn => [0xC2, lo nn, hi nn]
  | .jp_nn nn => [0xC3, lo nn, hi nn]
  | .call_NZ_nn nn => [0xC4, lo nn, hi nn]
  | .push_BC => [0xC5]
  | .add_A_n n => [0xC6, n]
  | .rst_00h => [0xC7]
  | .ret_Z => [0xC8]
  | .ret => [0xC9]
  | .jp_Z_nn nn => [0xCA, lo nn, hi nn]
  | .call_Z_nn nn => [0xCC, lo nn, hi nn]
  | .call_nn nn => [0xCD, lo nn, hi nn]
  | .adc_A_n n => [0xCE, n]
  | .rst_08h => [0xCF]
  | .ret_NC => [0xD0]
  | .pop_DE => [0xD1]
  | .jp_NC_nn nn => [0xD2, lo nn, hi nn]
  | .out_mn_A n => [0xD3, n]
  | .call_NC_nn nn => [0xD4, lo nn, hi nn]
  | .push_DE => [0xD5]
  | .sub_n n => [0xD6, n]
  | .rst_10h => [0xD7]
  | .ret_C => [0xD8]
  | .exx => [0xD9]
  | .jp_C_nn nn => [0xDA, lo nn, hi nn]
  | .in_A_mn n => [0xDB, n]
  | .call_C_nn nn => [0xDC, lo nn, hi nn]
  | .sbc_A_n n => [0xDE, n]
  | .rst_18h => [0xDF]
  | .ret_PO => [0xE0]
  | .pop_HL => [0xE1]
  | .jp_PO_nn nn => [0xE2, lo nn, hi nn]
  | .ex_mSP_HL => [0xE3]
  | .call_PO_nn nn => [0xE4, lo nn, hi nn]
  | .push_HL => [0xE5]
  | .and_n n => [0xE6, n]
  | .rst_20h => [0xE7]
  | .ret_PE => [0xE8]
  | .jp_mHL => [0xE9]
  | .jp_PE_nn nn => [0xEA, lo nn, hi nn]
  | .ex_DE_HL => [0xEB]
  | .call_PE_nn nn => [0xEC, lo nn, hi nn]
  | .xor_n n => [0xEE, n]
  | .rst_28h => [0xEF]
  | .ret_P => [0xF0]
  | .pop_AF => [0xF1]
  | .jp_P_nn nn => [0xF2, lo nn, hi nn]
  | .di => [0xF3]
  | .call_P_nn nn => [0xF4, lo nn, hi nn]
  | .push_AF => [0xF5]
  | .or_n n => [0xF6, n]
  | .rst_30h => [0xF7]
  | .ret_M => [0xF8]
  | .ld_SP_HL => [0xF9]
  | .jp_M_nn nn => [0xFA, lo nn, hi nn]
  | .ei => [0xFB]
  | .call_M_nn nn => [0xFC, lo nn, hi nn]
  | .cp_n n => [0xFE, n]
  | .rst_38h => [0xFF]
  | .rlc_B => [0xCB, 0x00]
  | .rlc_C => [0xCB, 0x01]
  | .rlc_D => [0xCB, 0x02]
  | .rlc_E => [0xCB, 0x03]
  | .rlc_H => [0xCB, 0x04]
  | .rlc_L => [0xCB, 0x05]
  | .rlc_mHL => [0xCB, 0x06]
  | .rlc_A => [0xCB, 0x07]
  | .rrc_B => [0xCB, 0x08]
  | .rrc_C => [0xCB, 0x09]
  | .rrc_D => [0xCB, 0x0A]
  | .rrc_E => [0xCB, 0x0B]
  | .rrc_H => [0xCB, 0x0C]
  | .rrc_L => [0xCB, 0x0D]
  | .rrc_mHL => [0xCB, 0x0E]
  | .rrc_A => [0xCB, 0x0F]
  | .rl_B => [0xCB, 0x10]
  | .rl_C => [0xCB, 0x11]
  | .rl_D => [0xCB, 0x12]
  | .rl_E => [0xCB, 0x13]
  | .rl_H => [0xCB, 0x14]
  | .rl_L => [0xCB, 0x15]
  | .rl_mHL => [0xCB, 0x16]
  | .rl_A => [0xCB, 0x17]
  | .rr_B => [0xCB, 0x18]
  | .rr_C => [0xCB, 0x19]
  | .rr_D => [0xCB, 0x1A]
  | .rr_E => [0xCB, 0x1B]
  | .rr_H => [0xCB, 0x1C]
  | .rr_L => [0xCB, 0x1D]
  | .rr_mHL => [0xCB, 0x1E]
  | .rr_A => [0xCB, 0x1F]
  | .sla_B => [0xCB, 0x20]
  | .sla_C => [0xCB, 0x21]
  | .sla_D => [0xCB, 0x22]
  | .sla_E => [0xCB, 0x23]
  | .sla_H => [0xCB, 0x24]
  | .sla_L => [0xCB, 0x25]
  | .sla_mHL => [0xCB, 0x26]
  | .sla_A => [0xCB, 0x27]
  | .sra_B => [0xCB, 0x28]
  | .sra_C => [0xCB, 0x29]
  | .sra_D => [0xCB, 0x2A]
  | .sra_E => [0xCB, 0x2B]
  | .sra_H => [0xCB, 0x2C]
  | .sra_L => [0xCB, 0x2D]
  | .sra_mHL => [0xCB, 0x2E]
  | .sra_A => [0xCB, 0x2F]
  | .sll_B => [0xCB, 0x30]
  | .sll_C => [0xCB, 0x31]
  | .sll_D => [0xCB, 0x32]
  | .sll_E => [0xCB, 0x33]
  | .sll_H => [0xCB, 0x34]
  | .sll_L => [0xCB, 0x35]
  | .sll_mHL => [0xCB, 0x36]
  | .sll_A => [0xCB, 0x37]
  | .srl_B => [0xCB, 0x38]
  | .srl_C => [0xCB, 0x39]
  | .srl_D => [0xCB, 0x3A]
  | .srl_E => [0xCB, 0x3B]
  | .srl_H => [0xCB, 0x3C]
  | .srl_L => [0xCB, 0x3D]
  | .srl_mHL => [0xCB, 0x3E]
  | .srl_A => [0xCB, 0x3F]
  | .bit_0_B => [0xCB, 0x40]
  | .bit_0_C => [0xCB, 0x41]
  | .bit_0_D => [0xCB, 0x42]
  | .bit_0_E => [0xCB, 0x43]
  | .bit_0_H => [0xCB, 0x44]
  | .bit_0_L => [0xCB, 0x45]
  | .bit_0_mHL => [0xCB, 0x46]
  | .bit_0_A => [0xCB, 0x47]
  | .bit_1_B => [0xCB, 0x48]
  | .bit_1_C => [0xCB, 0x49]
  | .bit_1_D => [0xCB, 0x4A]
  | .bit_1_E => [0xCB, 0x4B]
  | .bit_1_H => [0xCB, 0x4C]
  | .bit_1_L => [0xCB, 0x4D]
  | .bit_1_mHL => [0xCB, 0x4E]
  | .bit_1_A => [0xCB, 0x4F]
  | .bit_2_B => [0xCB, 0x50]
  | .bit_2_C => [0xCB, 0x51]
  | .bit_2_D => [0xCB, 0x52]
  | .bit_2_E => [0xCB, 0x53]
  | .bit_2_H => [0xCB, 0x54]
  | .bit_2_L => [0xCB, 0x55]
  | .bit_2_mHL => [0xCB, 0x56]
  | .bit_2_A => [0xCB, 0x57]
  | .bit_3_B => [0xCB, 0x58]
  | .bit_3_C => [0xCB, 0x59]
  | .bit_3_D => [0xCB, 0x5A]
  | .bit_3_E => [0xCB, 0x5B]
  | .bit_3_H => [0xCB, 0x5C]
  | .bit_3_L => [0xCB, 0x5D]
  | .bit_3_mHL => [0xCB, 0x5E]
  | .bit_3_A => [0xCB, 0x5F]
  | .bit_4_B => [0xCB, 0x60]
  | .bit_4_C => [0xCB, 0x61]
  | .bit_4_D => [0xCB, 0x62]
  | .bit_4_E => [0xCB, 0x63]
  | .bit_4_H => [0xCB, 0x64]
  | .bit_4_L => [0xCB, 0x65]
  | .bit_4_mHL => [0xCB, 0x66]
  | .bit_4_A => [0xCB, 0x67]
  | .bit_5_B => [0xCB, 0x68]
  | .bit_5_C => [0xCB, 0x69]
  | .bit_5_D => [0xCB, 0x6A]
  | .bit_5_E => [0xCB, 0x6B]
  | .bit_5_H => [0xCB, 0x6C]
  | .bit_5_L => [0xCB, 0x6D]
  | .bit_5_mHL => [0xCB, 0x6E]
  | .bit_5_A => [0xCB, 0x6F]
  | .bit_6_B => [0xCB, 0x70]
  | .bit_6_C => [0xCB, 0x71]
  | .bit_6_D => [0xCB, 0x72]
  | .bit_6_E => [0xCB, 0x73]
  | .bit_6_H => [0xCB, 0x74]
  | .bit_6_L => [0xCB, 0x75]
  | .bit_6_mHL => [0xCB, 0x76]
  | .bit_6_A => [0xCB, 0x77]
  | .bit_7_B => [0xCB, 0x78]
  | .bit_7_C => [0xCB, 0x79]
  | .bit_7_D => [0xCB, 0x7A]
  | .bit_7_E => [0xCB, 0x7B]
  | .bit_7_H => [0xCB, 0x7C]
  | .bit_7_L => [0xCB, 0x7D]
  | .bit_7_mHL => [0xCB, 0x7E]
  | .bit_7_A => [0xCB, 0x7F]
  | .res_0_B => [0xCB, 0x80]
  | .res_0_C => [0xCB, 0x81]
  | .res_0_D => [0xCB, 0x82]
  | .res_0_E => [0xCB, 0x83]
  | .res_0_H => [0xCB, 0x84]
  | .res_0_L => [0xCB, 0x85]
  | .res_0_mHL => [0xCB, 0x86]
  | .res_0_A => [0xCB, 0x87]
  | .res_1_B => [0xCB, 0x88]
  | .res_1_C => [0xCB, 0x89]
  | .res_1_D => [0xCB, 0x8A]
  | .res_1_E => [0xCB, 0x8B]
  | .res_1_H => [0xCB, 0x8C]
  | .res_1_L => [0xCB, 0x8D]
  | .res_1_mHL => [0xCB, 0x8E]
  | .res_1_A => [0xCB, 0x8F]
  | .res_2_B => [0xCB, 0x90]
  | .res_2_C => [0xCB, 0x91]
  | .res_2_D => [0xCB, 0x92]
  | .res_2_E => [0xCB, 0x93]
  | .res_2_H => [0xCB, 0x94]
  | .res_2_L => [0xCB, 0x95]
  | .res_2_mHL => [0xCB, 0x96]
  | .res_2_A => [0xCB, 0x97]
  | .res_3_B => [0xCB, 0x98]
  | .res_3_C => [0xCB, 0x99]
  | .res_3_D => [0xCB, 0x9A]
  | .res_3_E => [0xCB, 0x9B]
  | .res_3_H => [0xCB, 0x9C]
  | .res_3_L => [0xCB, 0x9D]
  | .res_3_mHL => [0xCB, 0x9E]
  | .res_3_A => [0xCB, 0x9F]
  | .res_4_B => [0xCB, 0xA0]
  | .res_4_C => [0xCB, 0xA1]
  | .res_4_D => [0xCB, 0xA2]
  | .res_4_E => [0xCB, 0xA3]
  | .res_4_H => [0xCB, 0xA4]
  | .res_4_L => [0xCB, 0xA5]
  | .res_4_mHL => [0xCB, 0xA6]
  | .res_4_A => [0xCB, 0xA7]
  | .res_5_B => [0xCB, 0xA8]
  | .res_5_C => [0xCB, 0xA9]
  | .res_5_D => [0xCB, 0xAA]
  | .res_5_E => [0xCB, 0xAB]
  | .res_5_H => [0xCB, 0xAC]
  | .res_5_L => [0xCB, 0xAD]
  | .res_5_mHL => [0xCB, 0xAE]
  | .res_5_A => [0xCB, 0xAF]
  | .res_6_B => [0xCB, 0xB0]
  | .res_6_C => [0xCB, 0xB1]
  | .res_6_D => [0xCB, 0xB2]
  | .res_6_E => [0xCB, 0xB3]
  | .res_6_H => [0xCB, 0xB4]
  | .res_6_L => [0xCB, 0xB5]
  | .res_6_mHL => [0xCB, 0xB6]
  | .res_6_A => [0xCB, 0xB7]
  | .res_7_B => [0xCB, 0xB8]
  | .res_7_C => [0xCB, 0xB9]
  | .res_7_D => [0xCB, 0xBA]
  | .res_7_E => [0xCB, 0xBB]
  | .res_7_H => [0xCB, 0xBC]
  | .res_7_L => [0xCB, 0xBD]
  | .res_7_mHL => [0xCB, 0xBE]
  | .res_7_A => [0xCB, 0xBF]
  | .set_0_B => [0xCB, 0xC0]
  | .set_0_C => [0xCB, 0xC1]
  | .set_0_D => [0xCB, 0xC2]
  | .set_0_E => [0xCB, 0xC3]
  | .set_0_H => [0xCB, 0xC4]
  | .set_0_L => [0xCB, 0xC5]
  | .set_0_mHL => [0xCB, 0xC6]
  | .set_0_A => [0xCB, 0xC7]
  | .set_1_B => [0xCB, 0xC8]
  | .set_1_C => [0xCB, 0xC9]
  | .set_1_D => [0xCB, 0xCA]
  | .set_1_E => [0xCB, 0xCB]
  | .set_1_H => [0xCB, 0xCC]
  | .set_1_L => [0xCB, 0xCD]
  | .set_1_mHL => [0xCB, 0xCE]
  | .set_1_A => [0xCB, 0xCF]
  | .set_2_B => [0xCB, 0xD0]
  | .set_2_C => [0xCB, 0xD1]
  | .set_2_D => [0xCB, 0xD2]
  | .set_2_E => [0xCB, 0xD3]
  | .set_2_H => [0xCB, 0xD4]
  | .set_2_L => [0xCB, 0xD5]
  | .set_2_mHL => [0xCB, 0xD6]
  | .set_2_A => [0xCB, 0xD7]
  | .set_3_B => [0xCB, 0xD8]
  | .set_3_C => [0xCB, 0xD9]
  | .set_3_D => [0xCB, 0xDA]
  | .set_3_E => [0xCB, 0xDB]
  | .set_3_H => [0xCB, 0xDC]
  | .set_3_L => [0xCB, 0xDD]
  | .set_3_mHL => [0xCB, 0xDE]
  | .set_3_A => [0xCB, 0xDF]
  | .set_4_B => [0xCB, 0xE0]
  | .set_4_C => [0xCB, 0xE1]
  | .set_4_D => [0xCB, 0xE2]
  | .set_4_E => [0xCB, 0xE3]
  | .set_4_H => [0xCB, 0xE4]
  | .set_4_L => [0xCB, 0xE5]
  | .set_4_mHL => [0xCB, 0xE6]
  | .set_4_A => [0xCB, 0xE7]
  | .set_5_B => [0xCB, 0xE8]
  | .set_5_C => [0xCB, 0xE9]
  | .set_5_D => [0xCB, 0xEA]
  | .set_5_E => [0xCB, 0xEB]
  | .set_5_H => [0xCB, 0xEC]
  | .set_5_L => [0xCB, 0xED]
  | .set_5_mHL => [0xCB, 0xEE]
  | .set_5_A => [0xCB, 0xEF]
  | .set_6_B => [0xCB, 0xF0]
  | .set_6_C => [0xCB, 0xF1]
  | .set_6_D => [0xCB, 0xF2]
  | .set_6_E => [0xCB, 0xF3]
  | .set_6_H => [0xCB, 0xF4]
  | .set_6_L => [0xCB, 0xF5]
  | .set_6_mHL => [0xCB, 0xF6]
  | .set_6_A => [0xCB, 0xF7]
  | .set_7_B => [0xCB, 0xF8]
  | .set_7_C => [0xCB, 0xF9]
  | .set_7_D => [0xCB, 0xFA]
  | .set_7_E => [0xCB, 0xFB]
  | .set_7_H => [0xCB, 0xFC]
  | .set_7_L => [0xCB, 0xFD]
  | .set_7_mHL => [0xCB, 0xFE]
  | .set_7_A => [0xCB, 0xFF]
  | .ed_nop op => [0xED, op]
  | .in_B_mC => [0xED, 0x40]
  | .out_mC_B => [0xED, 0x41]
  | .sbc_HL_BC => [0xED, 0x42]
  | .ld_mnn_BC nn => [0xED, 0x43, lo nn, hi nn]
  | .neg y => [0xED, opcode 1 y 4]
  | .retn y => [0xED, opcode 1 y 5]
  | .im_0 second => [0xED, if second then 0x66 else 0x46]
  | .ld_I_A => [0xED, 0x47]
  | .in_C_mC => [0xED, 0x48]
  | .out_mC_C => [0xED, 0x49]
  | .adc_HL_BC => [0xED, 0x4A]
  | .ld_BC_mnn nn => [0xED, 0x4B, lo nn, hi nn]
  | .reti => [0xED, 0x4D]
  | .im_0_mirror second => [0xED, if second then 0x6E else 0x4E]
  | .ld_R_A => [0xED, 0x4F]
  | .in_D_mC => [0xED, 0x50]
  | .out_mC_D => [0xED, 0x51]
  | .sbc_HL_DE => [0xED, 0x52]
  | .ld_mnn_DE nn => [0xED, 0x53, lo nn, hi nn]
  | .im_1 second => [0xED, if second then 0x76 else 0x56]
  | .ld_A_I => [0xED, 0x57]
  | .in_E_mC => [0xED, 0x58]
  | .out_mC_E => [0xED, 0x59]
  | .adc_HL_DE => [0xED, 0x5A]
  | .ld_DE_mnn nn => [0xED, 0x5B, lo nn, hi nn]
  | .im_2 second => [0xED, if second then 0x7E else 0x5E]
  | .ld_A_R => [0xED, 0x5F]
  | .in_H_mC => [0xED, 0x60]
  | .out_mC_H => [0xED, 0x61]
  | .sbc_HL_HL => [0xED, 0x62]
  | .ld_mnn_HL_ed nn => [0xED, 0x63, lo nn, hi nn]
  | .rrd => [0xED, 0x67]
  | .in_L_mC => [0xED, 0x68]
  | .out_mC_L => [0xED, 0x69]
  | .adc_HL_HL => [0xED, 0x6A]
  | .ld_HL_mnn_ed nn => [0xED, 0x6B, lo nn, hi nn]
  | .rld => [0xED, 0x6F]
  | .in_mC => [0xED, 0x70]
  | .out_mC_0 => [0xED, 0x71]
  | .sbc_HL_SP => [0xED, 0x72]
  | .ld_mnn_SP nn => [0xED, 0x73, lo nn, hi nn]
  | .in_A_mC => [0xED, 0x78]
  | .out_mC_A => [0xED, 0x79]
  | .adc_HL_SP => [0xED, 0x7A]
  | .ld_SP_mnn nn => [0xED, 0x7B, lo nn, hi nn]
  | .ldi => [0xED, 0xA0]
  | .cpi => [0xED, 0xA1]
  | .ini => [0xED, 0xA2]
  | .outi => [0xED, 0xA3]
  | .ldd => [0xED, 0xA8]
  | .cpd => [0xED, 0xA9]
  | .ind => [0xED, 0xAA]
  | .outd => [0xED, 0xAB]
  | .ldir => [0xED, 0xB0]
  | .cpir => [0xED, 0xB1]
  | .inir => [0xED, 0xB2]
  | .otir => [0xED, 0xB3]
  | .lddr => [0xED, 0xB8]
  | .cpdr => [0xED, 0xB9]
  | .indr => [0xED, 0xBA]
  | .otdr => [0xED, 0xBB]
  | .dd_nop => [0xDD, 0x00]
  | .dd_ld_BC_nn nn => [0xDD, 0x01, lo nn, hi nn]
  | .dd_ld_mBC_A => [0xDD, 0x02]
  | .dd_inc_BC => [0xDD, 0x03]
  | .dd_inc_B => [0xDD, 0x04]
  | .dd_dec_B => [0xDD, 0x05]
  | .dd_ld_B_n n => [0xDD, 0x06, n]
  | .dd_rlca => [0xDD, 0x07]
  | .dd_ex_AF_AF => [0xDD, 0x08]
  | .add_IX_BC => [0xDD, 0x09]
  | .dd_ld_A_mBC => [0xDD, 0x0A]
  | .dd_dec_BC => [0xDD, 0x0B]
  | .dd_inc_C => [0xDD, 0x0C]
  | .dd_dec_C => [0xDD, 0x0D]
  | .dd_ld_C_n n => [0xDD, 0x0E, n]
  | .dd_rrca => [0xDD, 0x0F]
  | .dd_djnz_e e => [0xDD, 0x10, e]
  | .dd_ld_DE_nn nn => [0xDD, 0x11, lo nn, hi nn]
  | .dd_ld_mDE_A => [0xDD, 0x12]
  | .dd_inc_DE => [0xDD, 0x13]
  | .dd_inc_D => [0xDD, 0x14]
  | .dd_dec_D => [0xDD, 0x15]
  | .dd_ld_D_n n => [0xDD, 0x16, n]
  | .dd_rla => [0xDD, 0x17]
  | .dd_jr_e e => [0xDD, 0x18, e]
  | .add_IX_DE => [0xDD, 0x19]
  | .dd_ld_A_mDE => [0xDD, 0x1A]
  | .dd_dec_DE => [0xDD, 0x1B]
  | .dd_inc_E => [0xDD, 0x1C]
  | .dd_dec_E => [0xDD, 0x1D]
  | .dd_ld_E_n n => [0xDD, 0x1E, n]
  | .dd_rra => [0xDD, 0x1F]
  | .dd_jr_NZ_e e => [0xDD, 0x20, e]
  | .ld_IX_nn nn => [0xDD, 0x21, lo nn, hi nn]
  | .ld_mnn_IX nn => [0xDD, 0x22, lo nn, hi nn]
  | .inc_IX => [0xDD, 0x23]
  | .inc_IXH => [0xDD, 0x24]
  | .dec_IXH => [0xDD, 0x25]
  | .ld_IXH_n n => [0xDD, 0x26, n]
  | .dd_daa => [0xDD, 0x27]
  | .dd_jr_Z_e e => [0xDD, 0x28, e]
  | .add_IX_IX => [0xDD, 0x29]
  | .ld_IX_mnn nn => [0xDD, 0x2A, lo nn, hi nn]
  | .dec_IX => [0xDD, 0x2B]
  | .inc_IXL => [0xDD, 0x2C]
  | .dec_IXL => [0xDD, 0x2D]
  | .ld_IXL_n n => [0xDD, 0x2E, n]
  | .dd_cpl => [0xDD, 0x2F]
  | .dd_jr_NC_e e => [0xDD, 0x30, e]
  | .dd_ld_SP_nn nn => [0xDD, 0x31, lo nn, hi nn]
  | .dd_ld_mnn_A nn => [0xDD, 0x32, lo nn, hi nn]
  | .dd_inc_SP => [0xDD, 0x33]
  | .inc_mIXd d => [0xDD, 0x34, d]
  | .dec_mIXd d => [0xDD, 0x35, d]
  | .ld_mIXd_n d n => [0xDD, 0x36, d, n]
  | .dd_scf => [0xDD, 0x37]
  | .dd_jr_C_e e => [0xDD, 0x38, e]
  | .add_IX_SP => [0xDD, 0x39]
  | .dd_ld_A_mnn nn => [0xDD, 0x3A, lo nn, hi nn]
  | .dd_dec_SP => [0xDD, 0x3B]
  | .dd_inc_A => [0xDD, 0x3C]
  | .dd_dec_A => [0xDD, 0x3D]
  | .dd_ld_A_n n => [0xDD, 0x3E, n]
  | .dd_ccf => [0xDD, 0x3F]
  | .dd_ld_B_B => [0xDD, 0x40]
  | .dd_ld_B_C => [0xDD, 0x41]
  | .dd_ld_B_D => [0xDD, 0x42]
  | .dd_ld_B_E => [0xDD, 0x43]
  | .ld_B_IXH => [0xDD, 0x44]
  | .ld_B_IXL => [0xDD, 0x45]
  | .ld_B_mIXd d => [0xDD, 0x46, d]
  | .dd_ld_B_A => [0xDD, 0x47]
  | .dd_ld_C_B => [0xDD, 0x48]
  | .dd_ld_C_C => [0xDD, 0x49]
  | .dd_ld_C_D => [0xDD, 0x4A]
  | .dd_ld_C_E => [0xDD, 0x4B]
  | .ld_C_IXH => [0xDD, 0x4C]
  | .ld_C_IXL => [0xDD, 0x4D]
  | .ld_C_mIXd d => [0xDD, 0x4E, d]
  | .dd_ld_C_A => [0xDD, 0x4F]
  | .dd_ld_D_B => [0xDD, 0x50]
  | .dd_ld_D_C => [0xDD, 0x51]
  | .dd_ld_D_D => [0xDD, 0x52]
  | .dd_ld_D_E => [0xDD, 0x53]
  | .ld_D_IXH => [0xDD, 0x54]
  | .ld_D_IXL => [0xDD, 0x55]
  | .ld_D_mIXd d => [0xDD, 0x56, d]
  | .dd_ld_D_A => [0xDD, 0x57]
  | .dd_ld_E_B => [0xDD, 0x58]
  | .dd_ld_E_C => [0xDD, 0x59]
  | .dd_ld_E_D => [0xDD, 0x5A]
  | .dd_ld_E_E => [0xDD, 0x5B]
  | .ld_E_IXH => [0xDD, 0x5C]
  | .ld_E_IXL => [0xDD, 0x5D]
  | .ld_E_mIXd d => [0xDD, 0x5E, d]
  | .dd_ld_E_A => [0xDD, 0x5F]
  | .ld_IXH_B => [0xDD, 0x60]
  | .ld_IXH_C => [0xDD, 0x61]
  | .ld_IXH_D => [0xDD, 0x62]
  | .ld_IXH_E => [0xDD, 0x63]
  | .ld_IXH_IXH => [0xDD, 0x64]
  | .ld_IXH_IXL => [0xDD, 0x65]
  | .ld_H_mIXd d => [0xDD, 0x66, d]
  | .ld_IXH_A => [0xDD, 0x67]
  | .ld_IXL_B => [0xDD, 0x68]
  | .ld_IXL_C => [0xDD, 0x69]
  | .ld_IXL_D => [0xDD, 0x6A]
  | .ld_IXL_E => [0xDD, 0x6B]
  | .ld_IXL_IXH => [0xDD, 0x6C]
  | .ld_IXL_IXL => [0xDD, 0x6D]
  | .ld_L_mIXd d => [0xDD, 0x6E, d]
  | .ld_IXL_A => [0xDD, 0x6F]
  | .ld_mIXd_B d => [0xDD, 0x70, d]
  | .ld_mIXd_C d => [0xDD, 0x71, d]
  | .ld_mIXd_D d => [0xDD, 0x72, d]
  | .ld_mIXd_E d => [0xDD, 0x73, d]
  | .ld_mIXd_H d => [0xDD, 0x74, d]
  | .ld_mIXd_L d => [0xDD, 0x75, d]
  | .dd_halt => [0xDD, 0x76]
  | .ld_mIXd_A d => [0xDD, 0x77, d]
  | .dd_ld_A_B => [0xDD, 0x78]
  | .dd_ld_A_C => [0xDD, 0x79]
  | .dd_ld_A_D => [0xDD, 0x7A]
  | .dd_ld_A_E => [0xDD, 0x7B]
  | .ld_A_IXH => [0xDD, 0x7C]
  | .ld_A_IXL => [0xDD, 0x7D]
  | .ld_A_mIXd d => [0xDD, 0x7E, d]
  | .dd_ld_A_A => [0xDD, 0x7F]
  | .dd_add_A_B => [0xDD, 0x80]
  | .dd_add_A_C => [0xDD, 0x81]
  | .dd_add_A_D => [0xDD, 0x82]
  | .dd_add_A_E => [0xDD, 0x83]
  | .add_A_IXH => [0xDD, 0x84]
  | .add_A_IXL => [0xDD, 0x85]
  | .add_A_mIXd d => [0xDD, 0x86, d]
  | .dd_add_A_A => [0xDD, 0x87]
  | .dd_adc_A_B => [0xDD, 0x88]
  | .dd_adc_A_C => [0xDD, 0x89]
  | .dd_adc_A_D => [0xDD, 0x8A]
  | .dd_adc_A_E => [0xDD, 0x8B]
  | .adc_A_IXH => [0xDD, 0x8C]
  | .adc_A_IXL => [0xDD, 0x8D]
  | .adc_A_mIXd d => [0xDD, 0x8E, d]
  | .dd_adc_A_A => [0xDD, 0x8F]
  | .dd_sub_B => [0xDD, 0x90]
  | .dd_sub_C => [0xDD, 0x91]
  | .dd_sub_D => [0xDD, 0x92]
  | .dd_sub_E => [0xDD, 0x93]
  | .sub_IXH => [0xDD, 0x94]
  | .sub_IXL => [0xDD, 0x95]
  | .sub_mIXd d => [0xDD, 0x96, d]
  | .dd_sub_A => [0xDD, 0x97]
  | .dd_sbc_A_B => [0xDD, 0x98]
  | .dd_sbc_A_C => [0xDD, 0x99]
  | .dd_sbc_A_D => [0xDD, 0x9A]
  | .dd_sbc_A_E => [0xDD, 0x9B]
  | .sbc_A_IXH => [0xDD, 0x9C]
  | .sbc_A_IXL => [0xDD, 0x9D]
  | .sbc_A_mIXd d => [0xDD, 0x9E, d]
  | .dd_sbc_A_A => [0xDD, 0x9F]
  | .dd_and_B => [0xDD, 0xA0]
  | .dd_and_C => [0xDD, 0xA1]
  | .dd_and_D => [0xDD, 0xA2]
  | .dd_and_E => [0xDD, 0xA3]
  | .and_IXH => [0xDD, 0xA4]
  | .and_IXL => [0xDD, 0xA5]
  | .and_mIXd d => [0xDD, 0xA6, d]
  | .dd_and_A => [0xDD, 0xA7]
  | .dd_xor_B => [0xDD, 0xA8]
  | .dd_xor_C => [0xDD, 0xA9]
  | .dd_xor_D => [0xDD, 0xAA]
  | .dd_xor_E => [0xDD, 0xAB]
  | .xor_IXH => [0xDD, 0xAC]
  | .xor_IXL => [0xDD, 0xAD]
  | .xor_mIXd d => [0xDD, 0xAE, d]
  | .dd_xor_A => [0xDD, 0xAF]
  | .dd_or_B => [0xDD, 0xB0]
  | .dd_or_C => [0xDD, 0xB1]
  | .dd_or_D => [0xDD, 0xB2]
  | .dd_or_E => [0xDD, 0xB3]
  | .or_IXH => [0xDD, 0xB4]
  | .or_IXL => [0xDD, 0xB5]
  | .or_mIXd d => [0xDD, 0xB6, d]
  | .dd_or_A => [0xDD, 0xB7]
  | .dd_cp_B => [0xDD, 0xB8]
  | .dd_cp_C => [0xDD, 0xB9]
  | .dd_cp_D => [0xDD, 0xBA]
  | .dd_cp_E => [0xDD, 0xBB]
  | .cp_IXH => [0xDD, 0xBC]
  | .cp_IXL => [0xDD, 0xBD]
  | .cp_mIXd d => [0xDD, 0xBE, d]
  | .dd_cp_A => [0xDD, 0xBF]
  | .dd_ret_NZ => [0xDD, 0xC0]
  | .dd_pop_BC => [0xDD, 0xC1]
  | .dd_jp_NZ_nn nn => [0xDD, 0xC2, lo nn, hi nn]
  | .dd_jp_nn nn => [0xDD, 0xC3, lo nn, hi nn]
  | .dd_call_NZ_nn nn => [0xDD, 0xC4, lo nn, hi nn]
  | .dd_push_BC => [0xDD, 0xC5]
  | .dd_add_A_n n => [0xDD, 0xC6, n]
  | .dd_rst_00h => [0xDD, 0xC7]
  | .dd_ret_Z => [0xDD, 0xC8]
  | .dd_ret => [0xDD, 0xC9]
  | .dd_jp_Z_nn nn => [0xDD, 0xCA, lo nn, hi nn]
  | .dd_call_Z_nn nn => [0xDD, 0xCC, lo nn, hi nn]
  | .dd_call_nn nn => [0xDD, 0xCD, lo nn, hi nn]
  | .dd_adc_A_n n => [0xDD, 0xCE, n]
  | .dd_rst_08h => [0xDD, 0xCF]
  | .dd_ret_NC => [0xDD, 0xD0]
  | .dd_pop_DE => [0xDD, 0xD1]
  | .dd_jp_NC_nn nn => [0xDD, 0xD2, lo nn, hi nn]
  | .dd_out_mn_A n => [0xDD, 0xD3, n]
  | .dd_call_NC_nn nn => [0xDD, 0xD4, lo nn, hi nn]
  | .dd_push_DE => [0xDD, 0xD5]
  | .dd_sub_n n => [0xDD, 0xD6, n]
  | .dd_rst_10h => [0xDD, 0xD7]
  | .dd_ret_C => [0xDD, 0xD8]
  | .dd_exx => [0xDD, 0xD9]
  | .dd_jp_C_nn nn => [0xDD, 0xDA, lo nn, hi nn]
  | .dd_in_A_mn n => [0xDD, 0xDB, n]
  | .dd_call_C_nn nn => [0xDD, 0xDC, lo nn, hi nn]
  | .dd_sbc_A_n n => [0xDD, 0xDE, n]
  | .dd_rst_18h => [0xDD, 0xDF]
  | .dd_ret_PO => [0xDD, 0xE0]
  | .pop_IX => [0xDD, 0xE1]
  | .dd_jp_PO_nn nn => [0xDD, 0xE2, lo nn, hi nn]
  | .ex_mSP_IX => [0xDD, 0xE3]
  | .dd_call_PO_nn nn => [0xDD, 0xE4, lo nn, hi nn]
  | .push_IX => [0xDD, 0xE5]
  | .dd_and_n n => [0xDD, 0xE6, n]
  | .dd_rst_20h => [0xDD, 0xE7]
  | .dd_ret_PE => [0xDD, 0xE8]
  | .jp_mIX => [0xDD, 0xE9]
  | .dd_jp_PE_nn nn => [0xDD, 0xEA, lo nn, hi nn]
  | .dd_ex_DE_HL => [0xDD, 0xEB]
  | .dd_call_PE_nn nn => [0xDD, 0xEC, lo nn, hi nn]
  | .dd_xor_n n => [0xDD, 0xEE, n]
  | .dd_rst_28h => [0xDD, 0xEF]
  | .dd_ret_P => [0xDD, 0xF0]
  | .dd_pop_AF => [0xDD, 0xF1]
  | .dd_jp_P_nn nn => [0xDD, 0xF2, lo nn, hi nn]
  | .dd_di => [0xDD, 0xF3]
  | .dd_call_P_nn nn => [0xDD, 0xF4, lo nn, hi nn]
  | .dd_push_AF => [0xDD, 0xF5]
  | .dd_or_n n => [0xDD, 0xF6, n]
  | .dd_rst_30h => [0xDD, 0xF7]
  | .dd_ret_M => [0xDD, 0xF8]
  | .ld_SP_IX => [0xDD, 0xF9]
  | .dd_jp_M_nn nn => [0xDD, 0xFA, lo nn, hi nn]
  | .dd_ei => [0xDD, 0xFB]
  | .dd_call_M_nn nn => [0xDD, 0xFC, lo nn, hi nn]
  | .dd_cp_n n => [0xDD, 0xFE, n]
  | .dd_rst_38h => [0xDD, 0xFF]
  | .rlc_mIXd_B d => [0xDD, 0xCB, d, 0x00]
  | .rlc_mIXd_C d => [0xDD, 0xCB, d, 0x01]
  | .rlc_mIXd_D d => [0xDD, 0xCB, d, 0x02]
  | .rlc_mIXd_E d => [0xDD, 0xCB, d, 0x03]
  | .rlc_mIXd_H d => [0xDD, 0xCB, d, 0x04]
  | .rlc_mIXd_L d => [0xDD, 0xCB, d, 0x05]
  | .rlc_mIXd d => [0xDD, 0xCB, d, 0x06]
  | .rlc_mIXd_A d => [0xDD, 0xCB, d, 0x07]
  | .rrc_mIXd_B d => [0xDD, 0xCB, d, 0x08]
  | .rrc_mIXd_C d => [0xDD, 0xCB, d, 0x09]
  | .rrc_mIXd_D d => [0xDD, 0xCB, d, 0x0A]
  | .rrc_mIXd_E d => [0xDD, 0xCB, d, 0x0B]
  | .rrc_mIXd_H d => [0xDD, 0xCB, d, 0x0C]
  | .rrc_mIXd_L d => [0xDD, 0xCB, d, 0x0D]
  | .rrc_mIXd d => [0xDD, 0xCB, d, 0x0E]
  | .rrc_mIXd_A d => [0xDD, 0xCB, d, 0x0F]
  | .rl_mIXd_B d => [0xDD, 0xCB, d, 0x10]
  | .rl_mIXd_C d => [0xDD, 0xCB, d, 0x11]
  | .rl_mIXd_D d => [0xDD, 0xCB, d, 0x12]
  | .rl_mIXd_E d => [0xDD, 0xCB, d, 0x13]
  | .rl_mIXd_H d => [0xDD, 0xCB, d, 0x14]
  | .rl_mIXd_L d => [0xDD, 0xCB, d, 0x15]
  | .rl_mIXd d => [0xDD, 0xCB, d, 0x16]
  | .rl_mIXd_A d => [0xDD, 0xCB, d, 0x17]
  | .rr_mIXd_B d => [0xDD, 0xCB, d, 0x18]
  | .rr_mIXd_C d => [0xDD, 0xCB, d, 0x19]
  | .rr_mIXd_D d => [0xDD, 0xCB, d, 0x1A]
  | .rr_mIXd_E d => [0xDD, 0xCB, d, 0x1B]
  | .rr_mIXd_H d => [0xDD, 0xCB, d, 0x1C]
  | .rr_mIXd_L d => [0xDD, 0xCB, d, 0x1D]
  | .rr_mIXd d => [0xDD, 0xCB, d, 0x1E]
  | .rr_mIXd_A d => [0xDD, 0xCB, d, 0x1F]
  | .sla_mIXd_B d => [0xDD, 0xCB, d, 0x20]
  | .sla_mIXd_C d => [0xDD, 0xCB, d, 0x21]
  | .sla_mIXd_D d => [0xDD, 0xCB, d, 0x22]
  | .sla_mIXd_E d => [0xDD, 0xCB, d, 0x23]
  | .sla_mIXd_H d => [0xDD, 0xCB, d, 0x24]
  | .sla_mIXd_L d => [0xDD, 0xCB, d, 0x25]
  | .sla_mIXd d => [0xDD, 0xCB, d, 0x26]
  | .sla_mIXd_A d => [0xDD, 0xCB, d, 0x27]
  | .sra_mIXd_B d => [0xDD, 0xCB, d, 0x28]
  | .sra_mIXd_C d => [0xDD, 0xCB, d, 0x29]
  | .sra_mIXd_D d => [0xDD, 0xCB, d, 0x2A]
  | .sra_mIXd_E d => [0xDD, 0xCB, d, 0x2B]
  | .sra_mIXd_H d => [0xDD, 0xCB, d, 0x2C]
  | .sra_mIXd_L d => [0xDD, 0xCB, d, 0x2D]
  | .sra_mIXd d => [0xDD, 0xCB, d, 0x2E]
  | .sra_mIXd_A d => [0xDD, 0xCB, d, 0x2F]
  | .sll_mIXd_B d => [0xDD, 0xCB, d, 0x30]
  | .sll_mIXd_C d => [0xDD, 0xCB, d, 0x31]
  | .sll_mIXd_D d => [0xDD, 0xCB, d, 0x32]
  | .sll_mIXd_E d => [0xDD, 0xCB, d, 0x33]
  | .sll_mIXd_H d => [0xDD, 0xCB, d, 0x34]
  | .sll_mIXd_L d => [0xDD, 0xCB, d, 0x35]
  | .sll_mIXd d => [0xDD, 0xCB, d, 0x36]
  | .sll_mIXd_A d => [0xDD, 0xCB, d, 0x37]
  | .srl_mIXd_B d => [0xDD, 0xCB, d, 0x38]
  | .srl_mIXd_C d => [0xDD, 0xCB, d, 0x39]
  | .srl_mIXd_D d => [0xDD, 0xCB, d, 0x3A]
  | .srl_mIXd_E d => [0xDD, 0xCB, d, 0x3B]
  | .srl_mIXd_H d => [0xDD, 0xCB, d, 0x3C]
  | .srl_mIXd_L d => [0xDD, 0xCB, d, 0x3D]
  | .srl_mIXd d => [0xDD, 0xCB, d, 0x3E]
  | .srl_mIXd_A d => [0xDD, 0xCB, d, 0x3F]
  | .bit_0_mIXd z d => [0xDD, 0xCB, d, opcode 1 0 z]
  | .bit_1_mIXd z d => [0xDD, 0xCB, d, opcode 1 1 z]
  | .bit_2_mIXd z d => [0xDD, 0xCB, d, opcode 1 2 z]
  | .bit_3_mIXd z d => [0xDD, 0xCB, d, opcode 1 3 z]
  | .bit_4_mIXd z d => [0xDD, 0xCB, d, opcode 1 4 z]
  | .bit_5_mIXd z d => [0xDD, 0xCB, d, opcode 1 5 z]
  | .bit_6_mIXd z d => [0xDD, 0xCB, d, opcode 1 6 z]
  | .bit_7_mIXd z d => [0xDD, 0xCB, d, opcode 1 7 z]
  | .res_0_mIXd_B d => [0xDD, 0xCB, d, 0x80]
  | .res_0_mIXd_C d => [0xDD, 0xCB, d, 0x81]
  | .res_0_mIXd_D d => [0xDD, 0xCB, d, 0x82]
  | .res_0_mIXd_E d => [0xDD, 0xCB, d, 0x83]
  | .res_0_mIXd_H d => [0xDD, 0xCB, d, 0x84]
  | .res_0_mIXd_L d => [0xDD, 0xCB, d, 0x85]
  | .res_0_mIXd d => [0xDD, 0xCB, d, 0x86]
  | .res_0_mIXd_A d => [0xDD, 0xCB, d, 0x87]
  | .res_1_mIXd_B d => [0xDD, 0xCB, d, 0x88]
  | .res_1_mIXd_C d => [0xDD, 0xCB, d, 0x89]
  | .res_1_mIXd_D d => [0xDD, 0xCB, d, 0x8A]
  | .res_1_mIXd_E d => [0xDD, 0xCB, d, 0x8B]
  | .res_1_mIXd_H d => [0xDD, 0xCB, d, 0x8C]
  | .res_1_mIXd_L d => [0xDD, 0xCB, d, 0x8D]
  | .res_1_mIXd d => [0xDD, 0xCB, d, 0x8E]
  | .res_1_mIXd_A d => [0xDD, 0xCB, d, 0x8F]
  | .res_2_mIXd_B d => [0xDD, 0xCB, d, 0x90]
  | .res_2_mIXd_C d => [0xDD, 0xCB, d, 0x91]
  | .res_2_mIXd_D d => [0xDD, 0xCB, d, 0x92]
  | .res_2_mIXd_E d => [0xDD, 0xCB, d, 0x93]
  | .res_2_mIXd_H d => [0xDD, 0xCB, d, 0x94]
  | .res_2_mIXd_L d => [0xDD, 0xCB, d, 0x95]
  | .res_2_mIXd d => [0xDD, 0xCB, d, 0x96]
  | .res_2_mIXd_A d => [0xDD, 0xCB, d, 0x97]
  | .res_3_mIXd_B d => [0xDD, 0xCB, d, 0x98]
  | .res_3_mIXd_C d => [0xDD, 0xCB, d, 0x99]
  | .res_3_mIXd_D d => [0xDD, 0xCB, d, 0x9A]
  | .res_3_mIXd_E d => [0xDD, 0xCB, d, 0x9B]
  | .res_3_mIXd_H d => [0xDD, 0xCB, d, 0x9C]
  | .res_3_mIXd_L d => [0xDD, 0xCB, d, 0x9D]
  | .res_3_mIXd d => [0xDD, 0xCB, d, 0x9E]
  | .res_3_mIXd_A d => [0xDD, 0xCB, d, 0x9F]
  | .res_4_mIXd_B d => [0xDD, 0xCB, d, 0xA0]
  | .res_4_mIXd_C d => [0xDD, 0xCB, d, 0xA1]
  | .res_4_mIXd_D d => [0xDD, 0xCB, d, 0xA2]
  | .res_4_mIXd_E d => [0xDD, 0xCB, d, 0xA3]
  | .res_4_mIXd_H d => [0xDD, 0xCB, d, 0xA4]
  | .res_4_mIXd_L d => [0xDD, 0xCB, d, 0xA5]
  | .res_4_mIXd d => [0xDD, 0xCB, d, 0xA6]
  | .res_4_mIXd_A d => [0xDD, 0xCB, d, 0xA7]
  | .res_5_mIXd_B d => [0xDD, 0xCB, d, 0xA8]
  | .res_5_mIXd_C d => [0xDD, 0xCB, d, 0xA9]
  | .res_5_mIXd_D d => [0xDD, 0xCB, d, 0xAA]
  | .res_5_mIXd_E d => [0xDD, 0xCB, d, 0xAB]
  | .res_5_mIXd_H d => [0xDD, 0xCB, d, 0xAC]
  | .res_5_mIXd_L d => [0xDD, 0xCB, d, 0xAD]
  | .res_5_mIXd d => [0xDD, 0xCB, d, 0xAE]
  | .res_5_mIXd_A d => [0xDD, 0xCB, d, 0xAF]
  | .res_6_mIXd_B d => [0xDD, 0xCB, d, 0xB0]
  | .res_6_mIXd_C d => [0xDD, 0xCB, d, 0xB1]
  | .res_6_mIXd_D d => [0xDD, 0xCB, d, 0xB2]
  | .res_6_mIXd_E d => [0xDD, 0xCB, d, 0xB3]
  | .res_6_mIXd_H d => [0xDD, 0xCB, d, 0xB4]
  | .res_6_mIXd_L d => [0xDD, 0xCB, d, 0xB5]
  | .res_6_mIXd d => [0xDD, 0xCB, d, 0xB6]
  | .res_6_mIXd_A d => [0xDD, 0xCB, d, 0xB7]
  | .res_7_mIXd_B d => [0xDD, 0xCB, d, 0xB8]
  | .res_7_mIXd_C d => [0xDD, 0xCB, d, 0xB9]
  | .res_7_mIXd_D d => [0xDD, 0xCB, d, 0xBA]
  | .res_7_mIXd_E d => [0xDD, 0xCB, d, 0xBB]
  | .res_7_mIXd_H d => [0xDD, 0xCB, d, 0xBC]
  | .res_7_mIXd_L d => [0xDD, 0xCB, d, 0xBD]
  | .res_7_mIXd d => [0xDD, 0xCB, d, 0xBE]
  | .res_7_mIXd_A d => [0xDD, 0xCB, d, 0xBF]
  | .set_0_mIXd_B d => [0xDD, 0xCB, d, 0xC0]
  | .set_0_mIXd_C d => [0xDD, 0xCB, d, 0xC1]
  | .set_0_mIXd_D d => [0xDD, 0xCB, d, 0xC2]
  | .set_0_mIXd_E d => [0xDD, 0xCB, d, 0xC3]
  | .set_0_mIXd_H d => [0xDD, 0xCB, d, 0xC4]
  | .set_0_mIXd_L d => [0xDD, 0xCB, d, 0xC5]
  | .set_0_mIXd d => [0xDD, 0xCB, d, 0xC6]
  | .set_0_mIXd_A d => [0xDD, 0xCB, d, 0xC7]
  | .set_1_mIXd_B d => [0xDD, 0xCB, d, 0xC8]
  | .set_1_mIXd_C d => [0xDD, 0xCB, d, 0xC9]
  | .set_1_mIXd_D d => [0xDD, 0xCB, d, 0xCA]
  | .set_1_mIXd_E d => [0xDD, 0xCB, d, 0xCB]
  | .set_1_mIXd_H d => [0xDD, 0xCB, d, 0xCC]
  | .set_1_mIXd_L d => [0xDD, 0xCB, d, 0xCD]
  | .set_1_mIXd d => [0xDD, 0xCB, d, 0xCE]
  | .set_1_mIXd_A d => [0xDD, 0xCB, d, 0xCF]
  | .set_2_mIXd_B d => [0xDD, 0xCB, d, 0xD0]
  | .set_2_mIXd_C d => [0xDD, 0xCB, d, 0xD1]
  | .set_2_mIXd_D d => [0xDD, 0xCB, d, 0xD2]
  | .set_2_mIXd_E d => [0xDD, 0xCB, d, 0xD3]
  | .set_2_mIXd_H d => [0xDD, 0xCB, d, 0xD4]
  | .set_2_mIXd_L d => [0xDD, 0xCB, d, 0xD5]
  | .set_2_mIXd d => [0xDD, 0xCB, d, 0xD6]
  | .set_2_mIXd_A d => [0xDD, 0xCB, d, 0xD7]
  | .set_3_mIXd_B d => [0xDD, 0xCB, d, 0xD8]
  | .set_3_mIXd_C d => [0xDD, 0xCB, d, 0xD9]
  | .set_3_mIXd_D d => [0xDD, 0xCB, d, 0xDA]
  | .set_3_mIXd_E d => [0xDD, 0xCB, d, 0xDB]
  | .set_3_mIXd_H d => [0xDD, 0xCB, d, 0xDC]
  | .set_3_mIXd_L d => [0xDD, 0xCB, d, 0xDD]
  | .set_3_mIXd d => [0xDD, 0xCB, d, 0xDE]
  | .set_3_mIXd_A d => [0xDD, 0xCB, d, 0xDF]
  | .set_4_mIXd_B d => [0xDD, 0xCB, d, 0xE0]
  | .set_4_mIXd_C d => [0xDD, 0xCB, d, 0xE1]
  | .set_4_mIXd_D d => [0xDD, 0xCB, d, 0xE2]
  | .set_4_mIXd_E d => [0xDD, 0xCB, d, 0xE3]
  | .set_4_mIXd_H d => [0xDD, 0xCB, d, 0xE4]
  | .set_4_mIXd_L d => [0xDD, 0xCB, d, 0xE5]
  | .set_4_mIXd d => [0xDD, 0xCB, d, 0xE6]
  | .set_4_mIXd_A d => [0xDD, 0xCB, d, 0xE7]
  | .set_5_mIXd_B d => [0xDD, 0xCB, d, 0xE8]
  | .set_5_mIXd_C d => [0xDD, 0xCB, d, 0xE9]
  | .set_5_mIXd_D d => [0xDD, 0xCB, d, 0xEA]
  | .set_5_mIXd_E d => [0xDD, 0xCB, d, 0xEB]
  | .set_5_mIXd_H d => [0xDD, 0xCB, d, 0xEC]
  | .set_5_mIXd_L d => [0xDD, 0xCB, d, 0xED]
  | .set_5_mIXd d => [0xDD, 0xCB, d, 0xEE]
  | .set_5_mIXd_A d => [0xDD, 0xCB, d, 0xEF]
  | .set_6_mIXd_B d => [0xDD, 0xCB, d, 0xF0]
  | .set_6_mIXd_C d => [0xDD, 0xCB, d, 0xF1]
  | .set_6_mIXd_D d => [0xDD, 0xCB, d, 0xF2]
  | .set_6_mIXd_E d => [0xDD, 0xCB, d, 0xF3]
  | .set_6_mIXd_H d => [0xDD, 0xCB, d, 0xF4]
  | .set_6_mIXd_L d => [0xDD, 0xCB, d, 0xF5]
  | .set_6_mIXd d => [0xDD, 0xCB, d, 0xF6]
  | .set_6_mIXd_A d => [0xDD, 0xCB, d, 0xF7]
  | .set_7_mIXd_B d => [0xDD, 0xCB, d, 0xF8]
  | .set_7_mIXd_C d => [0xDD, 0xCB, d, 0xF9]
  | .set_7_mIXd_D d => [0xDD, 0xCB, d, 0xFA]
  | .set_7_mIXd_E d => [0xDD, 0xCB, d, 0xFB]
  | .set_7_mIXd_H d => [0xDD, 0xCB, d, 0xFC]
  | .set_7_mIXd_L d => [0xDD, 0xCB, d, 0xFD]
  | .set_7_mIXd d => [0xDD, 0xCB, d, 0xFE]
  | .set_7_mIXd_A d => [0xDD, 0xCB, d, 0xFF]
  | .redundant_DD => [0xDD]
  | .ignored_DD_before_ED => [0xDD]
  | .fd_nop => [0xFD, 0x00]
  | .fd_ld_BC_nn nn => [0xFD, 0x01, lo nn, hi nn]
  | .fd_ld_mBC_A => [0xFD, 0x02]
  | .fd_inc_BC => [0xFD, 0x03]
  | .fd_inc_B => [0xFD, 0x04]
  | .fd_dec_B => [0xFD, 0x05]
  | .fd_ld_B_n n => [0xFD, 0x06, n]
  | .fd_rlca => [0xFD, 0x07]
  | .fd_ex_AF_AF => [0xFD, 0x08]
  | .add_IY_BC => [0xFD, 0x09]
  | .fd_ld_A_mBC => [0xFD, 0x0A]
  | .fd_dec_BC => [0xFD, 0x0B]
  | .fd_inc_C => [0xFD, 0x0C]
  | .fd_dec_C => [0xFD, 0x0D]
  | .fd_ld_C_n n => [0xFD, 0x0E, n]
  | .fd_rrca => [0xFD, 0x0F]
  | .fd_djnz_e e => [0xFD, 0x10, e]
  | .fd_ld_DE_nn nn => [0xFD, 0x11, lo nn, hi nn]
  | .fd_ld_mDE_A => [0xFD, 0x12]
  | .fd_inc_DE => [0xFD, 0x13]
  | .fd_inc_D => [0xFD, 0x14]
  | .fd_dec_D => [0xFD, 0x15]
  | .fd_ld_D_n n => [0xFD, 0x16, n]
  | .fd_rla => [0xFD, 0x17]
  | .fd_jr_e e => [0xFD, 0x18, e]
  | .add_IY_DE => [0xFD, 0x19]
  | .fd_ld_A_mDE => [0xFD, 0x1A]
  | .fd_dec_DE => [0xFD, 0x1B]
  | .fd_inc_E => [0xFD, 0x1C]
  | .fd_dec_E => [0xFD, 0x1D]
  | .fd_ld_E_n n => [0xFD, 0x1E, n]
  | .fd_rra => [0xFD, 0x1F]
  | .fd_jr_NZ_e e => [0xFD, 0x20, e]
  | .ld_IY_nn nn => [0xFD, 0x21, lo nn, hi nn]
  | .ld_mnn_IY nn => [0xFD, 0x22, lo nn, hi nn]
  | .inc_IY => [0xFD, 0x23]
  | .inc_IYH => [0xFD, 0x24]
  | .dec_IYH => [0xFD, 0x25]
  | .ld_IYH_n n => [0xFD, 0x26, n]
  | .fd_daa => [0xFD, 0x27]
  | .fd_jr_Z_e e => [0xFD, 0x28, e]
  | .add_IY_IY => [0xFD, 0x29]
  | .ld_IY_mnn nn => [0xFD, 0x2A, lo nn, hi nn]
  | .dec_IY => [0xFD, 0x2B]
  | .inc_IYL => [0xFD, 0x2C]
  | .dec_IYL => [0xFD, 0x2D]
  | .ld_IYL_n n => [0xFD, 0x2E, n]
  | .fd_cpl => [0xFD, 0x2F]
  | .fd_jr_NC_e e => [0xFD, 0x30, e]
  | .fd_ld_SP_nn nn => [0xFD, 0x31, lo nn, hi nn]
  | .fd_ld_mnn_A nn => [0xFD, 0x32, lo nn, hi nn]
  | .fd_inc_SP => [0xFD, 0x33]
  | .inc_mIYd d => [0xFD, 0x34, d]
  | .dec_mIYd d => [0xFD, 0x35, d]
  | .ld_mIYd_n d n => [0xFD, 0x36, d, n]
  | .fd_scf => [0xFD, 0x37]
  | .fd_jr_C_e e => [0xFD, 0x38, e]
  | .add_IY_SP => [0xFD, 0x39]
  | .fd_ld_A_mnn nn => [0xFD, 0x3A, lo nn, hi nn]
  | .fd_dec_SP => [0xFD, 0x3B]
  | .fd_inc_A => [0xFD, 0x3C]
  | .fd_dec_A => [0xFD, 0x3D]
  | .fd_ld_A_n n => [0xFD, 0x3E, n]
  | .fd_ccf => [0xFD, 0x3F]
  | .fd_ld_B_B => [0xFD, 0x40]
  | .fd_ld_B_C => [0xFD, 0x41]
  | .fd_ld_B_D => [0xFD, 0x42]
  | .fd_ld_B_E => [0xFD, 0x43]
  | .ld_B_IYH => [0xFD, 0x44]
  | .ld_B_IYL => [0xFD, 0x45]
  | .ld_B_mIYd d => [0xFD, 0x46, d]
  | .fd_ld_B_A => [0xFD, 0x47]
  | .fd_ld_C_B => [0xFD, 0x48]
  | .fd_ld_C_C => [0xFD, 0x49]
  | .fd_ld_C_D => [0xFD, 0x4A]
  | .fd_ld_C_E => [0xFD, 0x4B]
  | .ld_C_IYH => [0xFD, 0x4C]
  | .ld_C_IYL => [0xFD, 0x4D]
  | .ld_C_mIYd d => [0xFD, 0x4E, d]
  | .fd_ld_C_A => [0xFD, 0x4F]
  | .fd_ld_D_B => [0xFD, 0x50]
  | .fd_ld_D_C => [0xFD, 0x51]
  | .fd_ld_D_D => [0xFD, 0x52]
  | .fd_ld_D_E => [0xFD, 0x53]
  | .ld_D_IYH => [0xFD, 0x54]
  | .ld_D_IYL => [0xFD, 0x55]
  | .ld_D_mIYd d => [0xFD, 0x56, d]
  | .fd_ld_D_A => [0xFD, 0x57]
  | .fd_ld_E_B => [0xFD, 0x58]
  | .fd_ld_E_C => [0xFD, 0x59]
  | .fd_ld_E_D => [0xFD, 0x5A]
  | .fd_ld_E_E => [0xFD, 0x5B]
  | .ld_E_IYH => [0xFD, 0x5C]
  | .ld_E_IYL => [0xFD, 0x5D]
  | .ld_E_mIYd d => [0xFD, 0x5E, d]
  | .fd_ld_E_A => [0xFD, 0x5F]
  | .ld_IYH_B => [0xFD, 0x60]
  | .ld_IYH_C => [0xFD, 0x61]
  | .ld_IYH_D => [0xFD, 0x62]
  | .ld_IYH_E => [0xFD, 0x63]
  | .ld_IYH_IYH => [0xFD, 0x64]
  | .ld_IYH_IYL => [0xFD, 0x65]
  | .ld_H_mIYd d => [0xFD, 0x66, d]
  | .ld_IYH_A => [0xFD, 0x67]
  | .ld_IYL_B => [0xFD, 0x68]
  | .ld_IYL_C => [0xFD, 0x69]
  | .ld_IYL_D => [0xFD, 0x6A]
  | .ld_IYL_E => [0xFD, 0x6B]
  | .ld_IYL_IYH => [0xFD, 0x6C]
  | .ld_IYL_IYL => [0xFD, 0x6D]
  | .ld_L_mIYd d => [0xFD, 0x6E, d]
  | .ld_IYL_A => [0xFD, 0x6F]
  | .ld_mIYd_B d => [0xFD, 0x70, d]
  | .ld_mIYd_C d => [0xFD, 0x71, d]
  | .ld_mIYd_D d => [0xFD, 0x72, d]
  | .ld_mIYd_E d => [0xFD, 0x73, d]
  | .ld_mIYd_H d => [0xFD, 0x74, d]
  | .ld_mIYd_L d => [0xFD, 0x75, d]
  | .fd_halt => [0xFD, 0x76]
  | .ld_mIYd_A d => [0xFD, 0x77, d]
  | .fd_ld_A_B => [0xFD, 0x78]
  | .fd_ld_A_C => [0xFD, 0x79]
  | .fd_ld_A_D => [0xFD, 0x7A]
  | .fd_ld_A_E => [0xFD, 0x7B]
  | .ld_A_IYH => [0xFD, 0x7C]
  | .ld_A_IYL => [0xFD, 0x7D]
  | .ld_A_mIYd d => [0xFD, 0x7E, d]
  | .fd_ld_A_A => [0xFD, 0x7F]
  | .fd_add_A_B => [0xFD, 0x80]
  | .fd_add_A_C => [0xFD, 0x81]
  | .fd_add_A_D => [0xFD, 0x82]
  | .fd_add_A_E => [0xFD, 0x83]
  | .add_A_IYH => [0xFD, 0x84]
  | .add_A_IYL => [0xFD, 0x85]
  | .add_A_mIYd d => [0xFD, 0x86, d]
  | .fd_add_A_A => [0xFD, 0x87]
  | .fd_adc_A_B => [0xFD, 0x88]
  | .fd_adc_A_C => [0xFD, 0x89]
  | .fd_adc_A_D => [0xFD, 0x8A]
  | .fd_adc_A_E => [0xFD, 0x8B]
  | .adc_A_IYH => [0xFD, 0x8C]
  | .adc_A_IYL => [0xFD, 0x8D]
  | .adc_A_mIYd d => [0xFD, 0x8E, d]
  | .fd_adc_A_A => [0xFD, 0x8F]
  | .fd_sub_B => [0xFD, 0x90]
  | .fd_sub_C => [0xFD, 0x91]
  | .fd_sub_D => [0xFD, 0x92]
  | .fd_sub_E => [0xFD, 0x93]
  | .sub_IYH => [0xFD, 0x94]
  | .sub_IYL => [0xFD, 0x95]
  | .sub_mIYd d => [0xFD, 0x96, d]
  | .fd_sub_A => [0xFD, 0x97]
  | .fd_sbc_A_B => [0xFD, 0x98]
  | .fd_sbc_A_C => [0xFD, 0x99]
  | .fd_sbc_A_D => [0xFD, 0x9A]
  | .fd_sbc_A_E => [0xFD, 0x9B]
  | .sbc_A_IYH => [0xFD, 0x9C]
  | .sbc_A_IYL => [0xFD, 0x9D]
  | .sbc_A_mIYd d => [0xFD, 0x9E, d]
  | .fd_sbc_A_A => [0xFD, 0x9F]
  | .fd_and_B => [0xFD, 0xA0]
  | .fd_and_C => [0xFD, 0xA1]
  | .fd_and_D => [0xFD, 0xA2]
  | .fd_and_E => [0xFD, 0xA3]
  | .and_IYH => [0xFD, 0xA4]
  | .and_IYL => [0xFD, 0xA5]
  | .and_mIYd d => [0xFD, 0xA6, d]
  | .fd_and_A => [0xFD, 0xA7]
  | .fd_xor_B => [0xFD, 0xA8]
  | .fd_xor_C => [0xFD, 0xA9]
  | .fd_xor_D => [0xFD, 0xAA]
  | .fd_xor_E => [0xFD, 0xAB]
  | .xor_IYH => [0xFD, 0xAC]
  | .xor_IYL => [0xFD, 0xAD]
  | .xor_mIYd d => [0xFD, 0xAE, d]
  | .fd_xor_A => [0xFD, 0xAF]
  | .fd_or_B => [0xFD, 0xB0]
  | .fd_or_C => [0xFD, 0xB1]
  | .fd_or_D => [0xFD, 0xB2]
  | .fd_or_E => [0xFD, 0xB3]
  | .or_IYH => [0xFD, 0xB4]
  | .or_IYL => [0xFD, 0xB5]
  | .or_mIYd d => [0xFD, 0xB6, d]
  | .fd_or_A => [0xFD, 0xB7]
  | .fd_cp_B => [0xFD, 0xB8]
  | .fd_cp_C => [0xFD, 0xB9]
  | .fd_cp_D => [0xFD, 0xBA]
  | .fd_cp_E => [0xFD, 0xBB]
  | .cp_IYH => [0xFD, 0xBC]
  | .cp_IYL => [0xFD, 0xBD]
  | .cp_mIYd d => [0xFD, 0xBE, d]
  | .fd_cp_A => [0xFD, 0xBF]
  | .fd_ret_NZ => [0xFD, 0xC0]
  | .fd_pop_BC => [0xFD, 0xC1]
  | .fd_jp_NZ_nn nn => [0xFD, 0xC2, lo nn, hi nn]
  | .fd_jp_nn nn => [0xFD, 0xC3, lo nn, hi nn]
  | .fd_call_NZ_nn nn => [0xFD, 0xC4, lo nn, hi nn]
  | .fd_push_BC => [0xFD, 0xC5]
  | .fd_add_A_n n => [0xFD, 0xC6, n]
  | .fd_rst_00h => [0xFD, 0xC7]
  | .fd_ret_Z => [0xFD, 0xC8]
  | .fd_ret => [0xFD, 0xC9]
  | .fd_jp_Z_nn nn => [0xFD, 0xCA, lo nn, hi nn]
  | .fd_call_Z_nn nn => [0xFD, 0xCC, lo nn, hi nn]
  | .fd_call_nn nn => [0xFD, 0xCD, lo nn, hi nn]
  | .fd_adc_A_n n => [0xFD, 0xCE, n]
  | .fd_rst_08h => [0xFD, 0xCF]
  | .fd_ret_NC => [0xFD, 0xD0]
  | .fd_pop_DE => [0xFD, 0xD1]
  | .fd_jp_NC_nn nn => [0xFD, 0xD2, lo nn, hi nn]
  | .fd_out_mn_A n => [0xFD, 0xD3, n]
  | .fd_call_NC_nn nn => [0xFD, 0xD4, lo nn, hi nn]
  | .fd_push_DE => [0xFD, 0xD5]
  | .fd_sub_n n => [0xFD, 0xD6, n]
  | .fd_rst_10h => [0xFD, 0xD7]
  | .fd_ret_C => [0xFD, 0xD8]
  | .fd_exx => [0xFD, 0xD9]
  | .fd_jp_C_nn nn => [0xFD, 0xDA, lo nn, hi nn]
  | .fd_in_A_mn n => [0xFD, 0xDB, n]
  | .fd_call_C_nn nn => [0xFD, 0xDC, lo nn, hi nn]
  | .fd_sbc_A_n n => [0xFD, 0xDE, n]
  | .fd_rst_18h => [0xFD, 0xDF]
  | .fd_ret_PO => [0xFD, 0xE0]
  | .pop_IY => [0xFD, 0xE1]
  | .fd_jp_PO_nn nn => [0xFD, 0xE2, lo nn, hi nn]
  | .ex_mSP_IY => [0xFD, 0xE3]
  | .fd_call_PO_nn nn => [0xFD, 0xE4, lo nn, hi nn]
  | .push_IY => [0xFD, 0xE5]
  | .fd_and_n n => [0xFD, 0xE6, n]
  | .fd_rst_20h => [0xFD, 0xE7]
  | .fd_ret_PE => [0xFD, 0xE8]
  | .jp_mIY => [0xFD, 0xE9]
  | .fd_jp_PE_nn nn => [0xFD, 0xEA, lo nn, hi nn]
  | .fd_ex_DE_HL => [0xFD, 0xEB]
  | .fd_call_PE_nn nn => [0xFD, 0xEC, lo nn, hi nn]
  | .fd_xor_n n => [0xFD, 0xEE, n]
  | .fd_rst_28h => [0xFD, 0xEF]
  | .fd_ret_P => [0xFD, 0xF0]
  | .fd_pop_AF => [0xFD, 0xF1]
  | .fd_jp_P_nn nn => [0xFD, 0xF2, lo nn, hi nn]
  | .fd_di => [0xFD, 0xF3]
  | .fd_call_P_nn nn => [0xFD, 0xF4, lo nn, hi nn]
  | .fd_push_AF => [0xFD, 0xF5]
  | .fd_or_n n => [0xFD, 0xF6, n]
  | .fd_rst_30h => [0xFD, 0xF7]
  | .fd_ret_M => [0xFD, 0xF8]
  | .ld_SP_IY => [0xFD, 0xF9]
  | .fd_jp_M_nn nn => [0xFD, 0xFA, lo nn, hi nn]
  | .fd_ei => [0xFD, 0xFB]
  | .fd_call_M_nn nn => [0xFD, 0xFC, lo nn, hi nn]
  | .fd_cp_n n => [0xFD, 0xFE, n]
  | .fd_rst_38h => [0xFD, 0xFF]
  | .rlc_mIYd_B d => [0xFD, 0xCB, d, 0x00]
  | .rlc_mIYd_C d => [0xFD, 0xCB, d, 0x01]
  | .rlc_mIYd_D d => [0xFD, 0xCB, d, 0x02]
  | .rlc_mIYd_E d => [0xFD, 0xCB, d, 0x03]
  | .rlc_mIYd_H d => [0xFD, 0xCB, d, 0x04]
  | .rlc_mIYd_L d => [0xFD, 0xCB, d, 0x05]
  | .rlc_mIYd d => [0xFD, 0xCB, d, 0x06]
  | .rlc_mIYd_A d => [0xFD, 0xCB, d, 0x07]
  | .rrc_mIYd_B d => [0xFD, 0xCB, d, 0x08]
  | .rrc_mIYd_C d => [0xFD, 0xCB, d, 0x09]
  | .rrc_mIYd_D d => [0xFD, 0xCB, d, 0x0A]
  | .rrc_mIYd_E d => [0xFD, 0xCB, d, 0x0B]
  | .rrc_mIYd_H d => [0xFD, 0xCB, d, 0x0C]
  | .rrc_mIYd_L d => [0xFD, 0xCB, d, 0x0D]
  | .rrc_mIYd d => [0xFD, 0xCB, d, 0x0E]
  | .rrc_mIYd_A d => [0xFD, 0xCB, d, 0x0F]
  | .rl_mIYd_B d => [0xFD, 0xCB, d, 0x10]
  | .rl_mIYd_C d => [0xFD, 0xCB, d, 0x11]
  | .rl_mIYd_D d => [0xFD, 0xCB, d, 0x12]
  | .rl_mIYd_E d => [0xFD, 0xCB, d, 0x13]
  | .rl_mIYd_H d => [0xFD, 0xCB, d, 0x14]
  | .rl_mIYd_L d => [0xFD, 0xCB, d, 0x15]
  | .rl_mIYd d => [0xFD, 0xCB, d, 0x16]
  | .rl_mIYd_A d => [0xFD, 0xCB, d, 0x17]
  | .rr_mIYd_B d => [0xFD, 0xCB, d, 0x18]
  | .rr_mIYd_C d => [0xFD, 0xCB, d, 0x19]
  | .rr_mIYd_D d => [0xFD, 0xCB, d, 0x1A]
  | .rr_mIYd_E d => [0xFD, 0xCB, d, 0x1B]
  | .rr_mIYd_H d => [0xFD, 0xCB, d, 0x1C]
  | .rr_mIYd_L d => [0xFD, 0xCB, d, 0x1D]
  | .rr_mIYd d => [0xFD, 0xCB, d, 0x1E]
  | .rr_mIYd_A d => [0xFD, 0xCB, d, 0x1F]
  | .sla_mIYd_B d => [0xFD, 0xCB, d, 0x20]
  | .sla_mIYd_C d => [0xFD, 0xCB, d, 0x21]
  | .sla_mIYd_D d => [0xFD, 0xCB, d, 0x22]
  | .sla_mIYd_E d => [0xFD, 0xCB, d, 0x23]
  | .sla_mIYd_H d => [0xFD, 0xCB, d, 0x24]
  | .sla_mIYd_L d => [0xFD, 0xCB, d, 0x25]
  | .sla_mIYd d => [0xFD, 0xCB, d, 0x26]
  | .sla_mIYd_A d => [0xFD, 0xCB, d, 0x27]
  | .sra_mIYd_B d => [0xFD, 0xCB, d, 0x28]
  | .sra_mIYd_C d => [0xFD, 0xCB, d, 0x29]
  | .sra_mIYd_D d => [0xFD, 0xCB, d, 0x2A]
  | .sra_mIYd_E d => [0xFD, 0xCB, d, 0x2B]
  | .sra_mIYd_H d => [0xFD, 0xCB, d, 0x2C]
  | .sra_mIYd_L d => [0xFD, 0xCB, d, 0x2D]
  | .sra_mIYd d => [0xFD, 0xCB, d, 0x2E]
  | .sra_mIYd_A d => [0xFD, 0xCB, d, 0x2F]
  | .sll_mIYd_B d => [0xFD, 0xCB, d, 0x30]
  | .sll_mIYd_C d => [0xFD, 0xCB, d, 0x31]
  | .sll_mIYd_D d => [0xFD, 0xCB, d, 0x32]
  | .sll_mIYd_E d => [0xFD, 0xCB, d, 0x33]
  | .sll_mIYd_H d => [0xFD, 0xCB, d, 0x34]
  | .sll_mIYd_L d => [0xFD, 0xCB, d, 0x35]
  | .sll_mIYd d => [0xFD, 0xCB, d, 0x36]
  | .sll_mIYd_A d => [0xFD, 0xCB, d, 0x37]
  | .srl_mIYd_B d => [0xFD, 0xCB, d, 0x38]
  | .srl_mIYd_C d => [0xFD, 0xCB, d, 0x39]
  | .srl_mIYd_D d => [0xFD, 0xCB, d, 0x3A]
  | .srl_mIYd_E d => [0xFD, 0xCB, d, 0x3B]
  | .srl_mIYd_H d => [0xFD, 0xCB, d, 0x3C]
  | .srl_mIYd_L d => [0xFD, 0xCB, d, 0x3D]
  | .srl_mIYd d => [0xFD, 0xCB, d, 0x3E]
  | .srl_mIYd_A d => [0xFD, 0xCB, d, 0x3F]
  | .bit_0_mIYd z d => [0xFD, 0xCB, d, opcode 1 0 z]
  | .bit_1_mIYd z d => [0xFD, 0xCB, d, opcode 1 1 z]
  | .bit_2_mIYd z d => [0xFD, 0xCB, d, opcode 1 2 z]
  | .bit_3_mIYd z d => [0xFD, 0xCB, d, opcode 1 3 z]
  | .bit_4_mIYd z d => [0xFD, 0xCB, d, opcode 1 4 z]
  | .bit_5_mIYd z d => [0xFD, 0xCB, d, opcode 1 5 z]
  | .bit_6_mIYd z d => [0xFD, 0xCB, d, opcode 1 6 z]
  | .bit_7_mIYd z d => [0xFD, 0xCB, d, opcode 1 7 z]
  | .res_0_mIYd_B d => [0xFD, 0xCB, d, 0x80]
  | .res_0_mIYd_C d => [0xFD, 0xCB, d, 0x81]
  | .res_0_mIYd_D d => [0xFD, 0xCB, d, 0x82]
  | .res_0_mIYd_E d => [0xFD, 0xCB, d, 0x83]
  | .res_0_mIYd_H d => [0xFD, 0xCB, d, 0x84]
  | .res_0_mIYd_L d => [0xFD, 0xCB, d, 0x85]
  | .res_0_mIYd d => [0xFD, 0xCB, d, 0x86]
  | .res_0_mIYd_A d => [0xFD, 0xCB, d, 0x87]
  | .res_1_mIYd_B d => [0xFD, 0xCB, d, 0x88]
  | .res_1_mIYd_C d => [0xFD, 0xCB, d, 0x89]
  | .res_1_mIYd_D d => [0xFD, 0xCB, d, 0x8A]
  | .res_1_mIYd_E d => [0xFD, 0xCB, d, 0x8B]
  | .res_1_mIYd_H d => [0xFD, 0xCB, d, 0x8C]
  | .res_1_mIYd_L d => [0xFD, 0xCB, d, 0x8D]
  | .res_1_mIYd d => [0xFD, 0xCB, d, 0x8E]
  | .res_1_mIYd_A d => [0xFD, 0xCB, d, 0x8F]
  | .res_2_mIYd_B d => [0xFD, 0xCB, d, 0x90]
  | .res_2_mIYd_C d => [0xFD, 0xCB, d, 0x91]
  | .res_2_mIYd_D d => [0xFD, 0xCB, d, 0x92]
  | .res_2_mIYd_E d => [0xFD, 0xCB, d, 0x93]
  | .res_2_mIYd_H d => [0xFD, 0xCB, d, 0x94]
  | .res_2_mIYd_L d => [0xFD, 0xCB, d, 0x95]
  | .res_2_mIYd d => [0xFD, 0xCB, d, 0x96]
  | .res_2_mIYd_A d => [0xFD, 0xCB, d, 0x97]
  | .res_3_mIYd_B d => [0xFD, 0xCB, d, 0x98]
  | .res_3_mIYd_C d => [0xFD, 0xCB, d, 0x99]
  | .res_3_mIYd_D d => [0xFD, 0xCB, d, 0x9A]
  | .res_3_mIYd_E d => [0xFD, 0xCB, d, 0x9B]
  | .res_3_mIYd_H d => [0xFD, 0xCB, d, 0x9C]
  | .res_3_mIYd_L d => [0xFD, 0xCB, d, 0x9D]
  | .res_3_mIYd d => [0xFD, 0xCB, d, 0x9E]
  | .res_3_mIYd_A d => [0xFD, 0xCB, d, 0x9F]
  | .res_4_mIYd_B d => [0xFD, 0xCB, d, 0xA0]
  | .res_4_mIYd_C d => [0xFD, 0xCB, d, 0xA1]
  | .res_4_mIYd_D d => [0xFD, 0xCB, d, 0xA2]
  | .res_4_mIYd_E d => [0xFD, 0xCB, d, 0xA3]
  | .res_4_mIYd_H d => [0xFD, 0xCB, d, 0xA4]
  | .res_4_mIYd_L d => [0xFD, 0xCB, d, 0xA5]
  | .res_4_mIYd d => [0xFD, 0xCB, d, 0xA6]
  | .res_4_mIYd_A d => [0xFD, 0xCB, d, 0xA7]
  | .res_5_mIYd_B d => [0xFD, 0xCB, d, 0xA8]
  | .res_5_mIYd_C d => [0xFD, 0xCB, d, 0xA9]
  | .res_5_mIYd_D d => [0xFD, 0xCB, d, 0xAA]
  | .res_5_mIYd_E d => [0xFD, 0xCB, d, 0xAB]
  | .res_5_mIYd_H d => [0xFD, 0xCB, d, 0xAC]
  | .res_5_mIYd_L d => [0xFD, 0xCB, d, 0xAD]
  | .res_5_mIYd d => [0xFD, 0xCB, d, 0xAE]
  | .res_5_mIYd_A d => [0xFD, 0xCB, d, 0xAF]
  | .res_6_mIYd_B d => [0xFD, 0xCB, d, 0xB0]
  | .res_6_mIYd_C d => [0xFD, 0xCB, d, 0xB1]
  | .res_6_mIYd_D d => [0xFD, 0xCB, d, 0xB2]
  | .res_6_mIYd_E d => [0xFD, 0xCB, d, 0xB3]
  | .res_6_mIYd_H d => [0xFD, 0xCB, d, 0xB4]
  | .res_6_mIYd_L d => [0xFD, 0xCB, d, 0xB5]
  | .res_6_mIYd d => [0xFD, 0xCB, d, 0xB6]
  | .res_6_mIYd_A d => [0xFD, 0xCB, d, 0xB7]
  | .res_7_mIYd_B d => [0xFD, 0xCB, d, 0xB8]
  | .res_7_mIYd_C d => [0xFD, 0xCB, d, 0xB9]
  | .res_7_mIYd_D d => [0xFD, 0xCB, d, 0xBA]
  | .res_7_mIYd_E d => [0xFD, 0xCB, d, 0xBB]
  | .res_7_mIYd_H d => [0xFD, 0xCB, d, 0xBC]
  | .res_7_mIYd_L d => [0xFD, 0xCB, d, 0xBD]
  | .res_7_mIYd d => [0xFD, 0xCB, d, 0xBE]
  | .res_7_mIYd_A d => [0xFD, 0xCB, d, 0xBF]
  | .set_0_mIYd_B d => [0xFD, 0xCB, d, 0xC0]
  | .set_0_mIYd_C d => [0xFD, 0xCB, d, 0xC1]
  | .set_0_mIYd_D d => [0xFD, 0xCB, d, 0xC2]
  | .set_0_mIYd_E d => [0xFD, 0xCB, d, 0xC3]
  | .set_0_mIYd_H d => [0xFD, 0xCB, d, 0xC4]
  | .set_0_mIYd_L d => [0xFD, 0xCB, d, 0xC5]
  | .set_0_mIYd d => [0xFD, 0xCB, d, 0xC6]
  | .set_0_mIYd_A d => [0xFD, 0xCB, d, 0xC7]
  | .set_1_mIYd_B d => [0xFD, 0xCB, d, 0xC8]
  | .set_1_mIYd_C d => [0xFD, 0xCB, d, 0xC9]
  | .set_1_mIYd_D d => [0xFD, 0xCB, d, 0xCA]
  | .set_1_mIYd_E d => [0xFD, 0xCB, d, 0xCB]
  | .set_1_mIYd_H d => [0xFD, 0xCB, d, 0xCC]
  | .set_1_mIYd_L d => [0xFD, 0xCB, d, 0xCD]
  | .set_1_mIYd d => [0xFD, 0xCB, d, 0xCE]
  | .set_1_mIYd_A d => [0xFD, 0xCB, d, 0xCF]
  | .set_2_mIYd_B d => [0xFD, 0xCB, d, 0xD0]
  | .set_2_mIYd_C d => [0xFD, 0xCB, d, 0xD1]
  | .set_2_mIYd_D d => [0xFD, 0xCB, d, 0xD2]
  | .set_2_mIYd_E d => [0xFD, 0xCB, d, 0xD3]
  | .set_2_mIYd_H d => [0xFD, 0xCB, d, 0xD4]
  | .set_2_mIYd_L d => [0xFD, 0xCB, d, 0xD5]
  | .set_2_mIYd d => [0xFD, 0xCB, d, 0xD6]
  | .set_2_mIYd_A d => [0xFD, 0xCB, d, 0xD7]
  | .set_3_mIYd_B d => [0xFD, 0xCB, d, 0xD8]
  | .set_3_mIYd_C d => [0xFD, 0xCB, d, 0xD9]
  | .set_3_mIYd_D d => [0xFD, 0xCB, d, 0xDA]
  | .set_3_mIYd_E d => [0xFD, 0xCB, d, 0xDB]
  | .set_3_mIYd_H d => [0xFD, 0xCB, d, 0xDC]
  | .set_3_mIYd_L d => [0xFD, 0xCB, d, 0xDD]
  | .set_3_mIYd d => [0xFD, 0xCB, d, 0xDE]
  | .set_3_mIYd_A d => [0xFD, 0xCB, d, 0xDF]
  | .set_4_mIYd_B d => [0xFD, 0xCB, d, 0xE0]
  | .set_4_mIYd_C d => [0xFD, 0xCB, d, 0xE1]
  | .set_4_mIYd_D d => [0xFD, 0xCB, d, 0xE2]
  | .set_4_mIYd_E d => [0xFD, 0xCB, d, 0xE3]
  | .set_4_mIYd_H d => [0xFD, 0xCB, d, 0xE4]
  | .set_4_mIYd_L d => [0xFD, 0xCB, d, 0xE5]
  | .set_4_mIYd d => [0xFD, 0xCB, d, 0xE6]
  | .set_4_mIYd_A d => [0xFD, 0xCB, d, 0xE7]
  | .set_5_mIYd_B d => [0xFD, 0xCB, d, 0xE8]
  | .set_5_mIYd_C d => [0xFD, 0xCB, d, 0xE9]
  | .set_5_mIYd_D d => [0xFD, 0xCB, d, 0xEA]
  | .set_5_mIYd_E d => [0xFD, 0xCB, d, 0xEB]
  | .set_5_mIYd_H d => [0xFD, 0xCB, d, 0xEC]
  | .set_5_mIYd_L d => [0xFD, 0xCB, d, 0xED]
  | .set_5_mIYd d => [0xFD, 0xCB, d, 0xEE]
  | .set_5_mIYd_A d => [0xFD, 0xCB, d, 0xEF]
  | .set_6_mIYd_B d => [0xFD, 0xCB, d, 0xF0]
  | .set_6_mIYd_C d => [0xFD, 0xCB, d, 0xF1]
  | .set_6_mIYd_D d => [0xFD, 0xCB, d, 0xF2]
  | .set_6_mIYd_E d => [0xFD, 0xCB, d, 0xF3]
  | .set_6_mIYd_H d => [0xFD, 0xCB, d, 0xF4]
  | .set_6_mIYd_L d => [0xFD, 0xCB, d, 0xF5]
  | .set_6_mIYd d => [0xFD, 0xCB, d, 0xF6]
  | .set_6_mIYd_A d => [0xFD, 0xCB, d, 0xF7]
  | .set_7_mIYd_B d => [0xFD, 0xCB, d, 0xF8]
  | .set_7_mIYd_C d => [0xFD, 0xCB, d, 0xF9]
  | .set_7_mIYd_D d => [0xFD, 0xCB, d, 0xFA]
  | .set_7_mIYd_E d => [0xFD, 0xCB, d, 0xFB]
  | .set_7_mIYd_H d => [0xFD, 0xCB, d, 0xFC]
  | .set_7_mIYd_L d => [0xFD, 0xCB, d, 0xFD]
  | .set_7_mIYd d => [0xFD, 0xCB, d, 0xFE]
  | .set_7_mIYd_A d => [0xFD, 0xCB, d, 0xFF]
  | .redundant_FD => [0xFD]
  | .ignored_FD_before_ED => [0xFD]

/-! ## The opcode table's words -/

/-- Byte k of an instruction whose table word is w: the table numbers the FIRST byte's bits highest (DEDUCED from its match
values, log entry 1), and the operand bytes it gives no bits are 0. -/
def tableByte (nbits w k : Nat) : Byte :=
  if k < nbits / 8 then BitVec.ofNat 8 (w >>> (8 * (nbits / 8 - 1 - k))) else 0

/-- The four bytes of an opcode-table word, in the order of their addresses. -/
def tableBytes (nbits w : Nat) : List Byte :=
  [tableByte nbits w 0, tableByte nbits w 1, tableByte nbits w 2, tableByte nbits w 3]

/-- The instruction the decoder reads from an opcode-table word. -/
noncomputable def decodeTableWord (nbits w : Nat) : Option Instr :=
  match decode (tableBytes nbits w) with
  | .ok (i, _) => some i
  | .error _ => none

end Sys2Proof
end

