-- ==== Sys2Proof/Config.lean ====
section
/-!
DEFINITION. The parameters of 00_scope.md R9 that no source fixes, as plain data, and the free values they have at reset.
A parameter is fixed before the run and no step changes it (10_state.md R57); `State` carries it so that a run can be
written down (log entry 4).
-/

namespace Sys2Proof

/-- The name the program sends to the SD device: bytes, uninterpreted (60_exceptions.md R561). -/
abbrev FileName := List Byte

/-- The backend's file store (60_exceptions.md R575), in the order in which it iterates over its names (log entry 6). -/
abbrev FileStore := List (FileName × List Byte)

/-- The eight SD commands (60_exceptions.md R564). -/
inductive SdCommand where
  | openRead | create | openAppend | seekToStart | close | listDirectory | openReadWrite | seekToByte
  deriving DecidableEq, Repr

/-- The byte value of each SD command: the OPEN parameter `SD_CMD_CODE` (R564, decision D24). -/
structure SdCodes where
  openRead      : Byte
  create        : Byte
  openAppend    : Byte
  seekToStart   : Byte
  close         : Byte
  listDirectory : Byte
  openReadWrite : Byte
  seekToByte    : Byte
  deriving DecidableEq, Repr, Inhabited

/-- The OPEN parameters of the SD device (R9, R62, R561, R564). -/
structure SdParams where
  codes    : SdCodes
  /-- `SD_READY_BIT`. -/
  readyBit : Fin 8
  /-- `SD_ERROR_BIT`. -/
  errorBit : Fin 8
  /-- `SD_AVAIL_BIT`. -/
  availBit : Fin 8
  /-- `FNAME_CAP`: the size of the filename buffer, its terminator included. -/
  fnameCap : Nat
  deriving DecidableEq, Repr, Inhabited

/-- The eight codes in the order of `SdCommand`. -/
def SdCodes.toList (c : SdCodes) : List Byte :=
  [c.openRead, c.create, c.openAppend, c.seekToStart, c.close, c.listDirectory, c.openReadWrite, c.seekToByte]

/-- What R9 demands of the SD parameters: the command map is injective, the three bit positions are distinct, and the
filename buffer has at least two bytes. -/
abbrev SdParams.legal (p : SdParams) : Prop :=
  p.codes.toList.Nodup ∧ p.readyBit ≠ p.errorBit ∧ p.readyBit ≠ p.availBit ∧ p.errorBit ≠ p.availBit ∧ 2 ≤ p.fnameCap

/-- The operations that answer a file handle (R575). -/
inductive Opening where
  | read | writeTrunc | readWrite | append
  deriving DecidableEq, Repr

/-- A file handle of the storage backend (R575): what an open can make it depend on, which is the name, the operation that
answered it and the store as it was then (log entry 6). -/
structure Handle where
  name    : FileName
  opening : Opening
  store   : FileStore
  deriving DecidableEq, Repr

/-- The operations of the storage backend that can answer an error (R575), with their arguments; an operation on a handle
has the handle's position too. -/
inductive StorageOp where
  | openRead (name : FileName)
  | openWriteTrunc (name : FileName)
  | openReadWrite (name : FileName)
  | openAppend (name : FileName)
  | seek (handle : Handle) (position offset : Nat)
  | writeByte (handle : Handle) (position : Nat) (v : Byte)
  deriving DecidableEq, Repr

/-- What is known of how the backend answers (R575): whether it refuses an operation on a store, and in which order it
lists a store. Every answer that is not listed here is free (`Config.freeRefuses`, `Config.freeOrder`), so that the
backend's answers are any function of its store and the operation with its arguments: a store that is read-only or full, a
backend that refuses everything, or a seek on an append handle, or sorts its names. DESIGN CHOICE, safe (log entries 6, 7).
-/
structure StoragePolicy where
  answers : List (FileStore × StorageOp × Bool)
  orders  : List (FileStore × List FileName)
  deriving DecidableEq, Repr, Inhabited

/-- What memory holds before the first step, as far as it is known (20_memory.md R94): the bytes of `ROM_IMAGE` and
`MEM_INIT` by rising address, and the byte at every other address; `none` where that is not known and each such byte is
free (`Config.memInit`; log entry 2). -/
structure InitialMemory where
  listed : List Host.Cell
  rest   : Option Byte
  deriving DecidableEq, Repr

/-- The parameters of a machine (R9). -/
structure Params where
  /-- `ROM_CEILING`, any value in [0, 0x10000] (R93, decision D40). -/
  romCeiling : Fin 65537
  sd         : SdParams
  policy     : StoragePolicy
  /-- `ROM_IMAGE` and `MEM_INIT` (R94). -/
  initial    : InitialMemory
  deriving DecidableEq, Repr

namespace Config

/-- `ROM_CEILING` at reset: the source's default (R93). DESIGN CHOICE, unsafe (log entry 3). -/
def romCeiling : Fin 65537 := 0x2000

/-- FREE VALUE: the SD parameters of the machine at hand (R9). DESIGN CHOICE, safe (log entry 5). -/
opaque freeSdParams : SdParams

/-- FREE VALUE: the byte of `MEM_INIT` at an address (R94: a model that does not know it must not read it as a known
value). DESIGN CHOICE, safe (log entry 2). -/
opaque memInit : Nat → Byte

/-- FREE VALUE: whether the storage backend of the machine at hand refuses an operation on a store (R575). DESIGN CHOICE,
safe (log entry 6). -/
opaque freeRefuses : FileStore → StorageOp → Bool

/-- FREE VALUE: the order in which that backend lists a store (R575, 60_exceptions.md R571). DESIGN CHOICE, safe (log
entry 7). -/
opaque freeOrder : FileStore → List FileName

/-- FREE VALUE: the files the backend holds before the first step (R575). DESIGN CHOICE, safe (log entry 6). -/
opaque freeFiles : FileStore

/-- A legal choice, taken only where the free value is not one (log entry 5). -/
def someSdParams : SdParams :=
  { codes := { openRead := 0, create := 1, openAppend := 2, seekToStart := 3, close := 4, listDirectory := 5,
               openReadWrite := 6, seekToByte := 7 }
    readyBit := 0, errorBit := 1, availBit := 2, fnameCap := 2 }

/-- The SD parameters at reset: the free value, held to R9's conditions. -/
def sdParams : SdParams := if freeSdParams.legal then freeSdParams else someSdParams

/-- A store in which each name occurs once: the first entry of a name is kept (R575: "a finite map"). -/
def oneEntryPerName : FileStore → FileStore
  | [] => []
  | (n, bs) :: rest => (n, bs) :: (oneEntryPerName rest).filter (fun e => decide (e.1 ≠ n))

/-- The files at reset: the free value as a finite map. -/
def files : FileStore := oneEntryPerName freeFiles

/-- The parameters at reset: nothing is known of the backend's answers or of the initial memory. -/
def params : Params :=
  { romCeiling := romCeiling, sd := sdParams, policy := { answers := [], orders := [] }
    initial := { listed := [], rest := none } }

end Config
end Sys2Proof
end

