-- ==== Sys2Proof/Machine/State.lean ====
section
/-!
DEFINITION. The state of the machine as plain data, the reasons a step can stop, and the state after power-on
(10_state.md; 70_reset_and_hazards.md R600, R602).
-/

namespace Sys2Proof.Machine

/-- One bank of 8-bit registers (10_state.md R31, R32). -/
structure Bank where
  a : Byte
  f : Byte
  b : Byte
  c : Byte
  d : Byte
  e : Byte
  h : Byte
  l : Byte
  deriving DecidableEq, Repr

/-- The interrupt mode (R45). -/
inductive IntMode where
  | im0 | im1 | im2
  deriving DecidableEq, Repr

/-- Memory: the bytes that differ from what it held before the first step, by rising address (20_memory.md R90, R94; the
canonical form is `Memory.wf` of Machine/Ops.lean). -/
abbrev Memory := List Host.Cell

/-- How an open file was opened (R56). -/
inductive FileMode where
  | read | write | readWrite
  deriving DecidableEq, Repr

/-- An open file (R56), with the backend's handle for it (60_exceptions.md R565), which holds its name. -/
structure OpenFile where
  handle   : Handle
  mode     : FileMode
  position : Nat
  deriving DecidableEq, Repr

/-- The name of an open file (R56). -/
abbrev OpenFile.name (f : OpenFile) : FileName := f.handle.name

/-- The SD device (R56). -/
structure Sd where
  fname      : FileName
  fnameFinal : Bool
  seekLo     : Byte
  seekHi     : Byte
  error      : Bool
  file       : Option OpenFile
  /-- The bytes of an open listing that are still to be read. -/
  dir        : Option (List Byte)
  deriving DecidableEq, Repr

/-- The machine (R30 for the CPU, R50 to R56 for the rest). The last two fields are the model's own: the contents of the
storage backend and the parameters of 00_scope.md R9, which R57 keeps out of the machine's state (log entries 4, 6). -/
structure State where
  main       : Bank
  shadow     : Bank
  ix         : Word
  iy         : Word
  sp         : Word
  pc         : Word
  /-- MEMPTR (R43). -/
  wz         : Word
  i          : Byte
  r          : Byte
  iff1       : Bool
  iff2       : Bool
  im         : IntMode
  halted     : Bool
  /-- `iff_delay` (R47). -/
  iffDelay   : Fin 2
  /-- The T-state counter (R48). -/
  cyc        : Nat
  intPending : Bool
  intVector  : Byte
  nmiPending : Bool
  mem        : Memory
  /-- The input queue, oldest byte first (R51). -/
  queue      : List Byte
  /-- The output sink, in the order written (R52). -/
  sink       : List Byte
  uses8251   : Bool
  c7Latch    : Bool
  aciaCtrl   : Byte
  sd         : Sd
  files      : FileStore
  params     : Params
  deriving DecidableEq, Repr

/-- What stops the machine with nothing to refuse. The hardware has no fault (60_exceptions.md R511). -/
inductive Fault where
  /-- Raised by the step (`instructionStep`) when the DD and FD bytes at all 65536 addresses make one instruction that
  never ends: the spec's "stuck" (30_encoding.md R144; 70_reset_and_hazards.md R614; 93_implementation_defined.md).
  Safe: the machine does not go on there either (log entry 10). -/
  | endlessPrefixChain
  deriving DecidableEq, Repr

/-- What the model gives no meaning to. -/
inductive Refusal where
  /-- An instruction whose meaning is still to be written, by its mnemonic in the opcode table. Safe. -/
  | notModelled (mnemonic : String)
  /-- Raised by the acceptance of a maskable interrupt in mode 0 with a data-bus byte that is no RST opcode, which the
  spec refuses (60_exceptions.md R506, decision D11). Safe (log entry 12). -/
  | im0DataBusByte (v : Byte)
  deriving DecidableEq, Repr

/-- Every register of a bank 0 (R600). -/
def Bank.zero : Bank := { a := 0, f := 0, b := 0, c := 0, d := 0, e := 0, h := 0, l := 0 }

/-- The SD device at power-on (R602). -/
def Sd.powerOn : Sd :=
  { fname := [], fnameFinal := false, seekLo := 0, seekHi := 0, error := false, file := none, dir := none }

/-- The machine at power-on: the CPU at its reset values (R600), the devices as R602 says, memory with nothing listed, so
that every byte is one of the free `MEM_INIT` (R94). -/
def State.reset : State :=
  { main := Bank.zero, shadow := Bank.zero, ix := 0, iy := 0, sp := 0, pc := 0, wz := 0, i := 0, r := 0
    iff1 := false, iff2 := false, im := .im0, halted := false, iffDelay := 0, cyc := 0
    intPending := false, intVector := 0, nmiPending := false
    mem := [], queue := [], sink := [], uses8251 := false, c7Latch := false, aciaCtrl := 0
    sd := Sd.powerOn, files := Config.files, params := Config.params }

end Sys2Proof.Machine
end

