-- ==== Sys2Proof/Machine/Flags.lean ====
section
/-!
DEFINITION. The flag register and every flag computation: the helpers of 00_scope.md R13, the accumulator operations
(42_alu8.md), 16-bit arithmetic (43_alu16.md), rotates and BIT (44_rotate_shift_bit.md) and the block instructions
(46_block.md), each as a function of bytes, words and the old F.
-/

namespace Sys2Proof.Machine

/-! ## The bits of F (10_state.md R37) -/

def fS (f : Byte) : Bool := f.getLsbD 7
def fZ (f : Byte) : Bool := f.getLsbD 6
def fY (f : Byte) : Bool := f.getLsbD 5
def fH (f : Byte) : Bool := f.getLsbD 4
def fX (f : Byte) : Bool := f.getLsbD 3
def fP (f : Byte) : Bool := f.getLsbD 2
def fN (f : Byte) : Bool := f.getLsbD 1
def fC (f : Byte) : Bool := f.getLsbD 0

/-- The carry as the number 0 or 1. -/
def carry (f : Byte) : Nat := (fC f).toNat

/-- `mask` where the condition holds, else no bit: the way a flag enters F. -/
def bitIf (p : Bool) (mask : Byte) : Byte := if p then mask else 0

/-- `SZ53(v)`: S from bit 7, Y from bit 5, X from bit 3, Z (R13). -/
def sz53 (v : Byte) : Byte := (v &&& 0xA8) ||| bitIf (v == 0) 0x40

/-- Y and X from bits 5 and 3 of v, nothing else. -/
def yx (v : Byte) : Byte := v &&& 0x28

/-- `PAR(v)`: an even number of 1 bits (R13). -/
def par (v : Byte) : Bool :=
  ((v.getLsbD 0).toNat + (v.getLsbD 1).toNat + (v.getLsbD 2).toNat + (v.getLsbD 3).toNat +
    (v.getLsbD 4).toNat + (v.getLsbD 5).toNat + (v.getLsbD 6).toNat + (v.getLsbD 7).toNat) % 2 == 0

/-- `SZ53P(v)` (R13). -/
def sz53P (v : Byte) : Byte := sz53 v ||| bitIf (par v) 0x04

/-! ## The accumulator operations (42_alu8.md R262 to R269) -/

/-- The operation `alu[y]` selects (30_encoding.md R135). -/
inductive AluOp where
  | add | adc | sub | sbc | and | xor | or | cp
  deriving DecidableEq, Repr

/-- `H <- ((a ^ s ^ r) >> 4) & 1`. -/
def halfCarry (a s r : Byte) : Bool := (a ^^^ s ^^^ r).getLsbD 4

/-- `V` of an addition: `((a ^ r) & (s ^ r) & 0x80) != 0`. -/
def addOverflow (a s r : Byte) : Bool := ((a ^^^ r) &&& (s ^^^ r)).getLsbD 7

/-- `V` of a subtraction: `((a ^ s) & (a ^ r) & 0x80) != 0`. -/
def subOverflow (a s r : Byte) : Bool := ((a ^^^ s) &&& (a ^^^ r)).getLsbD 7

/-- A sum with carry-in c: the byte and F (R262, R263). -/
def addBytes (a s : Byte) (c : Nat) : Byte × Byte :=
  let r : Nat := a.toNat + s.toNat + c
  let w : Byte := BitVec.ofNat 8 r
  (w, sz53 w ||| bitIf (halfCarry a s w) 0x10 ||| bitIf (addOverflow a s w) 0x04 ||| bitIf (decide (0xFF < r)) 0x01)

/-- A difference with borrow-in c: the byte and F (R264, R265). -/
def subBytes (a s : Byte) (c : Nat) : Byte × Byte :=
  let r : Int := (a.toNat : Int) - (s.toNat : Int) - (c : Int)
  let w : Byte := BitVec.ofInt 8 r
  (w, sz53 w ||| bitIf (halfCarry a s w) 0x10 ||| bitIf (subOverflow a s w) 0x04 ||| 0x02 ||| bitIf (decide (r < 0)) 0x01)

/-- F of `CP s`: the difference's S, Z, H, V, N and C, with Y and X from the operand (R269). -/
def compareFlags (a s : Byte) : Byte := ((subBytes a s 0).2 &&& 0xD7) ||| yx s

/-- The new A and F of `alu[op]` on A = a and the source byte s, from the old F (R262 to R269). -/
def aluResult (op : AluOp) (a s f : Byte) : Byte × Byte :=
  match op with
  | .add => addBytes a s 0
  | .adc => addBytes a s (carry f)
  | .sub => subBytes a s 0
  | .sbc => subBytes a s (carry f)
  | .and => (a &&& s, sz53P (a &&& s) ||| 0x10)
  | .xor => (a ^^^ s, sz53P (a ^^^ s))
  | .or  => (a ||| s, sz53P (a ||| s))
  | .cp  => (a, compareFlags a s)

/-- F of `INC m` on the byte v (R270); C is kept. -/
def incFlags (v f : Byte) : Byte :=
  sz53 (v + 1) ||| bitIf ((v &&& 0x0F) == 0x0F) 0x10 ||| bitIf (v == 0x7F) 0x04 ||| (f &&& 0x01)

/-- F of `DEC m` on the byte v (R272); C is kept. -/
def decFlags (v f : Byte) : Byte :=
  sz53 (v - 1) ||| bitIf ((v &&& 0x0F) == 0x00) 0x10 ||| bitIf (v == 0x80) 0x04 ||| 0x02 ||| (f &&& 0x01)

/-- The new A and F of `DAA` (R273). -/
def daaResult (a f : Byte) : Byte × Byte :=
  let low  : Bool := fH f || decide (9 < (a &&& 0x0F).toNat)
  let high : Bool := fC f || decide (0x99 < a.toNat)
  let corr : Byte := bitIf low 0x06 ||| bitIf high 0x60
  let w    : Byte := if fN f then a - corr else a + corr
  (w, sz53P w ||| bitIf ((a ^^^ w).getLsbD 4) 0x10 ||| (f &&& 0x02) ||| bitIf high 0x01)

/-- The new A and F of `CPL` (R274): S, Z, P/V and C are kept. -/
def cplResult (a f : Byte) : Byte × Byte :=
  let w := a ^^^ 0xFF
  (w, (f &&& 0xC5) ||| 0x12 ||| yx w)

/-- F of `SCF` (R276): S, Z, P/V are kept; Y and X from A. -/
def scfFlags (a f : Byte) : Byte := (f &&& 0xC4) ||| yx a ||| 0x01

/-- F of `CCF` (R277): S, Z, P/V are kept; H is the old C; Y and X from A. -/
def ccfFlags (a f : Byte) : Byte := (f &&& 0xC4) ||| yx a ||| bitIf (fC f) 0x10 ||| bitIf (!fC f) 0x01

/-- F of `LD A,I` and `LD A,R` (40_load8.md R216, R217): C is kept, P/V is IFF2. -/
def ldAirFlags (a : Byte) (iff2 : Bool) (f : Byte) : Byte := sz53 a ||| bitIf iff2 0x04 ||| (f &&& 0x01)

/-- F of `IN r,(C)` and `IN (C)` (47_io.md R442, R443): C is kept. -/
def inFlags (v f : Byte) : Byte := sz53P v ||| (f &&& 0x01)

/-! ## 16-bit arithmetic (43_alu16.md R300 to R303) -/

/-- Y and X from bits 13 and 11 of a word: bits 5 and 3 of its high byte. -/
def yxHigh (r : Word) : Byte := bitIf (r.getLsbD 13) 0x20 ||| bitIf (r.getLsbD 11) 0x08

/-- S, Z, Y and X of a 16-bit result. -/
def sz53Word (r : Word) : Byte := bitIf (r.getLsbD 15) 0x80 ||| bitIf (r == 0) 0x40 ||| yxHigh r

/-- `H <- ((x ^ y ^ r) >> 12) & 1`. -/
def halfCarry16 (x y r : Word) : Bool := (x ^^^ y ^^^ r).getLsbD 12

/-- `ADD HL,rr` and `ADD XY,rr`: the word and F; S, Z, P/V are kept (R300, R301). -/
def addWords (x y : Word) (f : Byte) : Word × Byte :=
  let r : Nat := x.toNat + y.toNat
  let w : Word := BitVec.ofNat 16 r
  (w, (f &&& 0xC4) ||| bitIf (halfCarry16 x y w) 0x10 ||| yxHigh w ||| bitIf (decide (0xFFFF < r)) 0x01)

/-- `ADC HL,rr`: the word and F (R302). -/
def adcWords (x y : Word) (f : Byte) : Word × Byte :=
  let r : Nat := x.toNat + y.toNat + carry f
  let w : Word := BitVec.ofNat 16 r
  (w, sz53Word w ||| bitIf (halfCarry16 x y w) 0x10 ||| bitIf (((x ^^^ w) &&& (y ^^^ w)).getLsbD 15) 0x04 |||
      bitIf (decide (0xFFFF < r)) 0x01)

/-- `SBC HL,rr`: the word and F (R303). -/
def sbcWords (x y : Word) (f : Byte) : Word × Byte :=
  let r : Int := (x.toNat : Int) - (y.toNat : Int) - (carry f : Int)
  let w : Word := BitVec.ofInt 16 r
  (w, sz53Word w ||| bitIf (halfCarry16 x y w) 0x10 ||| bitIf (((x ^^^ y) &&& (x ^^^ w)).getLsbD 15) 0x04 ||| 0x02 |||
      bitIf (decide (r < 0)) 0x01)

/-! ## Rotates, shifts and bits (44_rotate_shift_bit.md) -/

/-- The operation `rot[y]` selects (30_encoding.md R136). -/
inductive RotOp where
  | rlc | rrc | rl | rr | sla | sra | sll | srl
  deriving DecidableEq, Repr

/-- `Rot(y, v, c)`: the result and the carry out (R325). -/
def rotate (op : RotOp) (v : Byte) (c : Bool) : Byte × Bool :=
  match op with
  | .rlc => ((v <<< 1) ||| bitIf (v.getLsbD 7) 0x01, v.getLsbD 7)
  | .rrc => ((v >>> 1) ||| bitIf (v.getLsbD 0) 0x80, v.getLsbD 0)
  | .rl  => ((v <<< 1) ||| bitIf c 0x01, v.getLsbD 7)
  | .rr  => ((v >>> 1) ||| bitIf c 0x80, v.getLsbD 0)
  | .sla => (v <<< 1, v.getLsbD 7)
  | .sra => ((v >>> 1) ||| (v &&& 0x80), v.getLsbD 0)
  | .sll => ((v <<< 1) ||| 0x01, v.getLsbD 7)
  | .srl => (v >>> 1, v.getLsbD 0)

/-- F of a CB or DDCB rotate or shift with result w and carry out c (R324). -/
def rotFlags (w : Byte) (c : Bool) : Byte := sz53P w ||| bitIf c 0x01

/-- F of RLCA, RRCA, RLA and RRA: S, Z, P/V are kept (R320 to R323). -/
def rotAFlags (w : Byte) (c : Bool) (f : Byte) : Byte := (f &&& 0xC4) ||| yx w ||| bitIf c 0x01

/-- `1 << b` within a byte. -/
def bitMask (b : BitVec 3) : Byte := 1#8 <<< b.toNat

/-- F of `BIT b` on the byte v, with Y and X given by the caller: bits 5 and 3 of v for a register, bits 13 and 11 of WZ
for memory (R334 to R336); C is kept. -/
def bitFlags (b : BitVec 3) (v : Byte) (yAndX f : Byte) : Byte :=
  let t := v &&& bitMask b
  bitIf (b == 7 && t != 0) 0x80 ||| bitIf (t == 0) 0x44 ||| 0x10 ||| yAndX ||| (f &&& 0x01)

/-- F of RLD and RRD with the new A (R341, R342): C is kept. -/
def digitFlags (a f : Byte) : Byte := sz53P a ||| (f &&& 0x01)

/-! ## Block instructions (46_block.md) -/

/-- F of LDI and LDD: t the byte moved, bc the count left (R402, R403); S, Z, C are kept. -/
def blockLoadFlags (a t : Byte) (bc : Word) (f : Byte) : Byte :=
  let n := t + a
  (f &&& 0xC1) ||| bitIf (n.getLsbD 1) 0x20 ||| bitIf (n.getLsbD 3) 0x08 ||| bitIf (bc != 0) 0x04

/-- F of CPI and CPD: t the byte compared, bc the count left (R406, R407); C is kept. -/
def blockCompareFlags (a t : Byte) (bc : Word) (f : Byte) : Byte :=
  let r := a - t
  let h := halfCarry a t r
  let n := r - bitIf h 0x01
  bitIf (r.getLsbD 7) 0x80 ||| bitIf (r == 0) 0x40 ||| bitIf h 0x10 ||| bitIf (n.getLsbD 1) 0x20 |||
    bitIf (n.getLsbD 3) 0x08 ||| bitIf (bc != 0) 0x04 ||| 0x02 ||| (f &&& 0x01)

/-- F of INI, IND, OUTI, OUTD: b the new B, t the byte moved, k the sum the rule names (R410, R411, R414, R415). -/
def blockIoFlags (b t : Byte) (k : Nat) : Byte :=
  sz53 b ||| bitIf (t.getLsbD 7) 0x02 ||| bitIf (decide (0xFF < k)) 0x11 |||
    bitIf (par (BitVec.ofNat 8 (k % 8) ^^^ b)) 0x04

end Sys2Proof.Machine
end

