-- ==== Sys2Proof/Machine/Ops.lean ====
section
/-!
DEFINITION. The named operations over memory and registers: memory behind the ROM ceiling and the stack
(20_memory.md), the register file, the fetch's bookkeeping (30_encoding.md R146, R147), the conditions, and the two
interrupt acceptances with the return beside them (60_exceptions.md R503 to R508; 45_control.md R371, R372).
-/

namespace Sys2Proof.Machine

/-! ## Memory (20_memory.md R90 to R97) -/

/-- The byte listed at an address. -/
def Memory.find? : Memory → Nat → Option Byte
  | [], _ => none
  | (b, v) :: rest, a => if b = a then some v else Memory.find? rest a

/-- A byte listed at an address, in its place by rising address. -/
def Memory.put : Memory → Nat → Byte → Memory
  | [], a, v => [(a, v)]
  | (b, w) :: rest, a, v =>
    if a < b then (a, v) :: (b, w) :: rest else if a = b then (a, v) :: rest else (b, w) :: Memory.put rest a v

/-- Nothing listed at an address. -/
def Memory.remove (m : Memory) (a : Nat) : Memory := m.filter (fun c => decide (c.1 ≠ a))

/-- What an address that memory does not list reads as: what the loader placed there, else the byte it gave for the rest,
else the free byte of `MEM_INIT` (R94, decision D7). DESIGN CHOICE, safe (log entry 2). -/
def Memory.unlisted (init : InitialMemory) (a : Nat) : Byte :=
  (Memory.find? init.listed a).getD (init.rest.getD (Config.memInit a))

/-- The byte at an address. -/
def Memory.read (init : InitialMemory) (m : Memory) (a : Nat) : Byte :=
  (Memory.find? m a).getD (Memory.unlisted init a)

/-- The memory with one byte replaced, in canonical form again. -/
def Memory.write (init : InitialMemory) (m : Memory) (a : Nat) (v : Byte) : Memory :=
  if v = Memory.unlisted init a then Memory.remove m a else Memory.put m a v

/-- Addresses rising from `low` on, within the 64 KiB. -/
def Memory.rising : Nat → Memory → Bool
  | _, [] => true
  | low, (a, _) :: rest => decide (low ≤ a) && decide (a < 65536) && Memory.rising (a + 1) rest

/-- The canonical form of memory: rising addresses, and no entry that an unlisted address would read as. -/
def Memory.wf (init : InitialMemory) (m : Memory) : Bool :=
  Memory.rising 0 m && m.all (fun c => decide (c.2 ≠ Memory.unlisted init c.1))

/-- The canonical form of what is known of the initial memory. -/
def Memory.initialWf (init : InitialMemory) : Bool :=
  Memory.rising 0 init.listed && init.listed.all (fun c => decide (init.rest ≠ some c.2))

/-- The initial memory with a byte placed by the loader (R94). -/
def Memory.place (init : InitialMemory) (a : Nat) (v : Byte) : InitialMemory :=
  { init with
    listed := if init.rest = some v then Memory.remove init.listed a else Memory.put init.listed a v }

/-- `MemRead(a)` (R91): always succeeds, no side effect. -/
def State.readMem (s : State) (a : Word) : Byte := Memory.read s.params.initial s.mem a.toNat

/-- The loader's write, which the ceiling does not stop (R94): the byte is one of the initial memory. -/
def State.loadByte (s : State) (a : Word) (v : Byte) : State :=
  { s with
    mem := Memory.remove s.mem a.toNat
    params := { s.params with initial := Memory.place s.params.initial a.toNat v } }

/-- Whether an address is in the ROM region (R93). -/
def State.inRom (s : State) (a : Word) : Bool := decide (a.toNat < s.params.romCeiling.val)

/-- `MemWrite(a, v)` (R92): dropped below the ROM ceiling. -/
def State.writeMem (s : State) (a : Word) (v : Byte) : State :=
  if s.inRom a then s else { s with mem := Memory.write s.params.initial s.mem a.toNat v }

/-- `MemRead16(a)` (R95). -/
def State.readMem16 (s : State) (a : Word) : Word := pair (s.readMem (a + 1)) (s.readMem a)

/-- `MemWrite16(a, v)` (R95): the low byte first, each byte checked on its own. -/
def State.writeMem16 (s : State) (a v : Word) : State := (s.writeMem a (lo v)).writeMem (a + 1) (hi v)

/-! ## Fields of the state -/

def State.setPc (s : State) (v : Word) : State := { s with pc := v }
def State.setSp (s : State) (v : Word) : State := { s with sp := v }
def State.setWz (s : State) (v : Word) : State := { s with wz := v }
def State.setF (s : State) (v : Byte) : State := { s with main := { s.main with f := v } }
def State.setA (s : State) (v : Byte) : State := { s with main := { s.main with a := v } }
def State.setB (s : State) (v : Byte) : State := { s with main := { s.main with b := v } }
def State.setIff (s : State) (v1 v2 : Bool) : State := { s with iff1 := v1, iff2 := v2 }
def State.addCyc (s : State) (t : Nat) : State := { s with cyc := s.cyc + t }

/-- F of the main bank. -/
def State.f (s : State) : Byte := s.main.f

/-- A of the main bank. -/
def State.a (s : State) : Byte := s.main.a

def State.bc (s : State) : Word := pair s.main.b s.main.c
def State.de (s : State) : Word := pair s.main.d s.main.e
def State.hl (s : State) : Word := pair s.main.h s.main.l
def State.af (s : State) : Word := pair s.main.a s.main.f

def State.setBc (s : State) (v : Word) : State := { s with main := { s.main with b := hi v, c := lo v } }
def State.setDe (s : State) (v : Word) : State := { s with main := { s.main with d := hi v, e := lo v } }
def State.setHl (s : State) (v : Word) : State := { s with main := { s.main with h := hi v, l := lo v } }
def State.setAf (s : State) (v : Word) : State := { s with main := { s.main with a := hi v, f := lo v } }

/-! ## The register file (10_state.md R31, R33, R34; 30_encoding.md R132, R133, R141) -/

/-- The index registers. -/
inductive XY where
  | ix | iy
  deriving DecidableEq, Repr

/-- The 8-bit registers an instruction can name. -/
inductive Reg8 where
  | b | c | d | e | h | l | a | ixh | ixl | iyh | iyl
  deriving DecidableEq, Repr

/-- The 16-bit registers an instruction can name. -/
inductive Reg16 where
  | bc | de | hl | sp | af | ix | iy
  deriving DecidableEq, Repr

/-- The value of IX or IY. -/
def State.xy (s : State) : XY → Word
  | .ix => s.ix
  | .iy => s.iy

/-- The value of an 8-bit register. -/
def State.reg8 (s : State) : Reg8 → Byte
  | .b => s.main.b
  | .c => s.main.c
  | .d => s.main.d
  | .e => s.main.e
  | .h => s.main.h
  | .l => s.main.l
  | .a => s.main.a
  | .ixh => hi s.ix
  | .ixl => lo s.ix
  | .iyh => hi s.iy
  | .iyl => lo s.iy

/-- An 8-bit register written. -/
def State.setReg8 (s : State) (r : Reg8) (v : Byte) : State :=
  match r with
  | .b => { s with main := { s.main with b := v } }
  | .c => { s with main := { s.main with c := v } }
  | .d => { s with main := { s.main with d := v } }
  | .e => { s with main := { s.main with e := v } }
  | .h => { s with main := { s.main with h := v } }
  | .l => { s with main := { s.main with l := v } }
  | .a => { s with main := { s.main with a := v } }
  | .ixh => { s with ix := pair v (lo s.ix) }
  | .ixl => { s with ix := pair (hi s.ix) v }
  | .iyh => { s with iy := pair v (lo s.iy) }
  | .iyl => { s with iy := pair (hi s.iy) v }

/-- The value of a 16-bit register. -/
def State.reg16 (s : State) : Reg16 → Word
  | .bc => s.bc
  | .de => s.de
  | .hl => s.hl
  | .sp => s.sp
  | .af => s.af
  | .ix => s.ix
  | .iy => s.iy

/-- A 16-bit register written. -/
def State.setReg16 (s : State) (r : Reg16) (v : Word) : State :=
  match r with
  | .bc => s.setBc v
  | .de => s.setDe v
  | .hl => s.setHl v
  | .sp => s.setSp v
  | .af => s.setAf v
  | .ix => { s with ix := v }
  | .iy => { s with iy := v }

/-! ## Fetch (30_encoding.md R146, R147) -/

/-- n auto-increments of R: bits 6..0 grow modulo 128, bit 7 stays (10_state.md R42). -/
def bumpR (r : Byte) (n : Nat) : Byte := (r &&& 0x80) ||| ((r + BitVec.ofNat 8 n) &&& 0x7F)

/-- What fetching an instruction does before its effect: PC past its `len` bytes, R for its `m1` opcode fetches, `t`
T-states (R146, R147; 60_exceptions.md R500). -/
def State.fetched (s : State) (len m1 t : Nat) : State :=
  { s with pc := s.pc + BitVec.ofNat 16 len, r := bumpR s.r m1, cyc := s.cyc + t }

/-- A DD or FD byte without effect: one byte, one R increment, 4 T-states (R144, R145). -/
def State.skipPrefix (s : State) : State := s.fetched 1 1 4

/-! ## The stack (20_memory.md R97) -/

/-- `Push16(v)`: high byte at SP-1, low byte at SP-2. -/
def State.push16 (s : State) (v : Word) : State :=
  let s1 := (s.setSp (s.sp - 1)).writeMem (s.sp - 1) (hi v)
  (s1.setSp (s1.sp - 1)).writeMem (s1.sp - 1) (lo v)

/-- The word `Pop16()` returns. -/
def State.top16 (s : State) : Word := pair (s.readMem (s.sp + 1)) (s.readMem s.sp)

/-- The state after `Pop16()`. -/
def State.dropped16 (s : State) : State := s.setSp (s.sp + 2)

/-! ## Conditions (30_encoding.md R134; 10_state.md R40) -/

/-- A condition of JP, JR, CALL and RET. -/
inductive Cond where
  | nz | z | nc | c | po | pe | p | m
  deriving DecidableEq, Repr

/-- When a condition holds. -/
def Cond.holds (cc : Cond) (f : Byte) : Bool :=
  match cc with
  | .nz => !fZ f
  | .z  => fZ f
  | .nc => !fC f
  | .c  => fC f
  | .po => !fP f
  | .pe => fP f
  | .p  => !fS f
  | .m  => fS f

/-! ## Interrupts (60_exceptions.md R503 to R510) -/

/-- Calls an address: PC pushed, PC and WZ the target (CALL, RST and every acceptance; R504, R514). -/
def State.enterAt (s : State) (target : Word) : State := ((s.push16 s.pc).setPc target).setWz target

/-- What every acceptance does before it enters: `halted` cleared and R bumped once (R504, R505). -/
def State.wake (s : State) : State := { s with halted := false, r := bumpR s.r 1 }

/-- `AcceptNmi()` (R504). -/
def State.acceptNmi (s : State) : State :=
  ((({ s with nmiPending := false }).wake.setIff false s.iff2).enterAt 0x0066).addCyc 11

/-- The vector-table pointer of mode 2 (R508). -/
def State.vectorPointer (s : State) (v : Byte) : Word := pair s.i (v &&& 0xFE)

/-- Whether a data-bus byte is a one-byte RST (R506). -/
def isRst (v : Byte) : Bool := (v &&& 0xC7) == 0xC7

/-- The target of a one-byte RST on the data bus (R506). -/
def rstTarget (v : Byte) : Word := (v &&& 0x38).setWidth 16

/-- `AcceptInt()` (R505 to R508): the mode-2 table entry is read before the push. -/
def State.acceptInt (s : State) : Host.Outcome State Fault Refusal :=
  let s1 := ({ s with intPending := false }).wake.setIff false false
  let v := s.intVector
  match s.im with
  | .im0 => if isRst v then .next ((s1.enterAt (rstTarget v)).addCyc 13) else .refused (.im0DataBusByte v)
  | .im1 => .next ((s1.enterAt 0x0038).addCyc 13)
  | .im2 => .next ((s1.enterAt (s1.readMem16 (s1.vectorPointer v))).addCyc 19)

/-- `Boundary()` (R503, R513): at most one acceptance, the NMI first. -/
def State.boundary (s : State) : Host.Outcome State Fault Refusal :=
  if s.nmiPending then .next s.acceptNmi
  else if s.intPending && s.iff1 && s.iffDelay == 0 then s.acceptInt
  else .next s

/-- `PC <- Pop16(); WZ <- PC`: the return of RET, RETI and RETN (45_control.md R369). -/
def State.returnToCaller (s : State) : State := ((s.dropped16).setPc s.top16).setWz s.top16

/-- RETI and RETN: the return, and IFF1 from IFF2 (R371, R372). -/
def State.returnFromHandler (s : State) : State := s.returnToCaller.setIff s.iff2 s.iff2

/-- `raise_int(v)` (R509): the first request is kept. -/
def State.raiseInt (s : State) (v : Byte) : State :=
  if s.intPending then s else { s with intPending := true, intVector := v }

/-- `raise_nmi` (R510). -/
def State.raiseNmi (s : State) : State := { s with nmiPending := true }

end Sys2Proof.Machine
end

