-- ==== Sys2Proof/Machine/Operands.lean ====
section
/-!
DEFINITION. Operand forms: the tables that a field of an opcode selects from (30_encoding.md R132 to R137), 8-bit
locations and sources (R157), effective addresses (R158) and ports (20_memory.md R100).
-/

namespace Sys2Proof.Machine

/-- A memory operand of one byte (R157, R158). -/
inductive Mem8 where
  | hl | bc | de
  | idx (xy : XY) (d : Byte)
  | abs (nn : Word)
  deriving DecidableEq, Repr

/-- An 8-bit operand location `m` (R157). -/
inductive Loc where
  | reg (r : Reg8)
  | mem (m : Mem8)
  deriving DecidableEq, Repr

/-- An 8-bit source `s`: a location or an immediate (R157). -/
inductive Src where
  | loc (l : Loc)
  | imm (n : Byte)
  deriving DecidableEq, Repr

/-- The effective address of a memory operand (R158, R138). -/
def Mem8.addr (m : Mem8) (s : State) : Word :=
  match m with
  | .hl => s.hl
  | .bc => s.bc
  | .de => s.de
  | .idx xy d => s.xy xy + sext8 d
  | .abs nn => nn

/-- An `(XY+d)` operand sets WZ to its address before the access (R158, R163); no other operand does. -/
def Mem8.latch (m : Mem8) (s : State) : State :=
  match m with
  | .idx xy d => s.setWz (s.xy xy + sext8 d)
  | .hl | .bc | .de | .abs _ => s

/-- The WZ effect of a location. -/
def Loc.latch (l : Loc) (s : State) : State :=
  match l with
  | .reg _ => s
  | .mem m => m.latch s

/-- The WZ effect of a source. -/
def Src.latch (src : Src) (s : State) : State :=
  match src with
  | .loc l => l.latch s
  | .imm _ => s

/-- `Read(m)` (R157). -/
def State.readLoc (s : State) (l : Loc) : Byte :=
  match l with
  | .reg r => s.reg8 r
  | .mem m => s.readMem (m.addr s)

/-- `Write(m, v)` (R157). -/
def State.writeLoc (s : State) (l : Loc) (v : Byte) : State :=
  match l with
  | .reg r => s.setReg8 r v
  | .mem m => s.writeMem (m.addr s) v

/-- The source byte `s` (R157). -/
def State.readSrc (s : State) (src : Src) : Byte :=
  match src with
  | .loc l => s.readLoc l
  | .imm n => n

/-! ## Tables (R132 to R137) -/

/-- `r[k]` (R132). -/
def rTable (k : BitVec 3) : Loc :=
  match k with
  | 0 => .reg .b
  | 1 => .reg .c
  | 2 => .reg .d
  | 3 => .reg .e
  | 4 => .reg .h
  | 5 => .reg .l
  | 6 => .mem .hl
  | 7 => .reg .a

/-- The high and low bytes of IX or IY as registers (10_state.md R33). -/
def XY.high : XY → Reg8
  | .ix => .ixh
  | .iy => .iyh

def XY.low : XY → Reg8
  | .ix => .ixl
  | .iy => .iyl

/-- IX or IY as a 16-bit register. -/
def XY.reg16 : XY → Reg16
  | .ix => .ix
  | .iy => .iy

/-- `r'[k]` in index mode, for an instruction without a memory operand (R141 item 3); entry 6 is `(XY+d)` (item 2). -/
def rIndexTable (xy : XY) (d : Byte) (k : BitVec 3) : Loc :=
  match k with
  | 4 => .reg xy.high
  | 5 => .reg xy.low
  | 6 => .mem (.idx xy d)
  | 0 => .reg .b
  | 1 => .reg .c
  | 2 => .reg .d
  | 3 => .reg .e
  | 7 => .reg .a

/-- `rp[p]` (R133). -/
def rpTable (p : BitVec 2) : Reg16 :=
  match p with
  | 0 => .bc
  | 1 => .de
  | 2 => .hl
  | 3 => .sp

/-- `rp[p]` in index mode: entry 2 is XY (R133). -/
def rpIndexTable (xy : XY) (p : BitVec 2) : Reg16 :=
  match p with
  | 0 => .bc
  | 1 => .de
  | 2 => xy.reg16
  | 3 => .sp

/-- `rp2[p]` (R133). -/
def rp2Table (p : BitVec 2) : Reg16 :=
  match p with
  | 0 => .bc
  | 1 => .de
  | 2 => .hl
  | 3 => .af

/-- `cc[y]` (R134). -/
def ccTable (y : BitVec 3) : Cond :=
  match y with
  | 0 => .nz
  | 1 => .z
  | 2 => .nc
  | 3 => .c
  | 4 => .po
  | 5 => .pe
  | 6 => .p
  | 7 => .m

/-- `alu[y]` (R135). -/
def aluTable (y : BitVec 3) : AluOp :=
  match y with
  | 0 => .add
  | 1 => .adc
  | 2 => .sub
  | 3 => .sbc
  | 4 => .and
  | 5 => .xor
  | 6 => .or
  | 7 => .cp

/-- `rot[y]` (R136). -/
def rotTable (y : BitVec 3) : RotOp :=
  match y with
  | 0 => .rlc
  | 1 => .rrc
  | 2 => .rl
  | 3 => .rr
  | 4 => .sla
  | 5 => .sra
  | 6 => .sll
  | 7 => .srl

/-- `im[y]` (R137): the undocumented entries y = 1 and y = 5 are mode 0 (decision D17). -/
def imTable (y : BitVec 3) : IntMode :=
  match y with
  | 0 => .im0
  | 1 => .im0
  | 2 => .im1
  | 3 => .im2
  | 4 => .im0
  | 5 => .im0
  | 6 => .im1
  | 7 => .im2

/-! ## Ports (20_memory.md R100; R158) -/

/-- The port address of the forms through C: `B:C`. -/
def State.portBC (s : State) : Word := s.bc

/-- The port address of `IN A,(n)` and `OUT (n),A`: `A:n`. -/
def State.portAn (s : State) (n : Byte) : Word := pair s.a n

end Sys2Proof.Machine
end

