-- ==== Sys2Proof/Machine/Alu16.lean ====
section
/-! DEFINITION. 16-bit arithmetic (43_alu16.md). -/

namespace Sys2Proof.Machine

/-- `ADD HL,rr` and `ADD XY,rr` (R300, R301). -/
def add16 (dst src : Reg16) (s : State) : State :=
  let w := addWords (s.reg16 dst) (s.reg16 src) s.f
  ((s.setReg16 dst w.1).setF w.2).setWz (s.reg16 dst + 1)

/-- `ADC HL,rr` (R302). -/
def adc16 (src : Reg16) (s : State) : State :=
  let w := adcWords s.hl (s.reg16 src) s.f
  ((s.setHl w.1).setF w.2).setWz (s.hl + 1)

/-- `SBC HL,rr` (R303). -/
def sbc16 (src : Reg16) (s : State) : State :=
  let w := sbcWords s.hl (s.reg16 src) s.f
  ((s.setHl w.1).setF w.2).setWz (s.hl + 1)

/-- `INC rr` (R304). -/
def inc16 (r : Reg16) (s : State) : State := s.setReg16 r (s.reg16 r + 1)

/-- `DEC rr` (R304). -/
def dec16 (r : Reg16) (s : State) : State := s.setReg16 r (s.reg16 r - 1)

/-! ## The meanings -/

/-! R300 -/
def execAdd_HL_BC (s : State) : Host.Outcome State Fault Refusal := .next (add16 .hl .bc (s.fetched 1 1 11))
def execAdd_HL_DE (s : State) : Host.Outcome State Fault Refusal := .next (add16 .hl .de (s.fetched 1 1 11))
def execAdd_HL_HL (s : State) : Host.Outcome State Fault Refusal := .next (add16 .hl .hl (s.fetched 1 1 11))
def execAdd_HL_SP (s : State) : Host.Outcome State Fault Refusal := .next (add16 .hl .sp (s.fetched 1 1 11))

/-! R301 -/
def execAdd_IX_BC (s : State) : Host.Outcome State Fault Refusal := .next (add16 .ix .bc (s.fetched 2 2 15))
def execAdd_IX_DE (s : State) : Host.Outcome State Fault Refusal := .next (add16 .ix .de (s.fetched 2 2 15))
def execAdd_IX_IX (s : State) : Host.Outcome State Fault Refusal := .next (add16 .ix .ix (s.fetched 2 2 15))
def execAdd_IX_SP (s : State) : Host.Outcome State Fault Refusal := .next (add16 .ix .sp (s.fetched 2 2 15))
def execAdd_IY_BC (s : State) : Host.Outcome State Fault Refusal := .next (add16 .iy .bc (s.fetched 2 2 15))
def execAdd_IY_DE (s : State) : Host.Outcome State Fault Refusal := .next (add16 .iy .de (s.fetched 2 2 15))
def execAdd_IY_IY (s : State) : Host.Outcome State Fault Refusal := .next (add16 .iy .iy (s.fetched 2 2 15))
def execAdd_IY_SP (s : State) : Host.Outcome State Fault Refusal := .next (add16 .iy .sp (s.fetched 2 2 15))

/-! R302 -/
def execAdc_HL_BC (s : State) : Host.Outcome State Fault Refusal := .next (adc16 .bc (s.fetched 2 2 15))
def execAdc_HL_DE (s : State) : Host.Outcome State Fault Refusal := .next (adc16 .de (s.fetched 2 2 15))
def execAdc_HL_HL (s : State) : Host.Outcome State Fault Refusal := .next (adc16 .hl (s.fetched 2 2 15))
def execAdc_HL_SP (s : State) : Host.Outcome State Fault Refusal := .next (adc16 .sp (s.fetched 2 2 15))

/-! R303 -/
def execSbc_HL_BC (s : State) : Host.Outcome State Fault Refusal := .next (sbc16 .bc (s.fetched 2 2 15))
def execSbc_HL_DE (s : State) : Host.Outcome State Fault Refusal := .next (sbc16 .de (s.fetched 2 2 15))
def execSbc_HL_HL (s : State) : Host.Outcome State Fault Refusal := .next (sbc16 .hl (s.fetched 2 2 15))
def execSbc_HL_SP (s : State) : Host.Outcome State Fault Refusal := .next (sbc16 .sp (s.fetched 2 2 15))

/-! R304 -/
def execInc_BC (s : State) : Host.Outcome State Fault Refusal := .next (inc16 .bc (s.fetched 1 1 6))
def execDec_BC (s : State) : Host.Outcome State Fault Refusal := .next (dec16 .bc (s.fetched 1 1 6))
def execInc_DE (s : State) : Host.Outcome State Fault Refusal := .next (inc16 .de (s.fetched 1 1 6))
def execDec_DE (s : State) : Host.Outcome State Fault Refusal := .next (dec16 .de (s.fetched 1 1 6))
def execInc_HL (s : State) : Host.Outcome State Fault Refusal := .next (inc16 .hl (s.fetched 1 1 6))
def execDec_HL (s : State) : Host.Outcome State Fault Refusal := .next (dec16 .hl (s.fetched 1 1 6))
def execInc_SP (s : State) : Host.Outcome State Fault Refusal := .next (inc16 .sp (s.fetched 1 1 6))
def execDec_SP (s : State) : Host.Outcome State Fault Refusal := .next (dec16 .sp (s.fetched 1 1 6))
def execInc_IX (s : State) : Host.Outcome State Fault Refusal := .next (inc16 .ix (s.fetched 2 2 10))
def execDec_IX (s : State) : Host.Outcome State Fault Refusal := .next (dec16 .ix (s.fetched 2 2 10))
def execInc_IY (s : State) : Host.Outcome State Fault Refusal := .next (inc16 .iy (s.fetched 2 2 10))
def execDec_IY (s : State) : Host.Outcome State Fault Refusal := .next (dec16 .iy (s.fetched 2 2 10))

end Sys2Proof.Machine
end

