-- ==== Sys2Proof/Machine/Alu8.lean ====
section
/-! DEFINITION. 8-bit arithmetic and logic (42_alu8.md). -/

namespace Sys2Proof.Machine

/-- `alu[op] s` in every operand form (R260 to R269). -/
def alu (op : AluOp) (src : Src) (s : State) : State :=
  let s1 := src.latch s
  let w := aluResult op s1.a (s1.readSrc src) s1.f
  (s1.setA w.1).setF w.2

/-- `INC m` (R270, R271). -/
def incLoc (m : Loc) (s : State) : State :=
  let s1 := m.latch s
  let v := s1.readLoc m
  (s1.writeLoc m (v + 1)).setF (incFlags v s1.f)

/-- `DEC m` (R271, R272). -/
def decLoc (m : Loc) (s : State) : State :=
  let s1 := m.latch s
  let v := s1.readLoc m
  (s1.writeLoc m (v - 1)).setF (decFlags v s1.f)

/-- `DAA` (R273). -/
def daa (s : State) : State := (s.setA (daaResult s.a s.f).1).setF (daaResult s.a s.f).2

/-- `CPL` (R274). -/
def cpl (s : State) : State := (s.setA (cplResult s.a s.f).1).setF (cplResult s.a s.f).2

/-- `NEG`: `SUB` with A = 0 and the operand A (R275). -/
def neg (s : State) : State := (s.setA (subBytes 0 s.a 0).1).setF (subBytes 0 s.a 0).2

/-- `SCF` (R276). -/
def scf (s : State) : State := s.setF (scfFlags s.a s.f)

/-- `CCF` (R277). -/
def ccf (s : State) : State := s.setF (ccfFlags s.a s.f)

/-! ## The meanings -/

/-! R262 -/
def execAdd_A_B (s : State) : Host.Outcome State Fault Refusal := .next (alu .add (.loc (.reg .b)) (s.fetched 1 1 4))
def execAdd_A_C (s : State) : Host.Outcome State Fault Refusal := .next (alu .add (.loc (.reg .c)) (s.fetched 1 1 4))
def execAdd_A_D (s : State) : Host.Outcome State Fault Refusal := .next (alu .add (.loc (.reg .d)) (s.fetched 1 1 4))
def execAdd_A_E (s : State) : Host.Outcome State Fault Refusal := .next (alu .add (.loc (.reg .e)) (s.fetched 1 1 4))
def execAdd_A_H (s : State) : Host.Outcome State Fault Refusal := .next (alu .add (.loc (.reg .h)) (s.fetched 1 1 4))
def execAdd_A_L (s : State) : Host.Outcome State Fault Refusal := .next (alu .add (.loc (.reg .l)) (s.fetched 1 1 4))
def execAdd_A_mHL (s : State) : Host.Outcome State Fault Refusal := .next (alu .add (.loc (.mem .hl)) (s.fetched 1 1 7))
def execAdd_A_A (s : State) : Host.Outcome State Fault Refusal := .next (alu .add (.loc (.reg .a)) (s.fetched 1 1 4))
def execAdd_A_n (n : Byte) (s : State) : Host.Outcome State Fault Refusal := .next (alu .add (.imm n) (s.fetched 2 1 7))
def execAdd_A_IXH (s : State) : Host.Outcome State Fault Refusal := .next (alu .add (.loc (.reg .ixh)) (s.fetched 2 2 8))
def execAdd_A_IXL (s : State) : Host.Outcome State Fault Refusal := .next (alu .add (.loc (.reg .ixl)) (s.fetched 2 2 8))
def execAdd_A_mIXd (d : Byte) (s : State) : Host.Outcome State Fault Refusal :=
  .next (alu .add (.loc (.mem (.idx .ix d))) (s.fetched 3 2 19))
def execAdd_A_IYH (s : State) : Host.Outcome State Fault Refusal := .next (alu .add (.loc (.reg .iyh)) (s.fetched 2 2 8))
def execAdd_A_IYL (s : State) : Host.Outcome State Fault Refusal := .next (alu .add (.loc (.reg .iyl)) (s.fetched 2 2 8))
def execAdd_A_mIYd (d : Byte) (s : State) : Host.Outcome State Fault Refusal :=
  .next (alu .add (.loc (.mem (.idx .iy d))) (s.fetched 3 2 19))

/-! R263 -/
def execAdc_A_B (s : State) : Host.Outcome State Fault Refusal := .next (alu .adc (.loc (.reg .b)) (s.fetched 1 1 4))
def execAdc_A_C (s : State) : Host.Outcome State Fault Refusal := .next (alu .adc (.loc (.reg .c)) (s.fetched 1 1 4))
def execAdc_A_D (s : State) : Host.Outcome State Fault Refusal := .next (alu .adc (.loc (.reg .d)) (s.fetched 1 1 4))
def execAdc_A_E (s : State) : Host.Outcome State Fault Refusal := .next (alu .adc (.loc (.reg .e)) (s.fetched 1 1 4))
def execAdc_A_H (s : State) : Host.Outcome State Fault Refusal := .next (alu .adc (.loc (.reg .h)) (s.fetched 1 1 4))
def execAdc_A_L (s : State) : Host.Outcome State Fault Refusal := .next (alu .adc (.loc (.reg .l)) (s.fetched 1 1 4))
def execAdc_A_mHL (s : State) : Host.Outcome State Fault Refusal := .next (alu .adc (.loc (.mem .hl)) (s.fetched 1 1 7))
def execAdc_A_A (s : State) : Host.Outcome State Fault Refusal := .next (alu .adc (.loc (.reg .a)) (s.fetched 1 1 4))
def execAdc_A_n (n : Byte) (s : State) : Host.Outcome State Fault Refusal := .next (alu .adc (.imm n) (s.fetched 2 1 7))
def execAdc_A_IXH (s : State) : Host.Outcome State Fault Refusal := .next (alu .adc (.loc (.reg .ixh)) (s.fetched 2 2 8))
def execAdc_A_IXL (s : State) : Host.Outcome State Fault Refusal := .next (alu .adc (.loc (.reg .ixl)) (s.fetched 2 2 8))
def execAdc_A_mIXd (d : Byte) (s : State) : Host.Outcome State Fault Refusal :=
  .next (alu .adc (.loc (.mem (.idx .ix d))) (s.fetched 3 2 19))
def execAdc_A_IYH (s : State) : Host.Outcome State Fault Refusal := .next (alu .adc (.loc (.reg .iyh)) (s.fetched 2 2 8))
def execAdc_A_IYL (s : State) : Host.Outcome State Fault Refusal := .next (alu .adc (.loc (.reg .iyl)) (s.fetched 2 2 8))
def execAdc_A_mIYd (d : Byte) (s : State) : Host.Outcome State Fault Refusal :=
  .next (alu .adc (.loc (.mem (.idx .iy d))) (s.fetched 3 2 19))

/-! R264 -/
def execSub_B (s : State) : Host.Outcome State Fault Refusal := .next (alu .sub (.loc (.reg .b)) (s.fetched 1 1 4))
def execSub_C (s : State) : Host.Outcome State Fault Refusal := .next (alu .sub (.loc (.reg .c)) (s.fetched 1 1 4))
def execSub_D (s : State) : Host.Outcome State Fault Refusal := .next (alu .sub (.loc (.reg .d)) (s.fetched 1 1 4))
def execSub_E (s : State) : Host.Outcome State Fault Refusal := .next (alu .sub (.loc (.reg .e)) (s.fetched 1 1 4))
def execSub_H (s : State) : Host.Outcome State Fault Refusal := .next (alu .sub (.loc (.reg .h)) (s.fetched 1 1 4))
def execSub_L (s : State) : Host.Outcome State Fault Refusal := .next (alu .sub (.loc (.reg .l)) (s.fetched 1 1 4))
def execSub_mHL (s : State) : Host.Outcome State Fault Refusal := .next (alu .sub (.loc (.mem .hl)) (s.fetched 1 1 7))
def execSub_A (s : State) : Host.Outcome State Fault Refusal := .next (alu .sub (.loc (.reg .a)) (s.fetched 1 1 4))
def execSub_n (n : Byte) (s : State) : Host.Outcome State Fault Refusal := .next (alu .sub (.imm n) (s.fetched 2 1 7))
def execSub_IXH (s : State) : Host.Outcome State Fault Refusal := .next (alu .sub (.loc (.reg .ixh)) (s.fetched 2 2 8))
def execSub_IXL (s : State) : Host.Outcome State Fault Refusal := .next (alu .sub (.loc (.reg .ixl)) (s.fetched 2 2 8))
def execSub_mIXd (d : Byte) (s : State) : Host.Outcome State Fault Refusal :=
  .next (alu .sub (.loc (.mem (.idx .ix d))) (s.fetched 3 2 19))
def execSub_IYH (s : State) : Host.Outcome State Fault Refusal := .next (alu .sub (.loc (.reg .iyh)) (s.fetched 2 2 8))
def execSub_IYL (s : State) : Host.Outcome State Fault Refusal := .next (alu .sub (.loc (.reg .iyl)) (s.fetched 2 2 8))
def execSub_mIYd (d : Byte) (s : State) : Host.Outcome State Fault Refusal :=
  .next (alu .sub (.loc (.mem (.idx .iy d))) (s.fetched 3 2 19))

/-! R265 -/
def execSbc_A_B (s : State) : Host.Outcome State Fault Refusal := .next (alu .sbc (.loc (.reg .b)) (s.fetched 1 1 4))
def execSbc_A_C (s : State) : Host.Outcome State Fault Refusal := .next (alu .sbc (.loc (.reg .c)) (s.fetched 1 1 4))
def execSbc_A_D (s : State) : Host.Outcome State Fault Refusal := .next (alu .sbc (.loc (.reg .d)) (s.fetched 1 1 4))
def execSbc_A_E (s : State) : Host.Outcome State Fault Refusal := .next (alu .sbc (.loc (.reg .e)) (s.fetched 1 1 4))
def execSbc_A_H (s : State) : Host.Outcome State Fault Refusal := .next (alu .sbc (.loc (.reg .h)) (s.fetched 1 1 4))
def execSbc_A_L (s : State) : Host.Outcome State Fault Refusal := .next (alu .sbc (.loc (.reg .l)) (s.fetched 1 1 4))
def execSbc_A_mHL (s : State) : Host.Outcome State Fault Refusal := .next (alu .sbc (.loc (.mem .hl)) (s.fetched 1 1 7))
def execSbc_A_A (s : State) : Host.Outcome State Fault Refusal := .next (alu .sbc (.loc (.reg .a)) (s.fetched 1 1 4))
def execSbc_A_n (n : Byte) (s : State) : Host.Outcome State Fault Refusal := .next (alu .sbc (.imm n) (s.fetched 2 1 7))
def execSbc_A_IXH (s : State) : Host.Outcome State Fault Refusal := .next (alu .sbc (.loc (.reg .ixh)) (s.fetched 2 2 8))
def execSbc_A_IXL (s : State) : Host.Outcome State Fault Refusal := .next (alu .sbc (.loc (.reg .ixl)) (s.fetched 2 2 8))
def execSbc_A_mIXd (d : Byte) (s : State) : Host.Outcome State Fault Refusal :=
  .next (alu .sbc (.loc (.mem (.idx .ix d))) (s.fetched 3 2 19))
def execSbc_A_IYH (s : State) : Host.Outcome State Fault Refusal := .next (alu .sbc (.loc (.reg .iyh)) (s.fetched 2 2 8))
def execSbc_A_IYL (s : State) : Host.Outcome State Fault Refusal := .next (alu .sbc (.loc (.reg .iyl)) (s.fetched 2 2 8))
def execSbc_A_mIYd (d : Byte) (s : State) : Host.Outcome State Fault Refusal :=
  .next (alu .sbc (.loc (.mem (.idx .iy d))) (s.fetched 3 2 19))

/-! R266 -/
def execAnd_B (s : State) : Host.Outcome State Fault Refusal := .next (alu .and (.loc (.reg .b)) (s.fetched 1 1 4))
def execAnd_C (s : State) : Host.Outcome State Fault Refusal := .next (alu .and (.loc (.reg .c)) (s.fetched 1 1 4))
def execAnd_D (s : State) : Host.Outcome State Fault Refusal := .next (alu .and (.loc (.reg .d)) (s.fetched 1 1 4))
def execAnd_E (s : State) : Host.Outcome State Fault Refusal := .next (alu .and (.loc (.reg .e)) (s.fetched 1 1 4))
def execAnd_H (s : State) : Host.Outcome State Fault Refusal := .next (alu .and (.loc (.reg .h)) (s.fetched 1 1 4))
def execAnd_L (s : State) : Host.Outcome State Fault Refusal := .next (alu .and (.loc (.reg .l)) (s.fetched 1 1 4))
def execAnd_mHL (s : State) : Host.Outcome State Fault Refusal := .next (alu .and (.loc (.mem .hl)) (s.fetched 1 1 7))
def execAnd_A (s : State) : Host.Outcome State Fault Refusal := .next (alu .and (.loc (.reg .a)) (s.fetched 1 1 4))
def execAnd_n (n : Byte) (s : State) : Host.Outcome State Fault Refusal := .next (alu .and (.imm n) (s.fetched 2 1 7))
def execAnd_IXH (s : State) : Host.Outcome State Fault Refusal := .next (alu .and (.loc (.reg .ixh)) (s.fetched 2 2 8))
def execAnd_IXL (s : State) : Host.Outcome State Fault Refusal := .next (alu .and (.loc (.reg .ixl)) (s.fetched 2 2 8))
def execAnd_mIXd (d : Byte) (s : State) : Host.Outcome State Fault Refusal :=
  .next (alu .and (.loc (.mem (.idx .ix d))) (s.fetched 3 2 19))
def execAnd_IYH (s : State) : Host.Outcome State Fault Refusal := .next (alu .and (.loc (.reg .iyh)) (s.fetched 2 2 8))
def execAnd_IYL (s : State) : Host.Outcome State Fault Refusal := .next (alu .and (.loc (.reg .iyl)) (s.fetched 2 2 8))
def execAnd_mIYd (d : Byte) (s : State) : Host.Outcome State Fault Refusal :=
  .next (alu .and (.loc (.mem (.idx .iy d))) (s.fetched 3 2 19))

/-! R267 -/
def execXor_B (s : State) : Host.Outcome State Fault Refusal := .next (alu .xor (.loc (.reg .b)) (s.fetched 1 1 4))
def execXor_C (s : State) : Host.Outcome State Fault Refusal := .next (alu .xor (.loc (.reg .c)) (s.fetched 1 1 4))
def execXor_D (s : State) : Host.Outcome State Fault Refusal := .next (alu .xor (.loc (.reg .d)) (s.fetched 1 1 4))
def execXor_E (s : State) : Host.Outcome State Fault Refusal := .next (alu .xor (.loc (.reg .e)) (s.fetched 1 1 4))
def execXor_H (s : State) : Host.Outcome State Fault Refusal := .next (alu .xor (.loc (.reg .h)) (s.fetched 1 1 4))
def execXor_L (s : State) : Host.Outcome State Fault Refusal := .next (alu .xor (.loc (.reg .l)) (s.fetched 1 1 4))
def execXor_mHL (s : State) : Host.Outcome State Fault Refusal := .next (alu .xor (.loc (.mem .hl)) (s.fetched 1 1 7))
def execXor_A (s : State) : Host.Outcome State Fault Refusal := .next (alu .xor (.loc (.reg .a)) (s.fetched 1 1 4))
def execXor_n (n : Byte) (s : State) : Host.Outcome State Fault Refusal := .next (alu .xor (.imm n) (s.fetched 2 1 7))
def execXor_IXH (s : State) : Host.Outcome State Fault Refusal := .next (alu .xor (.loc (.reg .ixh)) (s.fetched 2 2 8))
def execXor_IXL (s : State) : Host.Outcome State Fault Refusal := .next (alu .xor (.loc (.reg .ixl)) (s.fetched 2 2 8))
def execXor_mIXd (d : Byte) (s : State) : Host.Outcome State Fault Refusal :=
  .next (alu .xor (.loc (.mem (.idx .ix d))) (s.fetched 3 2 19))
def execXor_IYH (s : State) : Host.Outcome State Fault Refusal := .next (alu .xor (.loc (.reg .iyh)) (s.fetched 2 2 8))
def execXor_IYL (s : State) : Host.Outcome State Fault Refusal := .next (alu .xor (.loc (.reg .iyl)) (s.fetched 2 2 8))
def execXor_mIYd (d : Byte) (s : State) : Host.Outcome State Fault Refusal :=
  .next (alu .xor (.loc (.mem (.idx .iy d))) (s.fetched 3 2 19))

/-! R268 -/
def execOr_B (s : State) : Host.Outcome State Fault Refusal := .next (alu .or (.loc (.reg .b)) (s.fetched 1 1 4))
def execOr_C (s : State) : Host.Outcome State Fault Refusal := .next (alu .or (.loc (.reg .c)) (s.fetched 1 1 4))
def execOr_D (s : State) : Host.Outcome State Fault Refusal := .next (alu .or (.loc (.reg .d)) (s.fetched 1 1 4))
def execOr_E (s : State) : Host.Outcome State Fault Refusal := .next (alu .or (.loc (.reg .e)) (s.fetched 1 1 4))
def execOr_H (s : State) : Host.Outcome State Fault Refusal := .next (alu .or (.loc (.reg .h)) (s.fetched 1 1 4))
def execOr_L (s : State) : Host.Outcome State Fault Refusal := .next (alu .or (.loc (.reg .l)) (s.fetched 1 1 4))
def execOr_mHL (s : State) : Host.Outcome State Fault Refusal := .next (alu .or (.loc (.mem .hl)) (s.fetched 1 1 7))
def execOr_A (s : State) : Host.Outcome State Fault Refusal := .next (alu .or (.loc (.reg .a)) (s.fetched 1 1 4))
def execOr_n (n : Byte) (s : State) : Host.Outcome State Fault Refusal := .next (alu .or (.imm n) (s.fetched 2 1 7))
def execOr_IXH (s : State) : Host.Outcome State Fault Refusal := .next (alu .or (.loc (.reg .ixh)) (s.fetched 2 2 8))
def execOr_IXL (s : State) : Host.Outcome State Fault Refusal := .next (alu .or (.loc (.reg .ixl)) (s.fetched 2 2 8))
def execOr_mIXd (d : Byte) (s : State) : Host.Outcome State Fault Refusal :=
  .next (alu .or (.loc (.mem (.idx .ix d))) (s.fetched 3 2 19))
def execOr_IYH (s : State) : Host.Outcome State Fault Refusal := .next (alu .or (.loc (.reg .iyh)) (s.fetched 2 2 8))
def execOr_IYL (s : State) : Host.Outcome State Fault Refusal := .next (alu .or (.loc (.reg .iyl)) (s.fetched 2 2 8))
def execOr_mIYd (d : Byte) (s : State) : Host.Outcome State Fault Refusal :=
  .next (alu .or (.loc (.mem (.idx .iy d))) (s.fetched 3 2 19))

/-! R269 -/
def execCp_B (s : State) : Host.Outcome State Fault Refusal := .next (alu .cp (.loc (.reg .b)) (s.fetched 1 1 4))
def execCp_C (s : State) : Host.Outcome State Fault Refusal := .next (alu .cp (.loc (.reg .c)) (s.fetched 1 1 4))
def execCp_D (s : State) : Host.Outcome State Fault Refusal := .next (alu .cp (.loc (.reg .d)) (s.fetched 1 1 4))
def execCp_E (s : State) : Host.Outcome State Fault Refusal := .next (alu .cp (.loc (.reg .e)) (s.fetched 1 1 4))
def execCp_H (s : State) : Host.Outcome State Fault Refusal := .next (alu .cp (.loc (.reg .h)) (s.fetched 1 1 4))
def execCp_L (s : State) : Host.Outcome State Fault Refusal := .next (alu .cp (.loc (.reg .l)) (s.fetched 1 1 4))
def execCp_mHL (s : State) : Host.Outcome State Fault Refusal := .next (alu .cp (.loc (.mem .hl)) (s.fetched 1 1 7))
def execCp_A (s : State) : Host.Outcome State Fault Refusal := .next (alu .cp (.loc (.reg .a)) (s.fetched 1 1 4))
def execCp_n (n : Byte) (s : State) : Host.Outcome State Fault Refusal := .next (alu .cp (.imm n) (s.fetched 2 1 7))
def execCp_IXH (s : State) : Host.Outcome State Fault Refusal := .next (alu .cp (.loc (.reg .ixh)) (s.fetched 2 2 8))
def execCp_IXL (s : State) : Host.Outcome State Fault Refusal := .next (alu .cp (.loc (.reg .ixl)) (s.fetched 2 2 8))
def execCp_mIXd (d : Byte) (s : State) : Host.Outcome State Fault Refusal :=
  .next (alu .cp (.loc (.mem (.idx .ix d))) (s.fetched 3 2 19))
def execCp_IYH (s : State) : Host.Outcome State Fault Refusal := .next (alu .cp (.loc (.reg .iyh)) (s.fetched 2 2 8))
def execCp_IYL (s : State) : Host.Outcome State Fault Refusal := .next (alu .cp (.loc (.reg .iyl)) (s.fetched 2 2 8))
def execCp_mIYd (d : Byte) (s : State) : Host.Outcome State Fault Refusal :=
  .next (alu .cp (.loc (.mem (.idx .iy d))) (s.fetched 3 2 19))

/-! R270 -/
def execInc_B (s : State) : Host.Outcome State Fault Refusal := .next (incLoc (.reg .b) (s.fetched 1 1 4))
def execInc_C (s : State) : Host.Outcome State Fault Refusal := .next (incLoc (.reg .c) (s.fetched 1 1 4))
def execInc_D (s : State) : Host.Outcome State Fault Refusal := .next (incLoc (.reg .d) (s.fetched 1 1 4))
def execInc_E (s : State) : Host.Outcome State Fault Refusal := .next (incLoc (.reg .e) (s.fetched 1 1 4))
def execInc_H (s : State) : Host.Outcome State Fault Refusal := .next (incLoc (.reg .h) (s.fetched 1 1 4))
def execInc_L (s : State) : Host.Outcome State Fault Refusal := .next (incLoc (.reg .l) (s.fetched 1 1 4))
def execInc_mHL (s : State) : Host.Outcome State Fault Refusal := .next (incLoc (.mem .hl) (s.fetched 1 1 11))
def execInc_A (s : State) : Host.Outcome State Fault Refusal := .next (incLoc (.reg .a) (s.fetched 1 1 4))
def execInc_IXH (s : State) : Host.Outcome State Fault Refusal := .next (incLoc (.reg .ixh) (s.fetched 2 2 8))
def execInc_IXL (s : State) : Host.Outcome State Fault Refusal := .next (incLoc (.reg .ixl) (s.fetched 2 2 8))
def execInc_mIXd (d : Byte) (s : State) : Host.Outcome State Fault Refusal :=
  .next (incLoc (.mem (.idx .ix d)) (s.fetched 3 2 23))
def execInc_IYH (s : State) : Host.Outcome State Fault Refusal := .next (incLoc (.reg .iyh) (s.fetched 2 2 8))
def execInc_IYL (s : State) : Host.Outcome State Fault Refusal := .next (incLoc (.reg .iyl) (s.fetched 2 2 8))
def execInc_mIYd (d : Byte) (s : State) : Host.Outcome State Fault Refusal :=
  .next (incLoc (.mem (.idx .iy d)) (s.fetched 3 2 23))

/-! R272 -/
def execDec_B (s : State) : Host.Outcome State Fault Refusal := .next (decLoc (.reg .b) (s.fetched 1 1 4))
def execDec_C (s : State) : Host.Outcome State Fault Refusal := .next (decLoc (.reg .c) (s.fetched 1 1 4))
def execDec_D (s : State) : Host.Outcome State Fault Refusal := .next (decLoc (.reg .d) (s.fetched 1 1 4))
def execDec_E (s : State) : Host.Outcome State Fault Refusal := .next (decLoc (.reg .e) (s.fetched 1 1 4))
def execDec_H (s : State) : Host.Outcome State Fault Refusal := .next (decLoc (.reg .h) (s.fetched 1 1 4))
def execDec_L (s : State) : Host.Outcome State Fault Refusal := .next (decLoc (.reg .l) (s.fetched 1 1 4))
def execDec_mHL (s : State) : Host.Outcome State Fault Refusal := .next (decLoc (.mem .hl) (s.fetched 1 1 11))
def execDec_A (s : State) : Host.Outcome State Fault Refusal := .next (decLoc (.reg .a) (s.fetched 1 1 4))
def execDec_IXH (s : State) : Host.Outcome State Fault Refusal := .next (decLoc (.reg .ixh) (s.fetched 2 2 8))
def execDec_IXL (s : State) : Host.Outcome State Fault Refusal := .next (decLoc (.reg .ixl) (s.fetched 2 2 8))
def execDec_mIXd (d : Byte) (s : State) : Host.Outcome State Fault Refusal :=
  .next (decLoc (.mem (.idx .ix d)) (s.fetched 3 2 23))
def execDec_IYH (s : State) : Host.Outcome State Fault Refusal := .next (decLoc (.reg .iyh) (s.fetched 2 2 8))
def execDec_IYL (s : State) : Host.Outcome State Fault Refusal := .next (decLoc (.reg .iyl) (s.fetched 2 2 8))
def execDec_mIYd (d : Byte) (s : State) : Host.Outcome State Fault Refusal :=
  .next (decLoc (.mem (.idx .iy d)) (s.fetched 3 2 23))

/-! R273 -/
def execDaa (s : State) : Host.Outcome State Fault Refusal := .next (daa (s.fetched 1 1 4))

/-! R274 -/
def execCpl (s : State) : Host.Outcome State Fault Refusal := .next (cpl (s.fetched 1 1 4))

/-! R275 -/
def execNeg (_y : BitVec 3) (s : State) : Host.Outcome State Fault Refusal := .next (neg (s.fetched 2 2 8))

/-! R276 -/
def execScf (s : State) : Host.Outcome State Fault Refusal := .next (scf (s.fetched 1 1 4))

/-! R277 -/
def execCcf (s : State) : Host.Outcome State Fault Refusal := .next (ccf (s.fetched 1 1 4))

end Sys2Proof.Machine
end

