-- ==== Sys2Proof/Machine/Rotate.lean ====
section
/-! DEFINITION. Rotates, shifts, RLD and RRD (44_rotate_shift_bit.md R320 to R333, R339, R341, R342). -/

namespace Sys2Proof.Machine

/-- RLCA, RRCA, RLA, RRA (R320 to R323). -/
def rotA (op : RotOp) (s : State) : State :=
  let w := rotate op s.a (fC s.f)
  (s.setA w.1).setF (rotAFlags w.1 w.2 s.f)

/-- The CB rotates and shifts on a register or (HL) (R324 to R333). -/
def rot (op : RotOp) (m : Loc) (s : State) : State :=
  let w := rotate op (s.readLoc m) (fC s.f)
  (s.writeLoc m w.1).setF (rotFlags w.1 w.2)

/-- A byte copied to the register of a DDCB or FDCB form, where it names one (30_encoding.md R143). -/
def State.copyTo (s : State) (copy : Option Reg8) (w : Byte) : State :=
  match copy with
  | some r => s.setReg8 r w
  | none => s

/-- The DDCB and FDCB rotates and shifts (R339). -/
def rotIndexed (op : RotOp) (xy : XY) (d : Byte) (copy : Option Reg8) (s : State) : State :=
  let m := Mem8.idx xy d
  let s1 := m.latch s
  let w := rotate op (s1.readMem (m.addr s1)) (fC s1.f)
  ((s1.writeMem (m.addr s1) w.1).copyTo copy w.1).setF (rotFlags w.1 w.2)

/-- `RLD` (R341). -/
def rld (s : State) : State :=
  let t := s.readMem s.hl
  let a := (s.a &&& 0xF0) ||| (t >>> 4)
  (((s.writeMem s.hl ((t <<< 4) ||| (s.a &&& 0x0F))).setA a).setF (digitFlags a s.f)).setWz (s.hl + 1)

/-- `RRD` (R342). -/
def rrd (s : State) : State :=
  let t := s.readMem s.hl
  let a := (s.a &&& 0xF0) ||| (t &&& 0x0F)
  (((s.writeMem s.hl ((s.a <<< 4) ||| (t >>> 4))).setA a).setF (digitFlags a s.f)).setWz (s.hl + 1)

/-! ## The meanings -/

/-! R320 -/
def execRlca (s : State) : Host.Outcome State Fault Refusal := .next (rotA .rlc (s.fetched 1 1 4))

/-! R321 -/
def execRrca (s : State) : Host.Outcome State Fault Refusal := .next (rotA .rrc (s.fetched 1 1 4))

/-! R322 -/
def execRla (s : State) : Host.Outcome State Fault Refusal := .next (rotA .rl (s.fetched 1 1 4))

/-! R323 -/
def execRra (s : State) : Host.Outcome State Fault Refusal := .next (rotA .rr (s.fetched 1 1 4))

/-! R326 -/
def execRlc_B (s : State) : Host.Outcome State Fault Refusal := .next (rot .rlc (.reg .b) (s.fetched 2 2 8))
def execRlc_C (s : State) : Host.Outcome State Fault Refusal := .next (rot .rlc (.reg .c) (s.fetched 2 2 8))
def execRlc_D (s : State) : Host.Outcome State Fault Refusal := .next (rot .rlc (.reg .d) (s.fetched 2 2 8))
def execRlc_E (s : State) : Host.Outcome State Fault Refusal := .next (rot .rlc (.reg .e) (s.fetched 2 2 8))
def execRlc_H (s : State) : Host.Outcome State Fault Refusal := .next (rot .rlc (.reg .h) (s.fetched 2 2 8))
def execRlc_L (s : State) : Host.Outcome State Fault Refusal := .next (rot .rlc (.reg .l) (s.fetched 2 2 8))
def execRlc_mHL (s : State) : Host.Outcome State Fault Refusal := .next (rot .rlc (.mem .hl) (s.fetched 2 2 15))
def execRlc_A (s : State) : Host.Outcome State Fault Refusal := .next (rot .rlc (.reg .a) (s.fetched 2 2 8))

/-! R327 -/
def execRrc_B (s : State) : Host.Outcome State Fault Refusal := .next (rot .rrc (.reg .b) (s.fetched 2 2 8))
def execRrc_C (s : State) : Host.Outcome State Fault Refusal := .next (rot .rrc (.reg .c) (s.fetched 2 2 8))
def execRrc_D (s : State) : Host.Outcome State Fault Refusal := .next (rot .rrc (.reg .d) (s.fetched 2 2 8))
def execRrc_E (s : State) : Host.Outcome State Fault Refusal := .next (rot .rrc (.reg .e) (s.fetched 2 2 8))
def execRrc_H (s : State) : Host.Outcome State Fault Refusal := .next (rot .rrc (.reg .h) (s.fetched 2 2 8))
def execRrc_L (s : State) : Host.Outcome State Fault Refusal := .next (rot .rrc (.reg .l) (s.fetched 2 2 8))
def execRrc_mHL (s : State) : Host.Outcome State Fault Refusal := .next (rot .rrc (.mem .hl) (s.fetched 2 2 15))
def execRrc_A (s : State) : Host.Outcome State Fault Refusal := .next (rot .rrc (.reg .a) (s.fetched 2 2 8))

/-! R328 -/
def execRl_B (s : State) : Host.Outcome State Fault Refusal := .next (rot .rl (.reg .b) (s.fetched 2 2 8))
def execRl_C (s : State) : Host.Outcome State Fault Refusal := .next (rot .rl (.reg .c) (s.fetched 2 2 8))
def execRl_D (s : State) : Host.Outcome State Fault Refusal := .next (rot .rl (.reg .d) (s.fetched 2 2 8))
def execRl_E (s : State) : Host.Outcome State Fault Refusal := .next (rot .rl (.reg .e) (s.fetched 2 2 8))
def execRl_H (s : State) : Host.Outcome State Fault Refusal := .next (rot .rl (.reg .h) (s.fetched 2 2 8))
def execRl_L (s : State) : Host.Outcome State Fault Refusal := .next (rot .rl (.reg .l) (s.fetched 2 2 8))
def execRl_mHL (s : State) : Host.Outcome State Fault Refusal := .next (rot .rl (.mem .hl) (s.fetched 2 2 15))
def execRl_A (s : State) : Host.Outcome State Fault Refusal := .next (rot .rl (.reg .a) (s.fetched 2 2 8))

/-! R329 -/
def execRr_B (s : State) : Host.Outcome State Fault Refusal := .next (rot .rr (.reg .b) (s.fetched 2 2 8))
def execRr_C (s : State) : Host.Outcome State Fault Refusal := .next (rot .rr (.reg .c) (s.fetched 2 2 8))
def execRr_D (s : State) : Host.Outcome State Fault Refusal := .next (rot .rr (.reg .d) (s.fetched 2 2 8))
def execRr_E (s : State) : Host.Outcome State Fault Refusal := .next (rot .rr (.reg .e) (s.fetched 2 2 8))
def execRr_H (s : State) : Host.Outcome State Fault Refusal := .next (rot .rr (.reg .h) (s.fetched 2 2 8))
def execRr_L (s : State) : Host.Outcome State Fault Refusal := .next (rot .rr (.reg .l) (s.fetched 2 2 8))
def execRr_mHL (s : State) : Host.Outcome State Fault Refusal := .next (rot .rr (.mem .hl) (s.fetched 2 2 15))
def execRr_A (s : State) : Host.Outcome State Fault Refusal := .next (rot .rr (.reg .a) (s.fetched 2 2 8))

/-! R330 -/
def execSla_B (s : State) : Host.Outcome State Fault Refusal := .next (rot .sla (.reg .b) (s.fetched 2 2 8))
def execSla_C (s : State) : Host.Outcome State Fault Refusal := .next (rot .sla (.reg .c) (s.fetched 2 2 8))
def execSla_D (s : State) : Host.Outcome State Fault Refusal := .next (rot .sla (.reg .d) (s.fetched 2 2 8))
def execSla_E (s : State) : Host.Outcome State Fault Refusal := .next (rot .sla (.reg .e) (s.fetched 2 2 8))
def execSla_H (s : State) : Host.Outcome State Fault Refusal := .next (rot .sla (.reg .h) (s.fetched 2 2 8))
def execSla_L (s : State) : Host.Outcome State Fault Refusal := .next (rot .sla (.reg .l) (s.fetched 2 2 8))
def execSla_mHL (s : State) : Host.Outcome State Fault Refusal := .next (rot .sla (.mem .hl) (s.fetched 2 2 15))
def execSla_A (s : State) : Host.Outcome State Fault Refusal := .next (rot .sla (.reg .a) (s.fetched 2 2 8))

/-! R331 -/
def execSra_B (s : State) : Host.Outcome State Fault Refusal := .next (rot .sra (.reg .b) (s.fetched 2 2 8))
def execSra_C (s : State) : Host.Outcome State Fault Refusal := .next (rot .sra (.reg .c) (s.fetched 2 2 8))
def execSra_D (s : State) : Host.Outcome State Fault Refusal := .next (rot .sra (.reg .d) (s.fetched 2 2 8))
def execSra_E (s : State) : Host.Outcome State Fault Refusal := .next (rot .sra (.reg .e) (s.fetched 2 2 8))
def execSra_H (s : State) : Host.Outcome State Fault Refusal := .next (rot .sra (.reg .h) (s.fetched 2 2 8))
def execSra_L (s : State) : Host.Outcome State Fault Refusal := .next (rot .sra (.reg .l) (s.fetched 2 2 8))
def execSra_mHL (s : State) : Host.Outcome State Fault Refusal := .next (rot .sra (.mem .hl) (s.fetched 2 2 15))
def execSra_A (s : State) : Host.Outcome State Fault Refusal := .next (rot .sra (.reg .a) (s.fetched 2 2 8))

/-! R332 -/
def execSll_B (s : State) : Host.Outcome State Fault Refusal := .next (rot .sll (.reg .b) (s.fetched 2 2 8))
def execSll_C (s : State) : Host.Outcome State Fault Refusal := .next (rot .sll (.reg .c) (s.fetched 2 2 8))
def execSll_D (s : State) : Host.Outcome State Fault Refusal := .next (rot .sll (.reg .d) (s.fetched 2 2 8))
def execSll_E (s : State) : Host.Outcome State Fault Refusal := .next (rot .sll (.reg .e) (s.fetched 2 2 8))
def execSll_H (s : State) : Host.Outcome State Fault Refusal := .next (rot .sll (.reg .h) (s.fetched 2 2 8))
def execSll_L (s : State) : Host.Outcome State Fault Refusal := .next (rot .sll (.reg .l) (s.fetched 2 2 8))
def execSll_mHL (s : State) : Host.Outcome State Fault Refusal := .next (rot .sll (.mem .hl) (s.fetched 2 2 15))
def execSll_A (s : State) : Host.Outcome State Fault Refusal := .next (rot .sll (.reg .a) (s.fetched 2 2 8))

/-! R333 -/
def execSrl_B (s : State) : Host.Outcome State Fault Refusal := .next (rot .srl (.reg .b) (s.fetched 2 2 8))
def execSrl_C (s : State) : Host.Outcome State Fault Refusal := .next (rot .srl (.reg .c) (s.fetched 2 2 8))
def execSrl_D (s : State) : Host.Outcome State Fault Refusal := .next (rot .srl (.reg .d) (s.fetched 2 2 8))
def execSrl_E (s : State) : Host.Outcome State Fault Refusal := .next (rot .srl (.reg .e) (s.fetched 2 2 8))
def execSrl_H (s : State) : Host.Outcome State Fault Refusal := .next (rot .srl (.reg .h) (s.fetched 2 2 8))
def execSrl_L (s : State) : Host.Outcome State Fault Refusal := .next (rot .srl (.reg .l) (s.fetched 2 2 8))
def execSrl_mHL (s : State) : Host.Outcome State Fault Refusal := .next (rot .srl (.mem .hl) (s.fetched 2 2 15))
def execSrl_A (s : State) : Host.Outcome State Fault Refusal := .next (rot .srl (.reg .a) (s.fetched 2 2 8))

/-! R339 -/
def execRlc_mIXd_B (d : Byte) (s : State) : Host.Outcome State Fault Refusal :=
  .next (rotIndexed .rlc .ix d (some .b) (s.fetched 4 2 23))
def execRlc_mIXd_C (d : Byte) (s : State) : Host.Outcome State Fault Refusal :=
  .next (rotIndexed .rlc .ix d (some .c) (s.fetched 4 2 23))
def execRlc_mIXd_D (d : Byte) (s : State) : Host.Outcome State Fault Refusal :=
  .next (rotIndexed .rlc .ix d (some .d) (s.fetched 4 2 23))
def execRlc_mIXd_E (d : Byte) (s : State) : Host.Outcome State Fault Refusal :=
  .next (rotIndexed .rlc .ix d (some .e) (s.fetched 4 2 23))
def execRlc_mIXd_H (d : Byte) (s : State) : Host.Outcome State Fault Refusal :=
  .next (rotIndexed .rlc .ix d (some .h) (s.fetched 4 2 23))
def execRlc_mIXd_L (d : Byte) (s : State) : Host.Outcome State Fault Refusal :=
  .next (rotIndexed .rlc .ix d (some .l) (s.fetched 4 2 23))
def execRlc_mIXd (d : Byte) (s : State) : Host.Outcome State Fault Refusal :=
  .next (rotIndexed .rlc .ix d none (s.fetched 4 2 23))
def execRlc_mIXd_A (d : Byte) (s : State) : Host.Outcome State Fault Refusal :=
  .next (rotIndexed .rlc .ix d (some .a) (s.fetched 4 2 23))
def execRrc_mIXd_B (d : Byte) (s : State) : Host.Outcome State Fault Refusal :=
  .next (rotIndexed .rrc .ix d (some .b) (s.fetched 4 2 23))
def execRrc_mIXd_C (d : Byte) (s : State) : Host.Outcome State Fault Refusal :=
  .next (rotIndexed .rrc .ix d (some .c) (s.fetched 4 2 23))
def execRrc_mIXd_D (d : Byte) (s : State) : Host.Outcome State Fault Refusal :=
  .next (rotIndexed .rrc .ix d (some .d) (s.fetched 4 2 23))
def execRrc_mIXd_E (d : Byte) (s : State) : Host.Outcome State Fault Refusal :=
  .next (rotIndexed .rrc .ix d (some .e) (s.fetched 4 2 23))
def execRrc_mIXd_H (d : Byte) (s : State) : Host.Outcome State Fault Refusal :=
  .next (rotIndexed .rrc .ix d (some .h) (s.fetched 4 2 23))
def execRrc_mIXd_L (d : Byte) (s : State) : Host.Outcome State Fault Refusal :=
  .next (rotIndexed .rrc .ix d (some .l) (s.fetched 4 2 23))
def execRrc_mIXd (d : Byte) (s : State) : Host.Outcome State Fault Refusal :=
  .next (rotIndexed .rrc .ix d none (s.fetched 4 2 23))
def execRrc_mIXd_A (d : Byte) (s : State) : Host.Outcome State Fault Refusal :=
  .next (rotIndexed .rrc .ix d (some .a) (s.fetched 4 2 23))
def execRl_mIXd_B (d : Byte) (s : State) : Host.Outcome State Fault Refusal :=
  .next (rotIndexed .rl .ix d (some .b) (s.fetched 4 2 23))
def execRl_mIXd_C (d : Byte) (s : State) : Host.Outcome State Fault Refusal :=
  .next (rotIndexed .rl .ix d (some .c) (s.fetched 4 2 23))
def execRl_mIXd_D (d : Byte) (s : State) : Host.Outcome State Fault Refusal :=
  .next (rotIndexed .rl .ix d (some .d) (s.fetched 4 2 23))
def execRl_mIXd_E (d : Byte) (s : State) : Host.Outcome State Fault Refusal :=
  .next (rotIndexed .rl .ix d (some .e) (s.fetched 4 2 23))
def execRl_mIXd_H (d : Byte) (s : State) : Host.Outcome State Fault Refusal :=
  .next (rotIndexed .rl .ix d (some .h) (s.fetched 4 2 23))
def execRl_mIXd_L (d : Byte) (s : State) : Host.Outcome State Fault Refusal :=
  .next (rotIndexed .rl .ix d (some .l) (s.fetched 4 2 23))
def execRl_mIXd (d : Byte) (s : State) : Host.Outcome State Fault Refusal :=
  .next (rotIndexed .rl .ix d none (s.fetched 4 2 23))
def execRl_mIXd_A (d : Byte) (s : State) : Host.Outcome State Fault Refusal :=
  .next (rotIndexed .rl .ix d (some .a) (s.fetched 4 2 23))
def execRr_mIXd_B (d : Byte) (s : State) : Host.Outcome State Fault Refusal :=
  .next (rotIndexed .rr .ix d (some .b) (s.fetched 4 2 23))
def execRr_mIXd_C (d : Byte) (s : State) : Host.Outcome State Fault Refusal :=
  .next (rotIndexed .rr .ix d (some .c) (s.fetched 4 2 23))
def execRr_mIXd_D (d : Byte) (s : State) : Host.Outcome State Fault Refusal :=
  .next (rotIndexed .rr .ix d (some .d) (s.fetched 4 2 23))
def execRr_mIXd_E (d : Byte) (s : State) : Host.Outcome State Fault Refusal :=
  .next (rotIndexed .rr .ix d (some .e) (s.fetched 4 2 23))
def execRr_mIXd_H (d : Byte) (s : State) : Host.Outcome State Fault Refusal :=
  .next (rotIndexed .rr .ix d (some .h) (s.fetched 4 2 23))
def execRr_mIXd_L (d : Byte) (s : State) : Host.Outcome State Fault Refusal :=
  .next (rotIndexed .rr .ix d (some .l) (s.fetched 4 2 23))
def execRr_mIXd (d : Byte) (s : State) : Host.Outcome State Fault Refusal :=
  .next (rotIndexed .rr .ix d none (s.fetched 4 2 23))
def execRr_mIXd_A (d : Byte) (s : State) : Host.Outcome State Fault Refusal :=
  .next (rotIndexed .rr .ix d (some .a) (s.fetched 4 2 23))
def execSla_mIXd_B (d : Byte) (s : State) : Host.Outcome State Fault Refusal :=
  .next (rotIndexed .sla .ix d (some .b) (s.fetched 4 2 23))
def execSla_mIXd_C (d : Byte) (s : State) : Host.Outcome State Fault Refusal :=
  .next (rotIndexed .sla .ix d (some .c) (s.fetched 4 2 23))
def execSla_mIXd_D (d : Byte) (s : State) : Host.Outcome State Fault Refusal :=
  .next (rotIndexed .sla .ix d (some .d) (s.fetched 4 2 23))
def execSla_mIXd_E (d : Byte) (s : State) : Host.Outcome State Fault Refusal :=
  .next (rotIndexed .sla .ix d (some .e) (s.fetched 4 2 23))
def execSla_mIXd_H (d : Byte) (s : State) : Host.Outcome State Fault Refusal :=
  .next (rotIndexed .sla .ix d (some .h) (s.fetched 4 2 23))
def execSla_mIXd_L (d : Byte) (s : State) : Host.Outcome State Fault Refusal :=
  .next (rotIndexed .sla .ix d (some .l) (s.fetched 4 2 23))
def execSla_mIXd (d : Byte) (s : State) : Host.Outcome State Fault Refusal :=
  .next (rotIndexed .sla .ix d none (s.fetched 4 2 23))
def execSla_mIXd_A (d : Byte) (s : State) : Host.Outcome State Fault Refusal :=
  .next (rotIndexed .sla .ix d (some .a) (s.fetched 4 2 23))
def execSra_mIXd_B (d : Byte) (s : State) : Host.Outcome State Fault Refusal :=
  .next (rotIndexed .sra .ix d (some .b) (s.fetched 4 2 23))
def execSra_mIXd_C (d : Byte) (s : State) : Host.Outcome State Fault Refusal :=
  .next (rotIndexed .sra .ix d (some .c) (s.fetched 4 2 23))
def execSra_mIXd_D (d : Byte) (s : State) : Host.Outcome State Fault Refusal :=
  .next (rotIndexed .sra .ix d (some .d) (s.fetched 4 2 23))
def execSra_mIXd_E (d : Byte) (s : State) : Host.Outcome State Fault Refusal :=
  .next (rotIndexed .sra .ix d (some .e) (s.fetched 4 2 23))
def execSra_mIXd_H (d : Byte) (s : State) : Host.Outcome State Fault Refusal :=
  .next (rotIndexed .sra .ix d (some .h) (s.fetched 4 2 23))
def execSra_mIXd_L (d : Byte) (s : State) : Host.Outcome State Fault Refusal :=
  .next (rotIndexed .sra .ix d (some .l) (s.fetched 4 2 23))
def execSra_mIXd (d : Byte) (s : State) : Host.Outcome State Fault Refusal :=
  .next (rotIndexed .sra .ix d none (s.fetched 4 2 23))
def execSra_mIXd_A (d : Byte) (s : State) : Host.Outcome State Fault Refusal :=
  .next (rotIndexed .sra .ix d (some .a) (s.fetched 4 2 23))
def execSll_mIXd_B (d : Byte) (s : State) : Host.Outcome State Fault Refusal :=
  .next (rotIndexed .sll .ix d (some .b) (s.fetched 4 2 23))
def execSll_mIXd_C (d : Byte) (s : State) : Host.Outcome State Fault Refusal :=
  .next (rotIndexed .sll .ix d (some .c) (s.fetched 4 2 23))
def execSll_mIXd_D (d : Byte) (s : State) : Host.Outcome State Fault Refusal :=
  .next (rotIndexed .sll .ix d (some .d) (s.fetched 4 2 23))
def execSll_mIXd_E (d : Byte) (s : State) : Host.Outcome State Fault Refusal :=
  .next (rotIndexed .sll .ix d (some .e) (s.fetched 4 2 23))
def execSll_mIXd_H (d : Byte) (s : State) : Host.Outcome State Fault Refusal :=
  .next (rotIndexed .sll .ix d (some .h) (s.fetched 4 2 23))
def execSll_mIXd_L (d : Byte) (s : State) : Host.Outcome State Fault Refusal :=
  .next (rotIndexed .sll .ix d (some .l) (s.fetched 4 2 23))
def execSll_mIXd (d : Byte) (s : State) : Host.Outcome State Fault Refusal :=
  .next (rotIndexed .sll .ix d none (s.fetched 4 2 23))
def execSll_mIXd_A (d : Byte) (s : State) : Host.Outcome State Fault Refusal :=
  .next (rotIndexed .sll .ix d (some .a) (s.fetched 4 2 23))
def execSrl_mIXd_B (d : Byte) (s : State) : Host.Outcome State Fault Refusal :=
  .next (rotIndexed .srl .ix d (some .b) (s.fetched 4 2 23))
def execSrl_mIXd_C (d : Byte) (s : State) : Host.Outcome State Fault Refusal :=
  .next (rotIndexed .srl .ix d (some .c) (s.fetched 4 2 23))
def execSrl_mIXd_D (d : Byte) (s : State) : Host.Outcome State Fault Refusal :=
  .next (rotIndexed .srl .ix d (some .d) (s.fetched 4 2 23))
def execSrl_mIXd_E (d : Byte) (s : State) : Host.Outcome State Fault Refusal :=
  .next (rotIndexed .srl .ix d (some .e) (s.fetched 4 2 23))
def execSrl_mIXd_H (d : Byte) (s : State) : Host.Outcome State Fault Refusal :=
  .next (rotIndexed .srl .ix d (some .h) (s.fetched 4 2 23))
def execSrl_mIXd_L (d : Byte) (s : State) : Host.Outcome State Fault Refusal :=
  .next (rotIndexed .srl .ix d (some .l) (s.fetched 4 2 23))
def execSrl_mIXd (d : Byte) (s : State) : Host.Outcome State Fault Refusal :=
  .next (rotIndexed .srl .ix d none (s.fetched 4 2 23))
def execSrl_mIXd_A (d : Byte) (s : State) : Host.Outcome State Fault Refusal :=
  .next (rotIndexed .srl .ix d (some .a) (s.fetched 4 2 23))
def execRlc_mIYd_B (d : Byte) (s : State) : Host.Outcome State Fault Refusal :=
  .next (rotIndexed .rlc .iy d (some .b) (s.fetched 4 2 23))
def execRlc_mIYd_C (d : Byte) (s : State) : Host.Outcome State Fault Refusal :=
  .next (rotIndexed .rlc .iy d (some .c) (s.fetched 4 2 23))
def execRlc_mIYd_D (d : Byte) (s : State) : Host.Outcome State Fault Refusal :=
  .next (rotIndexed .rlc .iy d (some .d) (s.fetched 4 2 23))
def execRlc_mIYd_E (d : Byte) (s : State) : Host.Outcome State Fault Refusal :=
  .next (rotIndexed .rlc .iy d (some .e) (s.fetched 4 2 23))
def execRlc_mIYd_H (d : Byte) (s : State) : Host.Outcome State Fault Refusal :=
  .next (rotIndexed .rlc .iy d (some .h) (s.fetched 4 2 23))
def execRlc_mIYd_L (d : Byte) (s : State) : Host.Outcome State Fault Refusal :=
  .next (rotIndexed .rlc .iy d (some .l) (s.fetched 4 2 23))
def execRlc_mIYd (d : Byte) (s : State) : Host.Outcome State Fault Refusal :=
  .next (rotIndexed .rlc .iy d none (s.fetched 4 2 23))
def execRlc_mIYd_A (d : Byte) (s : State) : Host.Outcome State Fault Refusal :=
  .next (rotIndexed .rlc .iy d (some .a) (s.fetched 4 2 23))
def execRrc_mIYd_B (d : Byte) (s : State) : Host.Outcome State Fault Refusal :=
  .next (rotIndexed .rrc .iy d (some .b) (s.fetched 4 2 23))
def execRrc_mIYd_C (d : Byte) (s : State) : Host.Outcome State Fault Refusal :=
  .next (rotIndexed .rrc .iy d (some .c) (s.fetched 4 2 23))
def execRrc_mIYd_D (d : Byte) (s : State) : Host.Outcome State Fault Refusal :=
  .next (rotIndexed .rrc .iy d (some .d) (s.fetched 4 2 23))
def execRrc_mIYd_E (d : Byte) (s : State) : Host.Outcome State Fault Refusal :=
  .next (rotIndexed .rrc .iy d (some .e) (s.fetched 4 2 23))
def execRrc_mIYd_H (d : Byte) (s : State) : Host.Outcome State Fault Refusal :=
  .next (rotIndexed .rrc .iy d (some .h) (s.fetched 4 2 23))
def execRrc_mIYd_L (d : Byte) (s : State) : Host.Outcome State Fault Refusal :=
  .next (rotIndexed .rrc .iy d (some .l) (s.fetched 4 2 23))
def execRrc_mIYd (d : Byte) (s : State) : Host.Outcome State Fault Refusal :=
  .next (rotIndexed .rrc .iy d none (s.fetched 4 2 23))
def execRrc_mIYd_A (d : Byte) (s : State) : Host.Outcome State Fault Refusal :=
  .next (rotIndexed .rrc .iy d (some .a) (s.fetched 4 2 23))
def execRl_mIYd_B (d : Byte) (s : State) : Host.Outcome State Fault Refusal :=
  .next (rotIndexed .rl .iy d (some .b) (s.fetched 4 2 23))
def execRl_mIYd_C (d : Byte) (s : State) : Host.Outcome State Fault Refusal :=
  .next (rotIndexed .rl .iy d (some .c) (s.fetched 4 2 23))
def execRl_mIYd_D (d : Byte) (s : State) : Host.Outcome State Fault Refusal :=
  .next (rotIndexed .rl .iy d (some .d) (s.fetched 4 2 23))
def execRl_mIYd_E (d : Byte) (s : State) : Host.Outcome State Fault Refusal :=
  .next (rotIndexed .rl .iy d (some .e) (s.fetched 4 2 23))
def execRl_mIYd_H (d : Byte) (s : State) : Host.Outcome State Fault Refusal :=
  .next (rotIndexed .rl .iy d (some .h) (s.fetched 4 2 23))
def execRl_mIYd_L (d : Byte) (s : State) : Host.Outcome State Fault Refusal :=
  .next (rotIndexed .rl .iy d (some .l) (s.fetched 4 2 23))
def execRl_mIYd (d : Byte) (s : State) : Host.Outcome State Fault Refusal :=
  .next (rotIndexed .rl .iy d none (s.fetched 4 2 23))
def execRl_mIYd_A (d : Byte) (s : State) : Host.Outcome State Fault Refusal :=
  .next (rotIndexed .rl .iy d (some .a) (s.fetched 4 2 23))
def execRr_mIYd_B (d : Byte) (s : State) : Host.Outcome State Fault Refusal :=
  .next (rotIndexed .rr .iy d (some .b) (s.fetched 4 2 23))
def execRr_mIYd_C (d : Byte) (s : State) : Host.Outcome State Fault Refusal :=
  .next (rotIndexed .rr .iy d (some .c) (s.fetched 4 2 23))
def execRr_mIYd_D (d : Byte) (s : State) : Host.Outcome State Fault Refusal :=
  .next (rotIndexed .rr .iy d (some .d) (s.fetched 4 2 23))
def execRr_mIYd_E (d : Byte) (s : State) : Host.Outcome State Fault Refusal :=
  .next (rotIndexed .rr .iy d (some .e) (s.fetched 4 2 23))
def execRr_mIYd_H (d : Byte) (s : State) : Host.Outcome State Fault Refusal :=
  .next (rotIndexed .rr .iy d (some .h) (s.fetched 4 2 23))
def execRr_mIYd_L (d : Byte) (s : State) : Host.Outcome State Fault Refusal :=
  .next (rotIndexed .rr .iy d (some .l) (s.fetched 4 2 23))
def execRr_mIYd (d : Byte) (s : State) : Host.Outcome State Fault Refusal :=
  .next (rotIndexed .rr .iy d none (s.fetched 4 2 23))
def execRr_mIYd_A (d : Byte) (s : State) : Host.Outcome State Fault Refusal :=
  .next (rotIndexed .rr .iy d (some .a) (s.fetched 4 2 23))
def execSla_mIYd_B (d : Byte) (s : State) : Host.Outcome State Fault Refusal :=
  .next (rotIndexed .sla .iy d (some .b) (s.fetched 4 2 23))
def execSla_mIYd_C (d : Byte) (s : State) : Host.Outcome State Fault Refusal :=
  .next (rotIndexed .sla .iy d (some .c) (s.fetched 4 2 23))
def execSla_mIYd_D (d : Byte) (s : State) : Host.Outcome State Fault Refusal :=
  .next (rotIndexed .sla .iy d (some .d) (s.fetched 4 2 23))
def execSla_mIYd_E (d : Byte) (s : State) : Host.Outcome State Fault Refusal :=
  .next (rotIndexed .sla .iy d (some .e) (s.fetched 4 2 23))
def execSla_mIYd_H (d : Byte) (s : State) : Host.Outcome State Fault Refusal :=
  .next (rotIndexed .sla .iy d (some .h) (s.fetched 4 2 23))
def execSla_mIYd_L (d : Byte) (s : State) : Host.Outcome State Fault Refusal :=
  .next (rotIndexed .sla .iy d (some .l) (s.fetched 4 2 23))
def execSla_mIYd (d : Byte) (s : State) : Host.Outcome State Fault Refusal :=
  .next (rotIndexed .sla .iy d none (s.fetched 4 2 23))
def execSla_mIYd_A (d : Byte) (s : State) : Host.Outcome State Fault Refusal :=
  .next (rotIndexed .sla .iy d (some .a) (s.fetched 4 2 23))
def execSra_mIYd_B (d : Byte) (s : State) : Host.Outcome State Fault Refusal :=
  .next (rotIndexed .sra .iy d (some .b) (s.fetched 4 2 23))
def execSra_mIYd_C (d : Byte) (s : State) : Host.Outcome State Fault Refusal :=
  .next (rotIndexed .sra .iy d (some .c) (s.fetched 4 2 23))
def execSra_mIYd_D (d : Byte) (s : State) : Host.Outcome State Fault Refusal :=
  .next (rotIndexed .sra .iy d (some .d) (s.fetched 4 2 23))
def execSra_mIYd_E (d : Byte) (s : State) : Host.Outcome State Fault Refusal :=
  .next (rotIndexed .sra .iy d (some .e) (s.fetched 4 2 23))
def execSra_mIYd_H (d : Byte) (s : State) : Host.Outcome State Fault Refusal :=
  .next (rotIndexed .sra .iy d (some .h) (s.fetched 4 2 23))
def execSra_mIYd_L (d : Byte) (s : State) : Host.Outcome State Fault Refusal :=
  .next (rotIndexed .sra .iy d (some .l) (s.fetched 4 2 23))
def execSra_mIYd (d : Byte) (s : State) : Host.Outcome State Fault Refusal :=
  .next (rotIndexed .sra .iy d none (s.fetched 4 2 23))
def execSra_mIYd_A (d : Byte) (s : State) : Host.Outcome State Fault Refusal :=
  .next (rotIndexed .sra .iy d (some .a) (s.fetched 4 2 23))
def execSll_mIYd_B (d : Byte) (s : State) : Host.Outcome State Fault Refusal :=
  .next (rotIndexed .sll .iy d (some .b) (s.fetched 4 2 23))
def execSll_mIYd_C (d : Byte) (s : State) : Host.Outcome State Fault Refusal :=
  .next (rotIndexed .sll .iy d (some .c) (s.fetched 4 2 23))
def execSll_mIYd_D (d : Byte) (s : State) : Host.Outcome State Fault Refusal :=
  .next (rotIndexed .sll .iy d (some .d) (s.fetched 4 2 23))
def execSll_mIYd_E (d : Byte) (s : State) : Host.Outcome State Fault Refusal :=
  .next (rotIndexed .sll .iy d (some .e) (s.fetched 4 2 23))
def execSll_mIYd_H (d : Byte) (s : State) : Host.Outcome State Fault Refusal :=
  .next (rotIndexed .sll .iy d (some .h) (s.fetched 4 2 23))
def execSll_mIYd_L (d : Byte) (s : State) : Host.Outcome State Fault Refusal :=
  .next (rotIndexed .sll .iy d (some .l) (s.fetched 4 2 23))
def execSll_mIYd (d : Byte) (s : State) : Host.Outcome State Fault Refusal :=
  .next (rotIndexed .sll .iy d none (s.fetched 4 2 23))
def execSll_mIYd_A (d : Byte) (s : State) : Host.Outcome State Fault Refusal :=
  .next (rotIndexed .sll .iy d (some .a) (s.fetched 4 2 23))
def execSrl_mIYd_B (d : Byte) (s : State) : Host.Outcome State Fault Refusal :=
  .next (rotIndexed .srl .iy d (some .b) (s.fetched 4 2 23))
def execSrl_mIYd_C (d : Byte) (s : State) : Host.Outcome State Fault Refusal :=
  .next (rotIndexed .srl .iy d (some .c) (s.fetched 4 2 23))
def execSrl_mIYd_D (d : Byte) (s : State) : Host.Outcome State Fault Refusal :=
  .next (rotIndexed .srl .iy d (some .d) (s.fetched 4 2 23))
def execSrl_mIYd_E (d : Byte) (s : State) : Host.Outcome State Fault Refusal :=
  .next (rotIndexed .srl .iy d (some .e) (s.fetched 4 2 23))
def execSrl_mIYd_H (d : Byte) (s : State) : Host.Outcome State Fault Refusal :=
  .next (rotIndexed .srl .iy d (some .h) (s.fetched 4 2 23))
def execSrl_mIYd_L (d : Byte) (s : State) : Host.Outcome State Fault Refusal :=
  .next (rotIndexed .srl .iy d (some .l) (s.fetched 4 2 23))
def execSrl_mIYd (d : Byte) (s : State) : Host.Outcome State Fault Refusal :=
  .next (rotIndexed .srl .iy d none (s.fetched 4 2 23))
def execSrl_mIYd_A (d : Byte) (s : State) : Host.Outcome State Fault Refusal :=
  .next (rotIndexed .srl .iy d (some .a) (s.fetched 4 2 23))

/-! R341 -/
def execRld (s : State) : Host.Outcome State Fault Refusal := .next (rld (s.fetched 2 2 18))

/-! R342 -/
def execRrd (s : State) : Host.Outcome State Fault Refusal := .next (rrd (s.fetched 2 2 18))

end Sys2Proof.Machine
end

