-- ==== Sys2Proof/Machine/Bit.lean ====
section
/-! DEFINITION. BIT, RES and SET (44_rotate_shift_bit.md R334 to R338, R340). -/

namespace Sys2Proof.Machine

/-- `BIT b,r`: Y and X from the register (R334). -/
def bitReg (b : BitVec 3) (r : Reg8) (s : State) : State := s.setF (bitFlags b (s.reg8 r) (yx (s.reg8 r)) s.f)

/-- `BIT b,(HL)` and `BIT b,(XY+d)`: Y and X from the high byte of WZ (R335, R336). -/
def bitMem (b : BitVec 3) (m : Mem8) (s : State) : State :=
  let s1 := m.latch s
  s1.setF (bitFlags b (s1.readMem (m.addr s1)) (yx (hi s1.wz)) s1.f)

/-- `v & ~(1 << b)`. -/
def clearBit (b : BitVec 3) (v : Byte) : Byte := v &&& ~~~ (bitMask b)

/-- `v | (1 << b)`. -/
def setBit (b : BitVec 3) (v : Byte) : Byte := v ||| bitMask b

/-- `RES b,m` (R337). -/
def resLoc (b : BitVec 3) (m : Loc) (s : State) : State := s.writeLoc m (clearBit b (s.readLoc m))

/-- `SET b,m` (R338). -/
def setLoc (b : BitVec 3) (m : Loc) (s : State) : State := s.writeLoc m (setBit b (s.readLoc m))

/-- The DDCB and FDCB RES (R340). -/
def resIndexed (b : BitVec 3) (xy : XY) (d : Byte) (copy : Option Reg8) (s : State) : State :=
  let m := Mem8.idx xy d
  let s1 := m.latch s
  let w := clearBit b (s1.readMem (m.addr s1))
  (s1.writeMem (m.addr s1) w).copyTo copy w

/-- The DDCB and FDCB SET (R340). -/
def setIndexed (b : BitVec 3) (xy : XY) (d : Byte) (copy : Option Reg8) (s : State) : State :=
  let m := Mem8.idx xy d
  let s1 := m.latch s
  let w := setBit b (s1.readMem (m.addr s1))
  (s1.writeMem (m.addr s1) w).copyTo copy w

/-! ## The meanings -/

/-! R334 -/
def execBit_0_B (s : State) : Host.Outcome State Fault Refusal := .next (bitReg 0 .b (s.fetched 2 2 8))
def execBit_0_C (s : State) : Host.Outcome State Fault Refusal := .next (bitReg 0 .c (s.fetched 2 2 8))
def execBit_0_D (s : State) : Host.Outcome State Fault Refusal := .next (bitReg 0 .d (s.fetched 2 2 8))
def execBit_0_E (s : State) : Host.Outcome State Fault Refusal := .next (bitReg 0 .e (s.fetched 2 2 8))
def execBit_0_H (s : State) : Host.Outcome State Fault Refusal := .next (bitReg 0 .h (s.fetched 2 2 8))
def execBit_0_L (s : State) : Host.Outcome State Fault Refusal := .next (bitReg 0 .l (s.fetched 2 2 8))
def execBit_0_A (s : State) : Host.Outcome State Fault Refusal := .next (bitReg 0 .a (s.fetched 2 2 8))
def execBit_1_B (s : State) : Host.Outcome State Fault Refusal := .next (bitReg 1 .b (s.fetched 2 2 8))
def execBit_1_C (s : State) : Host.Outcome State Fault Refusal := .next (bitReg 1 .c (s.fetched 2 2 8))
def execBit_1_D (s : State) : Host.Outcome State Fault Refusal := .next (bitReg 1 .d (s.fetched 2 2 8))
def execBit_1_E (s : State) : Host.Outcome State Fault Refusal := .next (bitReg 1 .e (s.fetched 2 2 8))
def execBit_1_H (s : State) : Host.Outcome State Fault Refusal := .next (bitReg 1 .h (s.fetched 2 2 8))
def execBit_1_L (s : State) : Host.Outcome State Fault Refusal := .next (bitReg 1 .l (s.fetched 2 2 8))
def execBit_1_A (s : State) : Host.Outcome State Fault Refusal := .next (bitReg 1 .a (s.fetched 2 2 8))
def execBit_2_B (s : State) : Host.Outcome State Fault Refusal := .next (bitReg 2 .b (s.fetched 2 2 8))
def execBit_2_C (s : State) : Host.Outcome State Fault Refusal := .next (bitReg 2 .c (s.fetched 2 2 8))
def execBit_2_D (s : State) : Host.Outcome State Fault Refusal := .next (bitReg 2 .d (s.fetched 2 2 8))
def execBit_2_E (s : State) : Host.Outcome State Fault Refusal := .next (bitReg 2 .e (s.fetched 2 2 8))
def execBit_2_H (s : State) : Host.Outcome State Fault Refusal := .next (bitReg 2 .h (s.fetched 2 2 8))
def execBit_2_L (s : State) : Host.Outcome State Fault Refusal := .next (bitReg 2 .l (s.fetched 2 2 8))
def execBit_2_A (s : State) : Host.Outcome State Fault Refusal := .next (bitReg 2 .a (s.fetched 2 2 8))
def execBit_3_B (s : State) : Host.Outcome State Fault Refusal := .next (bitReg 3 .b (s.fetched 2 2 8))
def execBit_3_C (s : State) : Host.Outcome State Fault Refusal := .next (bitReg 3 .c (s.fetched 2 2 8))
def execBit_3_D (s : State) : Host.Outcome State Fault Refusal := .next (bitReg 3 .d (s.fetched 2 2 8))
def execBit_3_E (s : State) : Host.Outcome State Fault Refusal := .next (bitReg 3 .e (s.fetched 2 2 8))
def execBit_3_H (s : State) : Host.Outcome State Fault Refusal := .next (bitReg 3 .h (s.fetched 2 2 8))
def execBit_3_L (s : State) : Host.Outcome State Fault Refusal := .next (bitReg 3 .l (s.fetched 2 2 8))
def execBit_3_A (s : State) : Host.Outcome State Fault Refusal := .next (bitReg 3 .a (s.fetched 2 2 8))
def execBit_4_B (s : State) : Host.Outcome State Fault Refusal := .next (bitReg 4 .b (s.fetched 2 2 8))
def execBit_4_C (s : State) : Host.Outcome State Fault Refusal := .next (bitReg 4 .c (s.fetched 2 2 8))
def execBit_4_D (s : State) : Host.Outcome State Fault Refusal := .next (bitReg 4 .d (s.fetched 2 2 8))
def execBit_4_E (s : State) : Host.Outcome State Fault Refusal := .next (bitReg 4 .e (s.fetched 2 2 8))
def execBit_4_H (s : State) : Host.Outcome State Fault Refusal := .next (bitReg 4 .h (s.fetched 2 2 8))
def execBit_4_L (s : State) : Host.Outcome State Fault Refusal := .next (bitReg 4 .l (s.fetched 2 2 8))
def execBit_4_A (s : State) : Host.Outcome State Fault Refusal := .next (bitReg 4 .a (s.fetched 2 2 8))
def execBit_5_B (s : State) : Host.Outcome State Fault Refusal := .next (bitReg 5 .b (s.fetched 2 2 8))
def execBit_5_C (s : State) : Host.Outcome State Fault Refusal := .next (bitReg 5 .c (s.fetched 2 2 8))
def execBit_5_D (s : State) : Host.Outcome State Fault Refusal := .next (bitReg 5 .d (s.fetched 2 2 8))
def execBit_5_E (s : State) : Host.Outcome State Fault Refusal := .next (bitReg 5 .e (s.fetched 2 2 8))
def execBit_5_H (s : State) : Host.Outcome State Fault Refusal := .next (bitReg 5 .h (s.fetched 2 2 8))
def execBit_5_L (s : State) : Host.Outcome State Fault Refusal := .next (bitReg 5 .l (s.fetched 2 2 8))
def execBit_5_A (s : State) : Host.Outcome State Fault Refusal := .next (bitReg 5 .a (s.fetched 2 2 8))
def execBit_6_B (s : State) : Host.Outcome State Fault Refusal := .next (bitReg 6 .b (s.fetched 2 2 8))
def execBit_6_C (s : State) : Host.Outcome State Fault Refusal := .next (bitReg 6 .c (s.fetched 2 2 8))
def execBit_6_D (s : State) : Host.Outcome State Fault Refusal := .next (bitReg 6 .d (s.fetched 2 2 8))
def execBit_6_E (s : State) : Host.Outcome State Fault Refusal := .next (bitReg 6 .e (s.fetched 2 2 8))
def execBit_6_H (s : State) : Host.Outcome State Fault Refusal := .next (bitReg 6 .h (s.fetched 2 2 8))
def execBit_6_L (s : State) : Host.Outcome State Fault Refusal := .next (bitReg 6 .l (s.fetched 2 2 8))
def execBit_6_A (s : State) : Host.Outcome State Fault Refusal := .next (bitReg 6 .a (s.fetched 2 2 8))
def execBit_7_B (s : State) : Host.Outcome State Fault Refusal := .next (bitReg 7 .b (s.fetched 2 2 8))
def execBit_7_C (s : State) : Host.Outcome State Fault Refusal := .next (bitReg 7 .c (s.fetched 2 2 8))
def execBit_7_D (s : State) : Host.Outcome State Fault Refusal := .next (bitReg 7 .d (s.fetched 2 2 8))
def execBit_7_E (s : State) : Host.Outcome State Fault Refusal := .next (bitReg 7 .e (s.fetched 2 2 8))
def execBit_7_H (s : State) : Host.Outcome State Fault Refusal := .next (bitReg 7 .h (s.fetched 2 2 8))
def execBit_7_L (s : State) : Host.Outcome State Fault Refusal := .next (bitReg 7 .l (s.fetched 2 2 8))
def execBit_7_A (s : State) : Host.Outcome State Fault Refusal := .next (bitReg 7 .a (s.fetched 2 2 8))

/-! R335 -/
def execBit_0_mHL (s : State) : Host.Outcome State Fault Refusal := .next (bitMem 0 .hl (s.fetched 2 2 12))
def execBit_1_mHL (s : State) : Host.Outcome State Fault Refusal := .next (bitMem 1 .hl (s.fetched 2 2 12))
def execBit_2_mHL (s : State) : Host.Outcome State Fault Refusal := .next (bitMem 2 .hl (s.fetched 2 2 12))
def execBit_3_mHL (s : State) : Host.Outcome State Fault Refusal := .next (bitMem 3 .hl (s.fetched 2 2 12))
def execBit_4_mHL (s : State) : Host.Outcome State Fault Refusal := .next (bitMem 4 .hl (s.fetched 2 2 12))
def execBit_5_mHL (s : State) : Host.Outcome State Fault Refusal := .next (bitMem 5 .hl (s.fetched 2 2 12))
def execBit_6_mHL (s : State) : Host.Outcome State Fault Refusal := .next (bitMem 6 .hl (s.fetched 2 2 12))
def execBit_7_mHL (s : State) : Host.Outcome State Fault Refusal := .next (bitMem 7 .hl (s.fetched 2 2 12))

/-! R336 -/
def execBit_0_mIXd (_z : BitVec 3) (d : Byte) (s : State) : Host.Outcome State Fault Refusal :=
  .next (bitMem 0 (.idx .ix d) (s.fetched 4 2 20))
def execBit_1_mIXd (_z : BitVec 3) (d : Byte) (s : State) : Host.Outcome State Fault Refusal :=
  .next (bitMem 1 (.idx .ix d) (s.fetched 4 2 20))
def execBit_2_mIXd (_z : BitVec 3) (d : Byte) (s : State) : Host.Outcome State Fault Refusal :=
  .next (bitMem 2 (.idx .ix d) (s.fetched 4 2 20))
def execBit_3_mIXd (_z : BitVec 3) (d : Byte) (s : State) : Host.Outcome State Fault Refusal :=
  .next (bitMem 3 (.idx .ix d) (s.fetched 4 2 20))
def execBit_4_mIXd (_z : BitVec 3) (d : Byte) (s : State) : Host.Outcome State Fault Refusal :=
  .next (bitMem 4 (.idx .ix d) (s.fetched 4 2 20))
def execBit_5_mIXd (_z : BitVec 3) (d : Byte) (s : State) : Host.Outcome State Fault Refusal :=
  .next (bitMem 5 (.idx .ix d) (s.fetched 4 2 20))
def execBit_6_mIXd (_z : BitVec 3) (d : Byte) (s : State) : Host.Outcome State Fault Refusal :=
  .next (bitMem 6 (.idx .ix d) (s.fetched 4 2 20))
def execBit_7_mIXd (_z : BitVec 3) (d : Byte) (s : State) : Host.Outcome State Fault Refusal :=
  .next (bitMem 7 (.idx .ix d) (s.fetched 4 2 20))
def execBit_0_mIYd (_z : BitVec 3) (d : Byte) (s : State) : Host.Outcome State Fault Refusal :=
  .next (bitMem 0 (.idx .iy d) (s.fetched 4 2 20))
def execBit_1_mIYd (_z : BitVec 3) (d : Byte) (s : State) : Host.Outcome State Fault Refusal :=
  .next (bitMem 1 (.idx .iy d) (s.fetched 4 2 20))
def execBit_2_mIYd (_z : BitVec 3) (d : Byte) (s : State) : Host.Outcome State Fault Refusal :=
  .next (bitMem 2 (.idx .iy d) (s.fetched 4 2 20))
def execBit_3_mIYd (_z : BitVec 3) (d : Byte) (s : State) : Host.Outcome State Fault Refusal :=
  .next (bitMem 3 (.idx .iy d) (s.fetched 4 2 20))
def execBit_4_mIYd (_z : BitVec 3) (d : Byte) (s : State) : Host.Outcome State Fault Refusal :=
  .next (bitMem 4 (.idx .iy d) (s.fetched 4 2 20))
def execBit_5_mIYd (_z : BitVec 3) (d : Byte) (s : State) : Host.Outcome State Fault Refusal :=
  .next (bitMem 5 (.idx .iy d) (s.fetched 4 2 20))
def execBit_6_mIYd (_z : BitVec 3) (d : Byte) (s : State) : Host.Outcome State Fault Refusal :=
  .next (bitMem 6 (.idx .iy d) (s.fetched 4 2 20))
def execBit_7_mIYd (_z : BitVec 3) (d : Byte) (s : State) : Host.Outcome State Fault Refusal :=
  .next (bitMem 7 (.idx .iy d) (s.fetched 4 2 20))

/-! R337 -/
def execRes_0_B (s : State) : Host.Outcome State Fault Refusal := .next (resLoc 0 (.reg .b) (s.fetched 2 2 8))
def execRes_0_C (s : State) : Host.Outcome State Fault Refusal := .next (resLoc 0 (.reg .c) (s.fetched 2 2 8))
def execRes_0_D (s : State) : Host.Outcome State Fault Refusal := .next (resLoc 0 (.reg .d) (s.fetched 2 2 8))
def execRes_0_E (s : State) : Host.Outcome State Fault Refusal := .next (resLoc 0 (.reg .e) (s.fetched 2 2 8))
def execRes_0_H (s : State) : Host.Outcome State Fault Refusal := .next (resLoc 0 (.reg .h) (s.fetched 2 2 8))
def execRes_0_L (s : State) : Host.Outcome State Fault Refusal := .next (resLoc 0 (.reg .l) (s.fetched 2 2 8))
def execRes_0_mHL (s : State) : Host.Outcome State Fault Refusal := .next (resLoc 0 (.mem .hl) (s.fetched 2 2 15))
def execRes_0_A (s : State) : Host.Outcome State Fault Refusal := .next (resLoc 0 (.reg .a) (s.fetched 2 2 8))
def execRes_1_B (s : State) : Host.Outcome State Fault Refusal := .next (resLoc 1 (.reg .b) (s.fetched 2 2 8))
def execRes_1_C (s : State) : Host.Outcome State Fault Refusal := .next (resLoc 1 (.reg .c) (s.fetched 2 2 8))
def execRes_1_D (s : State) : Host.Outcome State Fault Refusal := .next (resLoc 1 (.reg .d) (s.fetched 2 2 8))
def execRes_1_E (s : State) : Host.Outcome State Fault Refusal := .next (resLoc 1 (.reg .e) (s.fetched 2 2 8))
def execRes_1_H (s : State) : Host.Outcome State Fault Refusal := .next (resLoc 1 (.reg .h) (s.fetched 2 2 8))
def execRes_1_L (s : State) : Host.Outcome State Fault Refusal := .next (resLoc 1 (.reg .l) (s.fetched 2 2 8))
def execRes_1_mHL (s : State) : Host.Outcome State Fault Refusal := .next (resLoc 1 (.mem .hl) (s.fetched 2 2 15))
def execRes_1_A (s : State) : Host.Outcome State Fault Refusal := .next (resLoc 1 (.reg .a) (s.fetched 2 2 8))
def execRes_2_B (s : State) : Host.Outcome State Fault Refusal := .next (resLoc 2 (.reg .b) (s.fetched 2 2 8))
def execRes_2_C (s : State) : Host.Outcome State Fault Refusal := .next (resLoc 2 (.reg .c) (s.fetched 2 2 8))
def execRes_2_D (s : State) : Host.Outcome State Fault Refusal := .next (resLoc 2 (.reg .d) (s.fetched 2 2 8))
def execRes_2_E (s : State) : Host.Outcome State Fault Refusal := .next (resLoc 2 (.reg .e) (s.fetched 2 2 8))
def execRes_2_H (s : State) : Host.Outcome State Fault Refusal := .next (resLoc 2 (.reg .h) (s.fetched 2 2 8))
def execRes_2_L (s : State) : Host.Outcome State Fault Refusal := .next (resLoc 2 (.reg .l) (s.fetched 2 2 8))
def execRes_2_mHL (s : State) : Host.Outcome State Fault Refusal := .next (resLoc 2 (.mem .hl) (s.fetched 2 2 15))
def execRes_2_A (s : State) : Host.Outcome State Fault Refusal := .next (resLoc 2 (.reg .a) (s.fetched 2 2 8))
def execRes_3_B (s : State) : Host.Outcome State Fault Refusal := .next (resLoc 3 (.reg .b) (s.fetched 2 2 8))
def execRes_3_C (s : State) : Host.Outcome State Fault Refusal := .next (resLoc 3 (.reg .c) (s.fetched 2 2 8))
def execRes_3_D (s : State) : Host.Outcome State Fault Refusal := .next (resLoc 3 (.reg .d) (s.fetched 2 2 8))
def execRes_3_E (s : State) : Host.Outcome State Fault Refusal := .next (resLoc 3 (.reg .e) (s.fetched 2 2 8))
def execRes_3_H (s : State) : Host.Outcome State Fault Refusal := .next (resLoc 3 (.reg .h) (s.fetched 2 2 8))
def execRes_3_L (s : State) : Host.Outcome State Fault Refusal := .next (resLoc 3 (.reg .l) (s.fetched 2 2 8))
def execRes_3_mHL (s : State) : Host.Outcome State Fault Refusal := .next (resLoc 3 (.mem .hl) (s.fetched 2 2 15))
def execRes_3_A (s : State) : Host.Outcome State Fault Refusal := .next (resLoc 3 (.reg .a) (s.fetched 2 2 8))
def execRes_4_B (s : State) : Host.Outcome State Fault Refusal := .next (resLoc 4 (.reg .b) (s.fetched 2 2 8))
def execRes_4_C (s : State) : Host.Outcome State Fault Refusal := .next (resLoc 4 (.reg .c) (s.fetched 2 2 8))
def execRes_4_D (s : State) : Host.Outcome State Fault Refusal := .next (resLoc 4 (.reg .d) (s.fetched 2 2 8))
def execRes_4_E (s : State) : Host.Outcome State Fault Refusal := .next (resLoc 4 (.reg .e) (s.fetched 2 2 8))
def execRes_4_H (s : State) : Host.Outcome State Fault Refusal := .next (resLoc 4 (.reg .h) (s.fetched 2 2 8))
def execRes_4_L (s : State) : Host.Outcome State Fault Refusal := .next (resLoc 4 (.reg .l) (s.fetched 2 2 8))
def execRes_4_mHL (s : State) : Host.Outcome State Fault Refusal := .next (resLoc 4 (.mem .hl) (s.fetched 2 2 15))
def execRes_4_A (s : State) : Host.Outcome State Fault Refusal := .next (resLoc 4 (.reg .a) (s.fetched 2 2 8))
def execRes_5_B (s : State) : Host.Outcome State Fault Refusal := .next (resLoc 5 (.reg .b) (s.fetched 2 2 8))
def execRes_5_C (s : State) : Host.Outcome State Fault Refusal := .next (resLoc 5 (.reg .c) (s.fetched 2 2 8))
def execRes_5_D (s : State) : Host.Outcome State Fault Refusal := .next (resLoc 5 (.reg .d) (s.fetched 2 2 8))
def execRes_5_E (s : State) : Host.Outcome State Fault Refusal := .next (resLoc 5 (.reg .e) (s.fetched 2 2 8))
def execRes_5_H (s : State) : Host.Outcome State Fault Refusal := .next (resLoc 5 (.reg .h) (s.fetched 2 2 8))
def execRes_5_L (s : State) : Host.Outcome State Fault Refusal := .next (resLoc 5 (.reg .l) (s.fetched 2 2 8))
def execRes_5_mHL (s : State) : Host.Outcome State Fault Refusal := .next (resLoc 5 (.mem .hl) (s.fetched 2 2 15))
def execRes_5_A (s : State) : Host.Outcome State Fault Refusal := .next (resLoc 5 (.reg .a) (s.fetched 2 2 8))
def execRes_6_B (s : State) : Host.Outcome State Fault Refusal := .next (resLoc 6 (.reg .b) (s.fetched 2 2 8))
def execRes_6_C (s : State) : Host.Outcome State Fault Refusal := .next (resLoc 6 (.reg .c) (s.fetched 2 2 8))
def execRes_6_D (s : State) : Host.Outcome State Fault Refusal := .next (resLoc 6 (.reg .d) (s.fetched 2 2 8))
def execRes_6_E (s : State) : Host.Outcome State Fault Refusal := .next (resLoc 6 (.reg .e) (s.fetched 2 2 8))
def execRes_6_H (s : State) : Host.Outcome State Fault Refusal := .next (resLoc 6 (.reg .h) (s.fetched 2 2 8))
def execRes_6_L (s : State) : Host.Outcome State Fault Refusal := .next (resLoc 6 (.reg .l) (s.fetched 2 2 8))
def execRes_6_mHL (s : State) : Host.Outcome State Fault Refusal := .next (resLoc 6 (.mem .hl) (s.fetched 2 2 15))
def execRes_6_A (s : State) : Host.Outcome State Fault Refusal := .next (resLoc 6 (.reg .a) (s.fetched 2 2 8))
def execRes_7_B (s : State) : Host.Outcome State Fault Refusal := .next (resLoc 7 (.reg .b) (s.fetched 2 2 8))
def execRes_7_C (s : State) : Host.Outcome State Fault Refusal := .next (resLoc 7 (.reg .c) (s.fetched 2 2 8))
def execRes_7_D (s : State) : Host.Outcome State Fault Refusal := .next (resLoc 7 (.reg .d) (s.fetched 2 2 8))
def execRes_7_E (s : State) : Host.Outcome State Fault Refusal := .next (resLoc 7 (.reg .e) (s.fetched 2 2 8))
def execRes_7_H (s : State) : Host.Outcome State Fault Refusal := .next (resLoc 7 (.reg .h) (s.fetched 2 2 8))
def execRes_7_L (s : State) : Host.Outcome State Fault Refusal := .next (resLoc 7 (.reg .l) (s.fetched 2 2 8))
def execRes_7_mHL (s : State) : Host.Outcome State Fault Refusal := .next (resLoc 7 (.mem .hl) (s.fetched 2 2 15))
def execRes_7_A (s : State) : Host.Outcome State Fault Refusal := .next (resLoc 7 (.reg .a) (s.fetched 2 2 8))

/-! R338 -/
def execSet_0_B (s : State) : Host.Outcome State Fault Refusal := .next (setLoc 0 (.reg .b) (s.fetched 2 2 8))
def execSet_0_C (s : State) : Host.Outcome State Fault Refusal := .next (setLoc 0 (.reg .c) (s.fetched 2 2 8))
def execSet_0_D (s : State) : Host.Outcome State Fault Refusal := .next (setLoc 0 (.reg .d) (s.fetched 2 2 8))
def execSet_0_E (s : State) : Host.Outcome State Fault Refusal := .next (setLoc 0 (.reg .e) (s.fetched 2 2 8))
def execSet_0_H (s : State) : Host.Outcome State Fault Refusal := .next (setLoc 0 (.reg .h) (s.fetched 2 2 8))
def execSet_0_L (s : State) : Host.Outcome State Fault Refusal := .next (setLoc 0 (.reg .l) (s.fetched 2 2 8))
def execSet_0_mHL (s : State) : Host.Outcome State Fault Refusal := .next (setLoc 0 (.mem .hl) (s.fetched 2 2 15))
def execSet_0_A (s : State) : Host.Outcome State Fault Refusal := .next (setLoc 0 (.reg .a) (s.fetched 2 2 8))
def execSet_1_B (s : State) : Host.Outcome State Fault Refusal := .next (setLoc 1 (.reg .b) (s.fetched 2 2 8))
def execSet_1_C (s : State) : Host.Outcome State Fault Refusal := .next (setLoc 1 (.reg .c) (s.fetched 2 2 8))
def execSet_1_D (s : State) : Host.Outcome State Fault Refusal := .next (setLoc 1 (.reg .d) (s.fetched 2 2 8))
def execSet_1_E (s : State) : Host.Outcome State Fault Refusal := .next (setLoc 1 (.reg .e) (s.fetched 2 2 8))
def execSet_1_H (s : State) : Host.Outcome State Fault Refusal := .next (setLoc 1 (.reg .h) (s.fetched 2 2 8))
def execSet_1_L (s : State) : Host.Outcome State Fault Refusal := .next (setLoc 1 (.reg .l) (s.fetched 2 2 8))
def execSet_1_mHL (s : State) : Host.Outcome State Fault Refusal := .next (setLoc 1 (.mem .hl) (s.fetched 2 2 15))
def execSet_1_A (s : State) : Host.Outcome State Fault Refusal := .next (setLoc 1 (.reg .a) (s.fetched 2 2 8))
def execSet_2_B (s : State) : Host.Outcome State Fault Refusal := .next (setLoc 2 (.reg .b) (s.fetched 2 2 8))
def execSet_2_C (s : State) : Host.Outcome State Fault Refusal := .next (setLoc 2 (.reg .c) (s.fetched 2 2 8))
def execSet_2_D (s : State) : Host.Outcome State Fault Refusal := .next (setLoc 2 (.reg .d) (s.fetched 2 2 8))
def execSet_2_E (s : State) : Host.Outcome State Fault Refusal := .next (setLoc 2 (.reg .e) (s.fetched 2 2 8))
def execSet_2_H (s : State) : Host.Outcome State Fault Refusal := .next (setLoc 2 (.reg .h) (s.fetched 2 2 8))
def execSet_2_L (s : State) : Host.Outcome State Fault Refusal := .next (setLoc 2 (.reg .l) (s.fetched 2 2 8))
def execSet_2_mHL (s : State) : Host.Outcome State Fault Refusal := .next (setLoc 2 (.mem .hl) (s.fetched 2 2 15))
def execSet_2_A (s : State) : Host.Outcome State Fault Refusal := .next (setLoc 2 (.reg .a) (s.fetched 2 2 8))
def execSet_3_B (s : State) : Host.Outcome State Fault Refusal := .next (setLoc 3 (.reg .b) (s.fetched 2 2 8))
def execSet_3_C (s : State) : Host.Outcome State Fault Refusal := .next (setLoc 3 (.reg .c) (s.fetched 2 2 8))
def execSet_3_D (s : State) : Host.Outcome State Fault Refusal := .next (setLoc 3 (.reg .d) (s.fetched 2 2 8))
def execSet_3_E (s : State) : Host.Outcome State Fault Refusal := .next (setLoc 3 (.reg .e) (s.fetched 2 2 8))
def execSet_3_H (s : State) : Host.Outcome State Fault Refusal := .next (setLoc 3 (.reg .h) (s.fetched 2 2 8))
def execSet_3_L (s : State) : Host.Outcome State Fault Refusal := .next (setLoc 3 (.reg .l) (s.fetched 2 2 8))
def execSet_3_mHL (s : State) : Host.Outcome State Fault Refusal := .next (setLoc 3 (.mem .hl) (s.fetched 2 2 15))
def execSet_3_A (s : State) : Host.Outcome State Fault Refusal := .next (setLoc 3 (.reg .a) (s.fetched 2 2 8))
def execSet_4_B (s : State) : Host.Outcome State Fault Refusal := .next (setLoc 4 (.reg .b) (s.fetched 2 2 8))
def execSet_4_C (s : State) : Host.Outcome State Fault Refusal := .next (setLoc 4 (.reg .c) (s.fetched 2 2 8))
def execSet_4_D (s : State) : Host.Outcome State Fault Refusal := .next (setLoc 4 (.reg .d) (s.fetched 2 2 8))
def execSet_4_E (s : State) : Host.Outcome State Fault Refusal := .next (setLoc 4 (.reg .e) (s.fetched 2 2 8))
def execSet_4_H (s : State) : Host.Outcome State Fault Refusal := .next (setLoc 4 (.reg .h) (s.fetched 2 2 8))
def execSet_4_L (s : State) : Host.Outcome State Fault Refusal := .next (setLoc 4 (.reg .l) (s.fetched 2 2 8))
def execSet_4_mHL (s : State) : Host.Outcome State Fault Refusal := .next (setLoc 4 (.mem .hl) (s.fetched 2 2 15))
def execSet_4_A (s : State) : Host.Outcome State Fault Refusal := .next (setLoc 4 (.reg .a) (s.fetched 2 2 8))
def execSet_5_B (s : State) : Host.Outcome State Fault Refusal := .next (setLoc 5 (.reg .b) (s.fetched 2 2 8))
def execSet_5_C (s : State) : Host.Outcome State Fault Refusal := .next (setLoc 5 (.reg .c) (s.fetched 2 2 8))
def execSet_5_D (s : State) : Host.Outcome State Fault Refusal := .next (setLoc 5 (.reg .d) (s.fetched 2 2 8))
def execSet_5_E (s : State) : Host.Outcome State Fault Refusal := .next (setLoc 5 (.reg .e) (s.fetched 2 2 8))
def execSet_5_H (s : State) : Host.Outcome State Fault Refusal := .next (setLoc 5 (.reg .h) (s.fetched 2 2 8))
def execSet_5_L (s : State) : Host.Outcome State Fault Refusal := .next (setLoc 5 (.reg .l) (s.fetched 2 2 8))
def execSet_5_mHL (s : State) : Host.Outcome State Fault Refusal := .next (setLoc 5 (.mem .hl) (s.fetched 2 2 15))
def execSet_5_A (s : State) : Host.Outcome State Fault Refusal := .next (setLoc 5 (.reg .a) (s.fetched 2 2 8))
def execSet_6_B (s : State) : Host.Outcome State Fault Refusal := .next (setLoc 6 (.reg .b) (s.fetched 2 2 8))
def execSet_6_C (s : State) : Host.Outcome State Fault Refusal := .next (setLoc 6 (.reg .c) (s.fetched 2 2 8))
def execSet_6_D (s : State) : Host.Outcome State Fault Refusal := .next (setLoc 6 (.reg .d) (s.fetched 2 2 8))
def execSet_6_E (s : State) : Host.Outcome State Fault Refusal := .next (setLoc 6 (.reg .e) (s.fetched 2 2 8))
def execSet_6_H (s : State) : Host.Outcome State Fault Refusal := .next (setLoc 6 (.reg .h) (s.fetched 2 2 8))
def execSet_6_L (s : State) : Host.Outcome State Fault Refusal := .next (setLoc 6 (.reg .l) (s.fetched 2 2 8))
def execSet_6_mHL (s : State) : Host.Outcome State Fault Refusal := .next (setLoc 6 (.mem .hl) (s.fetched 2 2 15))
def execSet_6_A (s : State) : Host.Outcome State Fault Refusal := .next (setLoc 6 (.reg .a) (s.fetched 2 2 8))
def execSet_7_B (s : State) : Host.Outcome State Fault Refusal := .next (setLoc 7 (.reg .b) (s.fetched 2 2 8))
def execSet_7_C (s : State) : Host.Outcome State Fault Refusal := .next (setLoc 7 (.reg .c) (s.fetched 2 2 8))
def execSet_7_D (s : State) : Host.Outcome State Fault Refusal := .next (setLoc 7 (.reg .d) (s.fetched 2 2 8))
def execSet_7_E (s : State) : Host.Outcome State Fault Refusal := .next (setLoc 7 (.reg .e) (s.fetched 2 2 8))
def execSet_7_H (s : State) : Host.Outcome State Fault Refusal := .next (setLoc 7 (.reg .h) (s.fetched 2 2 8))
def execSet_7_L (s : State) : Host.Outcome State Fault Refusal := .next (setLoc 7 (.reg .l) (s.fetched 2 2 8))
def execSet_7_mHL (s : State) : Host.Outcome State Fault Refusal := .next (setLoc 7 (.mem .hl) (s.fetched 2 2 15))
def execSet_7_A (s : State) : Host.Outcome State Fault Refusal := .next (setLoc 7 (.reg .a) (s.fetched 2 2 8))

/-! R340 -/
def execRes_0_mIXd_B (d : Byte) (s : State) : Host.Outcome State Fault Refusal :=
  .next (resIndexed 0 .ix d (some .b) (s.fetched 4 2 23))
def execRes_0_mIXd_C (d : Byte) (s : State) : Host.Outcome State Fault Refusal :=
  .next (resIndexed 0 .ix d (some .c) (s.fetched 4 2 23))
def execRes_0_mIXd_D (d : Byte) (s : State) : Host.Outcome State Fault Refusal :=
  .next (resIndexed 0 .ix d (some .d) (s.fetched 4 2 23))
def execRes_0_mIXd_E (d : Byte) (s : State) : Host.Outcome State Fault Refusal :=
  .next (resIndexed 0 .ix d (some .e) (s.fetched 4 2 23))
def execRes_0_mIXd_H (d : Byte) (s : State) : Host.Outcome State Fault Refusal :=
  .next (resIndexed 0 .ix d (some .h) (s.fetched 4 2 23))
def execRes_0_mIXd_L (d : Byte) (s : State) : Host.Outcome State Fault Refusal :=
  .next (resIndexed 0 .ix d (some .l) (s.fetched 4 2 23))
def execRes_0_mIXd (d : Byte) (s : State) : Host.Outcome State Fault Refusal :=
  .next (resIndexed 0 .ix d none (s.fetched 4 2 23))
def execRes_0_mIXd_A (d : Byte) (s : State) : Host.Outcome State Fault Refusal :=
  .next (resIndexed 0 .ix d (some .a) (s.fetched 4 2 23))
def execRes_1_mIXd_B (d : Byte) (s : State) : Host.Outcome State Fault Refusal :=
  .next (resIndexed 1 .ix d (some .b) (s.fetched 4 2 23))
def execRes_1_mIXd_C (d : Byte) (s : State) : Host.Outcome State Fault Refusal :=
  .next (resIndexed 1 .ix d (some .c) (s.fetched 4 2 23))
def execRes_1_mIXd_D (d : Byte) (s : State) : Host.Outcome State Fault Refusal :=
  .next (resIndexed 1 .ix d (some .d) (s.fetched 4 2 23))
def execRes_1_mIXd_E (d : Byte) (s : State) : Host.Outcome State Fault Refusal :=
  .next (resIndexed 1 .ix d (some .e) (s.fetched 4 2 23))
def execRes_1_mIXd_H (d : Byte) (s : State) : Host.Outcome State Fault Refusal :=
  .next (resIndexed 1 .ix d (some .h) (s.fetched 4 2 23))
def execRes_1_mIXd_L (d : Byte) (s : State) : Host.Outcome State Fault Refusal :=
  .next (resIndexed 1 .ix d (some .l) (s.fetched 4 2 23))
def execRes_1_mIXd (d : Byte) (s : State) : Host.Outcome State Fault Refusal :=
  .next (resIndexed 1 .ix d none (s.fetched 4 2 23))
def execRes_1_mIXd_A (d : Byte) (s : State) : Host.Outcome State Fault Refusal :=
  .next (resIndexed 1 .ix d (some .a) (s.fetched 4 2 23))
def execRes_2_mIXd_B (d : Byte) (s : State) : Host.Outcome State Fault Refusal :=
  .next (resIndexed 2 .ix d (some .b) (s.fetched 4 2 23))
def execRes_2_mIXd_C (d : Byte) (s : State) : Host.Outcome State Fault Refusal :=
  .next (resIndexed 2 .ix d (some .c) (s.fetched 4 2 23))
def execRes_2_mIXd_D (d : Byte) (s : State) : Host.Outcome State Fault Refusal :=
  .next (resIndexed 2 .ix d (some .d) (s.fetched 4 2 23))
def execRes_2_mIXd_E (d : Byte) (s : State) : Host.Outcome State Fault Refusal :=
  .next (resIndexed 2 .ix d (some .e) (s.fetched 4 2 23))
def execRes_2_mIXd_H (d : Byte) (s : State) : Host.Outcome State Fault Refusal :=
  .next (resIndexed 2 .ix d (some .h) (s.fetched 4 2 23))
def execRes_2_mIXd_L (d : Byte) (s : State) : Host.Outcome State Fault Refusal :=
  .next (resIndexed 2 .ix d (some .l) (s.fetched 4 2 23))
def execRes_2_mIXd (d : Byte) (s : State) : Host.Outcome State Fault Refusal :=
  .next (resIndexed 2 .ix d none (s.fetched 4 2 23))
def execRes_2_mIXd_A (d : Byte) (s : State) : Host.Outcome State Fault Refusal :=
  .next (resIndexed 2 .ix d (some .a) (s.fetched 4 2 23))
def execRes_3_mIXd_B (d : Byte) (s : State) : Host.Outcome State Fault Refusal :=
  .next (resIndexed 3 .ix d (some .b) (s.fetched 4 2 23))
def execRes_3_mIXd_C (d : Byte) (s : State) : Host.Outcome State Fault Refusal :=
  .next (resIndexed 3 .ix d (some .c) (s.fetched 4 2 23))
def execRes_3_mIXd_D (d : Byte) (s : State) : Host.Outcome State Fault Refusal :=
  .next (resIndexed 3 .ix d (some .d) (s.fetched 4 2 23))
def execRes_3_mIXd_E (d : Byte) (s : State) : Host.Outcome State Fault Refusal :=
  .next (resIndexed 3 .ix d (some .e) (s.fetched 4 2 23))
def execRes_3_mIXd_H (d : Byte) (s : State) : Host.Outcome State Fault Refusal :=
  .next (resIndexed 3 .ix d (some .h) (s.fetched 4 2 23))
def execRes_3_mIXd_L (d : Byte) (s : State) : Host.Outcome State Fault Refusal :=
  .next (resIndexed 3 .ix d (some .l) (s.fetched 4 2 23))
def execRes_3_mIXd (d : Byte) (s : State) : Host.Outcome State Fault Refusal :=
  .next (resIndexed 3 .ix d none (s.fetched 4 2 23))
def execRes_3_mIXd_A (d : Byte) (s : State) : Host.Outcome State Fault Refusal :=
  .next (resIndexed 3 .ix d (some .a) (s.fetched 4 2 23))
def execRes_4_mIXd_B (d : Byte) (s : State) : Host.Outcome State Fault Refusal :=
  .next (resIndexed 4 .ix d (some .b) (s.fetched 4 2 23))
def execRes_4_mIXd_C (d : Byte) (s : State) : Host.Outcome State Fault Refusal :=
  .next (resIndexed 4 .ix d (some .c) (s.fetched 4 2 23))
def execRes_4_mIXd_D (d : Byte) (s : State) : Host.Outcome State Fault Refusal :=
  .next (resIndexed 4 .ix d (some .d) (s.fetched 4 2 23))
def execRes_4_mIXd_E (d : Byte) (s : State) : Host.Outcome State Fault Refusal :=
  .next (resIndexed 4 .ix d (some .e) (s.fetched 4 2 23))
def execRes_4_mIXd_H (d : Byte) (s : State) : Host.Outcome State Fault Refusal :=
  .next (resIndexed 4 .ix d (some .h) (s.fetched 4 2 23))
def execRes_4_mIXd_L (d : Byte) (s : State) : Host.Outcome State Fault Refusal :=
  .next (resIndexed 4 .ix d (some .l) (s.fetched 4 2 23))
def execRes_4_mIXd (d : Byte) (s : State) : Host.Outcome State Fault Refusal :=
  .next (resIndexed 4 .ix d none (s.fetched 4 2 23))
def execRes_4_mIXd_A (d : Byte) (s : State) : Host.Outcome State Fault Refusal :=
  .next (resIndexed 4 .ix d (some .a) (s.fetched 4 2 23))
def execRes_5_mIXd_B (d : Byte) (s : State) : Host.Outcome State Fault Refusal :=
  .next (resIndexed 5 .ix d (some .b) (s.fetched 4 2 23))
def execRes_5_mIXd_C (d : Byte) (s : State) : Host.Outcome State Fault Refusal :=
  .next (resIndexed 5 .ix d (some .c) (s.fetched 4 2 23))
def execRes_5_mIXd_D (d : Byte) (s : State) : Host.Outcome State Fault Refusal :=
  .next (resIndexed 5 .ix d (some .d) (s.fetched 4 2 23))
def execRes_5_mIXd_E (d : Byte) (s : State) : Host.Outcome State Fault Refusal :=
  .next (resIndexed 5 .ix d (some .e) (s.fetched 4 2 23))
def execRes_5_mIXd_H (d : Byte) (s : State) : Host.Outcome State Fault Refusal :=
  .next (resIndexed 5 .ix d (some .h) (s.fetched 4 2 23))
def execRes_5_mIXd_L (d : Byte) (s : State) : Host.Outcome State Fault Refusal :=
  .next (resIndexed 5 .ix d (some .l) (s.fetched 4 2 23))
def execRes_5_mIXd (d : Byte) (s : State) : Host.Outcome State Fault Refusal :=
  .next (resIndexed 5 .ix d none (s.fetched 4 2 23))
def execRes_5_mIXd_A (d : Byte) (s : State) : Host.Outcome State Fault Refusal :=
  .next (resIndexed 5 .ix d (some .a) (s.fetched 4 2 23))
def execRes_6_mIXd_B (d : Byte) (s : State) : Host.Outcome State Fault Refusal :=
  .next (resIndexed 6 .ix d (some .b) (s.fetched 4 2 23))
def execRes_6_mIXd_C (d : Byte) (s : State) : Host.Outcome State Fault Refusal :=
  .next (resIndexed 6 .ix d (some .c) (s.fetched 4 2 23))
def execRes_6_mIXd_D (d : Byte) (s : State) : Host.Outcome State Fault Refusal :=
  .next (resIndexed 6 .ix d (some .d) (s.fetched 4 2 23))
def execRes_6_mIXd_E (d : Byte) (s : State) : Host.Outcome State Fault Refusal :=
  .next (resIndexed 6 .ix d (some .e) (s.fetched 4 2 23))
def execRes_6_mIXd_H (d : Byte) (s : State) : Host.Outcome State Fault Refusal :=
  .next (resIndexed 6 .ix d (some .h) (s.fetched 4 2 23))
def execRes_6_mIXd_L (d : Byte) (s : State) : Host.Outcome State Fault Refusal :=
  .next (resIndexed 6 .ix d (some .l) (s.fetched 4 2 23))
def execRes_6_mIXd (d : Byte) (s : State) : Host.Outcome State Fault Refusal :=
  .next (resIndexed 6 .ix d none (s.fetched 4 2 23))
def execRes_6_mIXd_A (d : Byte) (s : State) : Host.Outcome State Fault Refusal :=
  .next (resIndexed 6 .ix d (some .a) (s.fetched 4 2 23))
def execRes_7_mIXd_B (d : Byte) (s : State) : Host.Outcome State Fault Refusal :=
  .next (resIndexed 7 .ix d (some .b) (s.fetched 4 2 23))
def execRes_7_mIXd_C (d : Byte) (s : State) : Host.Outcome State Fault Refusal :=
  .next (resIndexed 7 .ix d (some .c) (s.fetched 4 2 23))
def execRes_7_mIXd_D (d : Byte) (s : State) : Host.Outcome State Fault Refusal :=
  .next (resIndexed 7 .ix d (some .d) (s.fetched 4 2 23))
def execRes_7_mIXd_E (d : Byte) (s : State) : Host.Outcome State Fault Refusal :=
  .next (resIndexed 7 .ix d (some .e) (s.fetched 4 2 23))
def execRes_7_mIXd_H (d : Byte) (s : State) : Host.Outcome State Fault Refusal :=
  .next (resIndexed 7 .ix d (some .h) (s.fetched 4 2 23))
def execRes_7_mIXd_L (d : Byte) (s : State) : Host.Outcome State Fault Refusal :=
  .next (resIndexed 7 .ix d (some .l) (s.fetched 4 2 23))
def execRes_7_mIXd (d : Byte) (s : State) : Host.Outcome State Fault Refusal :=
  .next (resIndexed 7 .ix d none (s.fetched 4 2 23))
def execRes_7_mIXd_A (d : Byte) (s : State) : Host.Outcome State Fault Refusal :=
  .next (resIndexed 7 .ix d (some .a) (s.fetched 4 2 23))
def execSet_0_mIXd_B (d : Byte) (s : State) : Host.Outcome State Fault Refusal :=
  .next (setIndexed 0 .ix d (some .b) (s.fetched 4 2 23))
def execSet_0_mIXd_C (d : Byte) (s : State) : Host.Outcome State Fault Refusal :=
  .next (setIndexed 0 .ix d (some .c) (s.fetched 4 2 23))
def execSet_0_mIXd_D (d : Byte) (s : State) : Host.Outcome State Fault Refusal :=
  .next (setIndexed 0 .ix d (some .d) (s.fetched 4 2 23))
def execSet_0_mIXd_E (d : Byte) (s : State) : Host.Outcome State Fault Refusal :=
  .next (setIndexed 0 .ix d (some .e) (s.fetched 4 2 23))
def execSet_0_mIXd_H (d : Byte) (s : State) : Host.Outcome State Fault Refusal :=
  .next (setIndexed 0 .ix d (some .h) (s.fetched 4 2 23))
def execSet_0_mIXd_L (d : Byte) (s : State) : Host.Outcome State Fault Refusal :=
  .next (setIndexed 0 .ix d (some .l) (s.fetched 4 2 23))
def execSet_0_mIXd (d : Byte) (s : State) : Host.Outcome State Fault Refusal :=
  .next (setIndexed 0 .ix d none (s.fetched 4 2 23))
def execSet_0_mIXd_A (d : Byte) (s : State) : Host.Outcome State Fault Refusal :=
  .next (setIndexed 0 .ix d (some .a) (s.fetched 4 2 23))
def execSet_1_mIXd_B (d : Byte) (s : State) : Host.Outcome State Fault Refusal :=
  .next (setIndexed 1 .ix d (some .b) (s.fetched 4 2 23))
def execSet_1_mIXd_C (d : Byte) (s : State) : Host.Outcome State Fault Refusal :=
  .next (setIndexed 1 .ix d (some .c) (s.fetched 4 2 23))
def execSet_1_mIXd_D (d : Byte) (s : State) : Host.Outcome State Fault Refusal :=
  .next (setIndexed 1 .ix d (some .d) (s.fetched 4 2 23))
def execSet_1_mIXd_E (d : Byte) (s : State) : Host.Outcome State Fault Refusal :=
  .next (setIndexed 1 .ix d (some .e) (s.fetched 4 2 23))
def execSet_1_mIXd_H (d : Byte) (s : State) : Host.Outcome State Fault Refusal :=
  .next (setIndexed 1 .ix d (some .h) (s.fetched 4 2 23))
def execSet_1_mIXd_L (d : Byte) (s : State) : Host.Outcome State Fault Refusal :=
  .next (setIndexed 1 .ix d (some .l) (s.fetched 4 2 23))
def execSet_1_mIXd (d : Byte) (s : State) : Host.Outcome State Fault Refusal :=
  .next (setIndexed 1 .ix d none (s.fetched 4 2 23))
def execSet_1_mIXd_A (d : Byte) (s : State) : Host.Outcome State Fault Refusal :=
  .next (setIndexed 1 .ix d (some .a) (s.fetched 4 2 23))
def execSet_2_mIXd_B (d : Byte) (s : State) : Host.Outcome State Fault Refusal :=
  .next (setIndexed 2 .ix d (some .b) (s.fetched 4 2 23))
def execSet_2_mIXd_C (d : Byte) (s : State) : Host.Outcome State Fault Refusal :=
  .next (setIndexed 2 .ix d (some .c) (s.fetched 4 2 23))
def execSet_2_mIXd_D (d : Byte) (s : State) : Host.Outcome State Fault Refusal :=
  .next (setIndexed 2 .ix d (some .d) (s.fetched 4 2 23))
def execSet_2_mIXd_E (d : Byte) (s : State) : Host.Outcome State Fault Refusal :=
  .next (setIndexed 2 .ix d (some .e) (s.fetched 4 2 23))
def execSet_2_mIXd_H (d : Byte) (s : State) : Host.Outcome State Fault Refusal :=
  .next (setIndexed 2 .ix d (some .h) (s.fetched 4 2 23))
def execSet_2_mIXd_L (d : Byte) (s : State) : Host.Outcome State Fault Refusal :=
  .next (setIndexed 2 .ix d (some .l) (s.fetched 4 2 23))
def execSet_2_mIXd (d : Byte) (s : State) : Host.Outcome State Fault Refusal :=
  .next (setIndexed 2 .ix d none (s.fetched 4 2 23))
def execSet_2_mIXd_A (d : Byte) (s : State) : Host.Outcome State Fault Refusal :=
  .next (setIndexed 2 .ix d (some .a) (s.fetched 4 2 23))
def execSet_3_mIXd_B (d : Byte) (s : State) : Host.Outcome State Fault Refusal :=
  .next (setIndexed 3 .ix d (some .b) (s.fetched 4 2 23))
def execSet_3_mIXd_C (d : Byte) (s : State) : Host.Outcome State Fault Refusal :=
  .next (setIndexed 3 .ix d (some .c) (s.fetched 4 2 23))
def execSet_3_mIXd_D (d : Byte) (s : State) : Host.Outcome State Fault Refusal :=
  .next (setIndexed 3 .ix d (some .d) (s.fetched 4 2 23))
def execSet_3_mIXd_E (d : Byte) (s : State) : Host.Outcome State Fault Refusal :=
  .next (setIndexed 3 .ix d (some .e) (s.fetched 4 2 23))
def execSet_3_mIXd_H (d : Byte) (s : State) : Host.Outcome State Fault Refusal :=
  .next (setIndexed 3 .ix d (some .h) (s.fetched 4 2 23))
def execSet_3_mIXd_L (d : Byte) (s : State) : Host.Outcome State Fault Refusal :=
  .next (setIndexed 3 .ix d (some .l) (s.fetched 4 2 23))
def execSet_3_mIXd (d : Byte) (s : State) : Host.Outcome State Fault Refusal :=
  .next (setIndexed 3 .ix d none (s.fetched 4 2 23))
def execSet_3_mIXd_A (d : Byte) (s : State) : Host.Outcome State Fault Refusal :=
  .next (setIndexed 3 .ix d (some .a) (s.fetched 4 2 23))
def execSet_4_mIXd_B (d : Byte) (s : State) : Host.Outcome State Fault Refusal :=
  .next (setIndexed 4 .ix d (some .b) (s.fetched 4 2 23))
def execSet_4_mIXd_C (d : Byte) (s : State) : Host.Outcome State Fault Refusal :=
  .next (setIndexed 4 .ix d (some .c) (s.fetched 4 2 23))
def execSet_4_mIXd_D (d : Byte) (s : State) : Host.Outcome State Fault Refusal :=
  .next (setIndexed 4 .ix d (some .d) (s.fetched 4 2 23))
def execSet_4_mIXd_E (d : Byte) (s : State) : Host.Outcome State Fault Refusal :=
  .next (setIndexed 4 .ix d (some .e) (s.fetched 4 2 23))
def execSet_4_mIXd_H (d : Byte) (s : State) : Host.Outcome State Fault Refusal :=
  .next (setIndexed 4 .ix d (some .h) (s.fetched 4 2 23))
def execSet_4_mIXd_L (d : Byte) (s : State) : Host.Outcome State Fault Refusal :=
  .next (setIndexed 4 .ix d (some .l) (s.fetched 4 2 23))
def execSet_4_mIXd (d : Byte) (s : State) : Host.Outcome State Fault Refusal :=
  .next (setIndexed 4 .ix d none (s.fetched 4 2 23))
def execSet_4_mIXd_A (d : Byte) (s : State) : Host.Outcome State Fault Refusal :=
  .next (setIndexed 4 .ix d (some .a) (s.fetched 4 2 23))
def execSet_5_mIXd_B (d : Byte) (s : State) : Host.Outcome State Fault Refusal :=
  .next (setIndexed 5 .ix d (some .b) (s.fetched 4 2 23))
def execSet_5_mIXd_C (d : Byte) (s : State) : Host.Outcome State Fault Refusal :=
  .next (setIndexed 5 .ix d (some .c) (s.fetched 4 2 23))
def execSet_5_mIXd_D (d : Byte) (s : State) : Host.Outcome State Fault Refusal :=
  .next (setIndexed 5 .ix d (some .d) (s.fetched 4 2 23))
def execSet_5_mIXd_E (d : Byte) (s : State) : Host.Outcome State Fault Refusal :=
  .next (setIndexed 5 .ix d (some .e) (s.fetched 4 2 23))
def execSet_5_mIXd_H (d : Byte) (s : State) : Host.Outcome State Fault Refusal :=
  .next (setIndexed 5 .ix d (some .h) (s.fetched 4 2 23))
def execSet_5_mIXd_L (d : Byte) (s : State) : Host.Outcome State Fault Refusal :=
  .next (setIndexed 5 .ix d (some .l) (s.fetched 4 2 23))
def execSet_5_mIXd (d : Byte) (s : State) : Host.Outcome State Fault Refusal :=
  .next (setIndexed 5 .ix d none (s.fetched 4 2 23))
def execSet_5_mIXd_A (d : Byte) (s : State) : Host.Outcome State Fault Refusal :=
  .next (setIndexed 5 .ix d (some .a) (s.fetched 4 2 23))
def execSet_6_mIXd_B (d : Byte) (s : State) : Host.Outcome State Fault Refusal :=
  .next (setIndexed 6 .ix d (some .b) (s.fetched 4 2 23))
def execSet_6_mIXd_C (d : Byte) (s : State) : Host.Outcome State Fault Refusal :=
  .next (setIndexed 6 .ix d (some .c) (s.fetched 4 2 23))
def execSet_6_mIXd_D (d : Byte) (s : State) : Host.Outcome State Fault Refusal :=
  .next (setIndexed 6 .ix d (some .d) (s.fetched 4 2 23))
def execSet_6_mIXd_E (d : Byte) (s : State) : Host.Outcome State Fault Refusal :=
  .next (setIndexed 6 .ix d (some .e) (s.fetched 4 2 23))
def execSet_6_mIXd_H (d : Byte) (s : State) : Host.Outcome State Fault Refusal :=
  .next (setIndexed 6 .ix d (some .h) (s.fetched 4 2 23))
def execSet_6_mIXd_L (d : Byte) (s : State) : Host.Outcome State Fault Refusal :=
  .next (setIndexed 6 .ix d (some .l) (s.fetched 4 2 23))
def execSet_6_mIXd (d : Byte) (s : State) : Host.Outcome State Fault Refusal :=
  .next (setIndexed 6 .ix d none (s.fetched 4 2 23))
def execSet_6_mIXd_A (d : Byte) (s : State) : Host.Outcome State Fault Refusal :=
  .next (setIndexed 6 .ix d (some .a) (s.fetched 4 2 23))
def execSet_7_mIXd_B (d : Byte) (s : State) : Host.Outcome State Fault Refusal :=
  .next (setIndexed 7 .ix d (some .b) (s.fetched 4 2 23))
def execSet_7_mIXd_C (d : Byte) (s : State) : Host.Outcome State Fault Refusal :=
  .next (setIndexed 7 .ix d (some .c) (s.fetched 4 2 23))
def execSet_7_mIXd_D (d : Byte) (s : State) : Host.Outcome State Fault Refusal :=
  .next (setIndexed 7 .ix d (some .d) (s.fetched 4 2 23))
def execSet_7_mIXd_E (d : Byte) (s : State) : Host.Outcome State Fault Refusal :=
  .next (setIndexed 7 .ix d (some .e) (s.fetched 4 2 23))
def execSet_7_mIXd_H (d : Byte) (s : State) : Host.Outcome State Fault Refusal :=
  .next (setIndexed 7 .ix d (some .h) (s.fetched 4 2 23))
def execSet_7_mIXd_L (d : Byte) (s : State) : Host.Outcome State Fault Refusal :=
  .next (setIndexed 7 .ix d (some .l) (s.fetched 4 2 23))
def execSet_7_mIXd (d : Byte) (s : State) : Host.Outcome State Fault Refusal :=
  .next (setIndexed 7 .ix d none (s.fetched 4 2 23))
def execSet_7_mIXd_A (d : Byte) (s : State) : Host.Outcome State Fault Refusal :=
  .next (setIndexed 7 .ix d (some .a) (s.fetched 4 2 23))
def execRes_0_mIYd_B (d : Byte) (s : State) : Host.Outcome State Fault Refusal :=
  .next (resIndexed 0 .iy d (some .b) (s.fetched 4 2 23))
def execRes_0_mIYd_C (d : Byte) (s : State) : Host.Outcome State Fault Refusal :=
  .next (resIndexed 0 .iy d (some .c) (s.fetched 4 2 23))
def execRes_0_mIYd_D (d : Byte) (s : State) : Host.Outcome State Fault Refusal :=
  .next (resIndexed 0 .iy d (some .d) (s.fetched 4 2 23))
def execRes_0_mIYd_E (d : Byte) (s : State) : Host.Outcome State Fault Refusal :=
  .next (resIndexed 0 .iy d (some .e) (s.fetched 4 2 23))
def execRes_0_mIYd_H (d : Byte) (s : State) : Host.Outcome State Fault Refusal :=
  .next (resIndexed 0 .iy d (some .h) (s.fetched 4 2 23))
def execRes_0_mIYd_L (d : Byte) (s : State) : Host.Outcome State Fault Refusal :=
  .next (resIndexed 0 .iy d (some .l) (s.fetched 4 2 23))
def execRes_0_mIYd (d : Byte) (s : State) : Host.Outcome State Fault Refusal :=
  .next (resIndexed 0 .iy d none (s.fetched 4 2 23))
def execRes_0_mIYd_A (d : Byte) (s : State) : Host.Outcome State Fault Refusal :=
  .next (resIndexed 0 .iy d (some .a) (s.fetched 4 2 23))
def execRes_1_mIYd_B (d : Byte) (s : State) : Host.Outcome State Fault Refusal :=
  .next (resIndexed 1 .iy d (some .b) (s.fetched 4 2 23))
def execRes_1_mIYd_C (d : Byte) (s : State) : Host.Outcome State Fault Refusal :=
  .next (resIndexed 1 .iy d (some .c) (s.fetched 4 2 23))
def execRes_1_mIYd_D (d : Byte) (s : State) : Host.Outcome State Fault Refusal :=
  .next (resIndexed 1 .iy d (some .d) (s.fetched 4 2 23))
def execRes_1_mIYd_E (d : Byte) (s : State) : Host.Outcome State Fault Refusal :=
  .next (resIndexed 1 .iy d (some .e) (s.fetched 4 2 23))
def execRes_1_mIYd_H (d : Byte) (s : State) : Host.Outcome State Fault Refusal :=
  .next (resIndexed 1 .iy d (some .h) (s.fetched 4 2 23))
def execRes_1_mIYd_L (d : Byte) (s : State) : Host.Outcome State Fault Refusal :=
  .next (resIndexed 1 .iy d (some .l) (s.fetched 4 2 23))
def execRes_1_mIYd (d : Byte) (s : State) : Host.Outcome State Fault Refusal :=
  .next (resIndexed 1 .iy d none (s.fetched 4 2 23))
def execRes_1_mIYd_A (d : Byte) (s : State) : Host.Outcome State Fault Refusal :=
  .next (resIndexed 1 .iy d (some .a) (s.fetched 4 2 23))
def execRes_2_mIYd_B (d : Byte) (s : State) : Host.Outcome State Fault Refusal :=
  .next (resIndexed 2 .iy d (some .b) (s.fetched 4 2 23))
def execRes_2_mIYd_C (d : Byte) (s : State) : Host.Outcome State Fault Refusal :=
  .next (resIndexed 2 .iy d (some .c) (s.fetched 4 2 23))
def execRes_2_mIYd_D (d : Byte) (s : State) : Host.Outcome State Fault Refusal :=
  .next (resIndexed 2 .iy d (some .d) (s.fetched 4 2 23))
def execRes_2_mIYd_E (d : Byte) (s : State) : Host.Outcome State Fault Refusal :=
  .next (resIndexed 2 .iy d (some .e) (s.fetched 4 2 23))
def execRes_2_mIYd_H (d : Byte) (s : State) : Host.Outcome State Fault Refusal :=
  .next (resIndexed 2 .iy d (some .h) (s.fetched 4 2 23))
def execRes_2_mIYd_L (d : Byte) (s : State) : Host.Outcome State Fault Refusal :=
  .next (resIndexed 2 .iy d (some .l) (s.fetched 4 2 23))
def execRes_2_mIYd (d : Byte) (s : State) : Host.Outcome State Fault Refusal :=
  .next (resIndexed 2 .iy d none (s.fetched 4 2 23))
def execRes_2_mIYd_A (d : Byte) (s : State) : Host.Outcome State Fault Refusal :=
  .next (resIndexed 2 .iy d (some .a) (s.fetched 4 2 23))
def execRes_3_mIYd_B (d : Byte) (s : State) : Host.Outcome State Fault Refusal :=
  .next (resIndexed 3 .iy d (some .b) (s.fetched 4 2 23))
def execRes_3_mIYd_C (d : Byte) (s : State) : Host.Outcome State Fault Refusal :=
  .next (resIndexed 3 .iy d (some .c) (s.fetched 4 2 23))
def execRes_3_mIYd_D (d : Byte) (s : State) : Host.Outcome State Fault Refusal :=
  .next (resIndexed 3 .iy d (some .d) (s.fetched 4 2 23))
def execRes_3_mIYd_E (d : Byte) (s : State) : Host.Outcome State Fault Refusal :=
  .next (resIndexed 3 .iy d (some .e) (s.fetched 4 2 23))
def execRes_3_mIYd_H (d : Byte) (s : State) : Host.Outcome State Fault Refusal :=
  .next (resIndexed 3 .iy d (some .h) (s.fetched 4 2 23))
def execRes_3_mIYd_L (d : Byte) (s : State) : Host.Outcome State Fault Refusal :=
  .next (resIndexed 3 .iy d (some .l) (s.fetched 4 2 23))
def execRes_3_mIYd (d : Byte) (s : State) : Host.Outcome State Fault Refusal :=
  .next (resIndexed 3 .iy d none (s.fetched 4 2 23))
def execRes_3_mIYd_A (d : Byte) (s : State) : Host.Outcome State Fault Refusal :=
  .next (resIndexed 3 .iy d (some .a) (s.fetched 4 2 23))
def execRes_4_mIYd_B (d : Byte) (s : State) : Host.Outcome State Fault Refusal :=
  .next (resIndexed 4 .iy d (some .b) (s.fetched 4 2 23))
def execRes_4_mIYd_C (d : Byte) (s : State) : Host.Outcome State Fault Refusal :=
  .next (resIndexed 4 .iy d (some .c) (s.fetched 4 2 23))
def execRes_4_mIYd_D (d : Byte) (s : State) : Host.Outcome State Fault Refusal :=
  .next (resIndexed 4 .iy d (some .d) (s.fetched 4 2 23))
def execRes_4_mIYd_E (d : Byte) (s : State) : Host.Outcome State Fault Refusal :=
  .next (resIndexed 4 .iy d (some .e) (s.fetched 4 2 23))
def execRes_4_mIYd_H (d : Byte) (s : State) : Host.Outcome State Fault Refusal :=
  .next (resIndexed 4 .iy d (some .h) (s.fetched 4 2 23))
def execRes_4_mIYd_L (d : Byte) (s : State) : Host.Outcome State Fault Refusal :=
  .next (resIndexed 4 .iy d (some .l) (s.fetched 4 2 23))
def execRes_4_mIYd (d : Byte) (s : State) : Host.Outcome State Fault Refusal :=
  .next (resIndexed 4 .iy d none (s.fetched 4 2 23))
def execRes_4_mIYd_A (d : Byte) (s : State) : Host.Outcome State Fault Refusal :=
  .next (resIndexed 4 .iy d (some .a) (s.fetched 4 2 23))
def execRes_5_mIYd_B (d : Byte) (s : State) : Host.Outcome State Fault Refusal :=
  .next (resIndexed 5 .iy d (some .b) (s.fetched 4 2 23))
def execRes_5_mIYd_C (d : Byte) (s : State) : Host.Outcome State Fault Refusal :=
  .next (resIndexed 5 .iy d (some .c) (s.fetched 4 2 23))
def execRes_5_mIYd_D (d : Byte) (s : State) : Host.Outcome State Fault Refusal :=
  .next (resIndexed 5 .iy d (some .d) (s.fetched 4 2 23))
def execRes_5_mIYd_E (d : Byte) (s : State) : Host.Outcome State Fault Refusal :=
  .next (resIndexed 5 .iy d (some .e) (s.fetched 4 2 23))
def execRes_5_mIYd_H (d : Byte) (s : State) : Host.Outcome State Fault Refusal :=
  .next (resIndexed 5 .iy d (some .h) (s.fetched 4 2 23))
def execRes_5_mIYd_L (d : Byte) (s : State) : Host.Outcome State Fault Refusal :=
  .next (resIndexed 5 .iy d (some .l) (s.fetched 4 2 23))
def execRes_5_mIYd (d : Byte) (s : State) : Host.Outcome State Fault Refusal :=
  .next (resIndexed 5 .iy d none (s.fetched 4 2 23))
def execRes_5_mIYd_A (d : Byte) (s : State) : Host.Outcome State Fault Refusal :=
  .next (resIndexed 5 .iy d (some .a) (s.fetched 4 2 23))
def execRes_6_mIYd_B (d : Byte) (s : State) : Host.Outcome State Fault Refusal :=
  .next (resIndexed 6 .iy d (some .b) (s.fetched 4 2 23))
def execRes_6_mIYd_C (d : Byte) (s : State) : Host.Outcome State Fault Refusal :=
  .next (resIndexed 6 .iy d (some .c) (s.fetched 4 2 23))
def execRes_6_mIYd_D (d : Byte) (s : State) : Host.Outcome State Fault Refusal :=
  .next (resIndexed 6 .iy d (some .d) (s.fetched 4 2 23))
def execRes_6_mIYd_E (d : Byte) (s : State) : Host.Outcome State Fault Refusal :=
  .next (resIndexed 6 .iy d (some .e) (s.fetched 4 2 23))
def execRes_6_mIYd_H (d : Byte) (s : State) : Host.Outcome State Fault Refusal :=
  .next (resIndexed 6 .iy d (some .h) (s.fetched 4 2 23))
def execRes_6_mIYd_L (d : Byte) (s : State) : Host.Outcome State Fault Refusal :=
  .next (resIndexed 6 .iy d (some .l) (s.fetched 4 2 23))
def execRes_6_mIYd (d : Byte) (s : State) : Host.Outcome State Fault Refusal :=
  .next (resIndexed 6 .iy d none (s.fetched 4 2 23))
def execRes_6_mIYd_A (d : Byte) (s : State) : Host.Outcome State Fault Refusal :=
  .next (resIndexed 6 .iy d (some .a) (s.fetched 4 2 23))
def execRes_7_mIYd_B (d : Byte) (s : State) : Host.Outcome State Fault Refusal :=
  .next (resIndexed 7 .iy d (some .b) (s.fetched 4 2 23))
def execRes_7_mIYd_C (d : Byte) (s : State) : Host.Outcome State Fault Refusal :=
  .next (resIndexed 7 .iy d (some .c) (s.fetched 4 2 23))
def execRes_7_mIYd_D (d : Byte) (s : State) : Host.Outcome State Fault Refusal :=
  .next (resIndexed 7 .iy d (some .d) (s.fetched 4 2 23))
def execRes_7_mIYd_E (d : Byte) (s : State) : Host.Outcome State Fault Refusal :=
  .next (resIndexed 7 .iy d (some .e) (s.fetched 4 2 23))
def execRes_7_mIYd_H (d : Byte) (s : State) : Host.Outcome State Fault Refusal :=
  .next (resIndexed 7 .iy d (some .h) (s.fetched 4 2 23))
def execRes_7_mIYd_L (d : Byte) (s : State) : Host.Outcome State Fault Refusal :=
  .next (resIndexed 7 .iy d (some .l) (s.fetched 4 2 23))
def execRes_7_mIYd (d : Byte) (s : State) : Host.Outcome State Fault Refusal :=
  .next (resIndexed 7 .iy d none (s.fetched 4 2 23))
def execRes_7_mIYd_A (d : Byte) (s : State) : Host.Outcome State Fault Refusal :=
  .next (resIndexed 7 .iy d (some .a) (s.fetched 4 2 23))
def execSet_0_mIYd_B (d : Byte) (s : State) : Host.Outcome State Fault Refusal :=
  .next (setIndexed 0 .iy d (some .b) (s.fetched 4 2 23))
def execSet_0_mIYd_C (d : Byte) (s : State) : Host.Outcome State Fault Refusal :=
  .next (setIndexed 0 .iy d (some .c) (s.fetched 4 2 23))
def execSet_0_mIYd_D (d : Byte) (s : State) : Host.Outcome State Fault Refusal :=
  .next (setIndexed 0 .iy d (some .d) (s.fetched 4 2 23))
def execSet_0_mIYd_E (d : Byte) (s : State) : Host.Outcome State Fault Refusal :=
  .next (setIndexed 0 .iy d (some .e) (s.fetched 4 2 23))
def execSet_0_mIYd_H (d : Byte) (s : State) : Host.Outcome State Fault Refusal :=
  .next (setIndexed 0 .iy d (some .h) (s.fetched 4 2 23))
def execSet_0_mIYd_L (d : Byte) (s : State) : Host.Outcome State Fault Refusal :=
  .next (setIndexed 0 .iy d (some .l) (s.fetched 4 2 23))
def execSet_0_mIYd (d : Byte) (s : State) : Host.Outcome State Fault Refusal :=
  .next (setIndexed 0 .iy d none (s.fetched 4 2 23))
def execSet_0_mIYd_A (d : Byte) (s : State) : Host.Outcome State Fault Refusal :=
  .next (setIndexed 0 .iy d (some .a) (s.fetched 4 2 23))
def execSet_1_mIYd_B (d : Byte) (s : State) : Host.Outcome State Fault Refusal :=
  .next (setIndexed 1 .iy d (some .b) (s.fetched 4 2 23))
def execSet_1_mIYd_C (d : Byte) (s : State) : Host.Outcome State Fault Refusal :=
  .next (setIndexed 1 .iy d (some .c) (s.fetched 4 2 23))
def execSet_1_mIYd_D (d : Byte) (s : State) : Host.Outcome State Fault Refusal :=
  .next (setIndexed 1 .iy d (some .d) (s.fetched 4 2 23))
def execSet_1_mIYd_E (d : Byte) (s : State) : Host.Outcome State Fault Refusal :=
  .next (setIndexed 1 .iy d (some .e) (s.fetched 4 2 23))
def execSet_1_mIYd_H (d : Byte) (s : State) : Host.Outcome State Fault Refusal :=
  .next (setIndexed 1 .iy d (some .h) (s.fetched 4 2 23))
def execSet_1_mIYd_L (d : Byte) (s : State) : Host.Outcome State Fault Refusal :=
  .next (setIndexed 1 .iy d (some .l) (s.fetched 4 2 23))
def execSet_1_mIYd (d : Byte) (s : State) : Host.Outcome State Fault Refusal :=
  .next (setIndexed 1 .iy d none (s.fetched 4 2 23))
def execSet_1_mIYd_A (d : Byte) (s : State) : Host.Outcome State Fault Refusal :=
  .next (setIndexed 1 .iy d (some .a) (s.fetched 4 2 23))
def execSet_2_mIYd_B (d : Byte) (s : State) : Host.Outcome State Fault Refusal :=
  .next (setIndexed 2 .iy d (some .b) (s.fetched 4 2 23))
def execSet_2_mIYd_C (d : Byte) (s : State) : Host.Outcome State Fault Refusal :=
  .next (setIndexed 2 .iy d (some .c) (s.fetched 4 2 23))
def execSet_2_mIYd_D (d : Byte) (s : State) : Host.Outcome State Fault Refusal :=
  .next (setIndexed 2 .iy d (some .d) (s.fetched 4 2 23))
def execSet_2_mIYd_E (d : Byte) (s : State) : Host.Outcome State Fault Refusal :=
  .next (setIndexed 2 .iy d (some .e) (s.fetched 4 2 23))
def execSet_2_mIYd_H (d : Byte) (s : State) : Host.Outcome State Fault Refusal :=
  .next (setIndexed 2 .iy d (some .h) (s.fetched 4 2 23))
def execSet_2_mIYd_L (d : Byte) (s : State) : Host.Outcome State Fault Refusal :=
  .next (setIndexed 2 .iy d (some .l) (s.fetched 4 2 23))
def execSet_2_mIYd (d : Byte) (s : State) : Host.Outcome State Fault Refusal :=
  .next (setIndexed 2 .iy d none (s.fetched 4 2 23))
def execSet_2_mIYd_A (d : Byte) (s : State) : Host.Outcome State Fault Refusal :=
  .next (setIndexed 2 .iy d (some .a) (s.fetched 4 2 23))
def execSet_3_mIYd_B (d : Byte) (s : State) : Host.Outcome State Fault Refusal :=
  .next (setIndexed 3 .iy d (some .b) (s.fetched 4 2 23))
def execSet_3_mIYd_C (d : Byte) (s : State) : Host.Outcome State Fault Refusal :=
  .next (setIndexed 3 .iy d (some .c) (s.fetched 4 2 23))
def execSet_3_mIYd_D (d : Byte) (s : State) : Host.Outcome State Fault Refusal :=
  .next (setIndexed 3 .iy d (some .d) (s.fetched 4 2 23))
def execSet_3_mIYd_E (d : Byte) (s : State) : Host.Outcome State Fault Refusal :=
  .next (setIndexed 3 .iy d (some .e) (s.fetched 4 2 23))
def execSet_3_mIYd_H (d : Byte) (s : State) : Host.Outcome State Fault Refusal :=
  .next (setIndexed 3 .iy d (some .h) (s.fetched 4 2 23))
def execSet_3_mIYd_L (d : Byte) (s : State) : Host.Outcome State Fault Refusal :=
  .next (setIndexed 3 .iy d (some .l) (s.fetched 4 2 23))
def execSet_3_mIYd (d : Byte) (s : State) : Host.Outcome State Fault Refusal :=
  .next (setIndexed 3 .iy d none (s.fetched 4 2 23))
def execSet_3_mIYd_A (d : Byte) (s : State) : Host.Outcome State Fault Refusal :=
  .next (setIndexed 3 .iy d (some .a) (s.fetched 4 2 23))
def execSet_4_mIYd_B (d : Byte) (s : State) : Host.Outcome State Fault Refusal :=
  .next (setIndexed 4 .iy d (some .b) (s.fetched 4 2 23))
def execSet_4_mIYd_C (d : Byte) (s : State) : Host.Outcome State Fault Refusal :=
  .next (setIndexed 4 .iy d (some .c) (s.fetched 4 2 23))
def execSet_4_mIYd_D (d : Byte) (s : State) : Host.Outcome State Fault Refusal :=
  .next (setIndexed 4 .iy d (some .d) (s.fetched 4 2 23))
def execSet_4_mIYd_E (d : Byte) (s : State) : Host.Outcome State Fault Refusal :=
  .next (setIndexed 4 .iy d (some .e) (s.fetched 4 2 23))
def execSet_4_mIYd_H (d : Byte) (s : State) : Host.Outcome State Fault Refusal :=
  .next (setIndexed 4 .iy d (some .h) (s.fetched 4 2 23))
def execSet_4_mIYd_L (d : Byte) (s : State) : Host.Outcome State Fault Refusal :=
  .next (setIndexed 4 .iy d (some .l) (s.fetched 4 2 23))
def execSet_4_mIYd (d : Byte) (s : State) : Host.Outcome State Fault Refusal :=
  .next (setIndexed 4 .iy d none (s.fetched 4 2 23))
def execSet_4_mIYd_A (d : Byte) (s : State) : Host.Outcome State Fault Refusal :=
  .next (setIndexed 4 .iy d (some .a) (s.fetched 4 2 23))
def execSet_5_mIYd_B (d : Byte) (s : State) : Host.Outcome State Fault Refusal :=
  .next (setIndexed 5 .iy d (some .b) (s.fetched 4 2 23))
def execSet_5_mIYd_C (d : Byte) (s : State) : Host.Outcome State Fault Refusal :=
  .next (setIndexed 5 .iy d (some .c) (s.fetched 4 2 23))
def execSet_5_mIYd_D (d : Byte) (s : State) : Host.Outcome State Fault Refusal :=
  .next (setIndexed 5 .iy d (some .d) (s.fetched 4 2 23))
def execSet_5_mIYd_E (d : Byte) (s : State) : Host.Outcome State Fault Refusal :=
  .next (setIndexed 5 .iy d (some .e) (s.fetched 4 2 23))
def execSet_5_mIYd_H (d : Byte) (s : State) : Host.Outcome State Fault Refusal :=
  .next (setIndexed 5 .iy d (some .h) (s.fetched 4 2 23))
def execSet_5_mIYd_L (d : Byte) (s : State) : Host.Outcome State Fault Refusal :=
  .next (setIndexed 5 .iy d (some .l) (s.fetched 4 2 23))
def execSet_5_mIYd (d : Byte) (s : State) : Host.Outcome State Fault Refusal :=
  .next (setIndexed 5 .iy d none (s.fetched 4 2 23))
def execSet_5_mIYd_A (d : Byte) (s : State) : Host.Outcome State Fault Refusal :=
  .next (setIndexed 5 .iy d (some .a) (s.fetched 4 2 23))
def execSet_6_mIYd_B (d : Byte) (s : State) : Host.Outcome State Fault Refusal :=
  .next (setIndexed 6 .iy d (some .b) (s.fetched 4 2 23))
def execSet_6_mIYd_C (d : Byte) (s : State) : Host.Outcome State Fault Refusal :=
  .next (setIndexed 6 .iy d (some .c) (s.fetched 4 2 23))
def execSet_6_mIYd_D (d : Byte) (s : State) : Host.Outcome State Fault Refusal :=
  .next (setIndexed 6 .iy d (some .d) (s.fetched 4 2 23))
def execSet_6_mIYd_E (d : Byte) (s : State) : Host.Outcome State Fault Refusal :=
  .next (setIndexed 6 .iy d (some .e) (s.fetched 4 2 23))
def execSet_6_mIYd_H (d : Byte) (s : State) : Host.Outcome State Fault Refusal :=
  .next (setIndexed 6 .iy d (some .h) (s.fetched 4 2 23))
def execSet_6_mIYd_L (d : Byte) (s : State) : Host.Outcome State Fault Refusal :=
  .next (setIndexed 6 .iy d (some .l) (s.fetched 4 2 23))
def execSet_6_mIYd (d : Byte) (s : State) : Host.Outcome State Fault Refusal :=
  .next (setIndexed 6 .iy d none (s.fetched 4 2 23))
def execSet_6_mIYd_A (d : Byte) (s : State) : Host.Outcome State Fault Refusal :=
  .next (setIndexed 6 .iy d (some .a) (s.fetched 4 2 23))
def execSet_7_mIYd_B (d : Byte) (s : State) : Host.Outcome State Fault Refusal :=
  .next (setIndexed 7 .iy d (some .b) (s.fetched 4 2 23))
def execSet_7_mIYd_C (d : Byte) (s : State) : Host.Outcome State Fault Refusal :=
  .next (setIndexed 7 .iy d (some .c) (s.fetched 4 2 23))
def execSet_7_mIYd_D (d : Byte) (s : State) : Host.Outcome State Fault Refusal :=
  .next (setIndexed 7 .iy d (some .d) (s.fetched 4 2 23))
def execSet_7_mIYd_E (d : Byte) (s : State) : Host.Outcome State Fault Refusal :=
  .next (setIndexed 7 .iy d (some .e) (s.fetched 4 2 23))
def execSet_7_mIYd_H (d : Byte) (s : State) : Host.Outcome State Fault Refusal :=
  .next (setIndexed 7 .iy d (some .h) (s.fetched 4 2 23))
def execSet_7_mIYd_L (d : Byte) (s : State) : Host.Outcome State Fault Refusal :=
  .next (setIndexed 7 .iy d (some .l) (s.fetched 4 2 23))
def execSet_7_mIYd (d : Byte) (s : State) : Host.Outcome State Fault Refusal :=
  .next (setIndexed 7 .iy d none (s.fetched 4 2 23))
def execSet_7_mIYd_A (d : Byte) (s : State) : Host.Outcome State Fault Refusal :=
  .next (setIndexed 7 .iy d (some .a) (s.fetched 4 2 23))

end Sys2Proof.Machine
end

