-- ==== Sys2Proof/Machine/Storage.lean ====
section
/-!
DEFINITION. The storage backend behind the SD device (60_exceptions.md R575): a finite map from names to bytes with the
operations the rule names, answering as the parameter `policy` says. A refused operation leaves the store unchanged.
-/

namespace Sys2Proof

/-- Whether the backend answers an error to an operation it could do (R575): as the policy lists it, else freely. -/
def StoragePolicy.refuses (p : StoragePolicy) (files : FileStore) (op : StorageOp) : Bool :=
  match p.answers.find? (fun e => decide (e.1 = files ∧ e.2.1 = op)) with
  | some (_, _, refused) => refused
  | none => Config.freeRefuses files op

/-- The order in which the backend lists a store (R575): as the policy lists it, else freely. -/
def StoragePolicy.order (p : StoragePolicy) (files : FileStore) : List FileName :=
  match p.orders.find? (fun e => decide (e.1 = files)) with
  | some (_, names) => names
  | none => Config.freeOrder files

namespace Machine

/-- The mode a handle has by the operation that opened it (R565, R568). -/
def Opening.mode : Opening → FileMode
  | .read => .read
  | .readWrite => .readWrite
  | .writeTrunc | .append => .write

/-- The bytes of a file. -/
def FileStore.find? : FileStore → FileName → Option (List Byte)
  | [], _ => none
  | (n, bs) :: rest, name => if n = name then some bs else FileStore.find? rest name

/-- Whether a name is in the store. -/
def FileStore.has (files : FileStore) (name : FileName) : Bool := (FileStore.find? files name).isSome

/-- The bytes of a file; none where there is no such file. -/
def FileStore.bytes (files : FileStore) (name : FileName) : List Byte := (FileStore.find? files name).getD []

/-- A file's bytes replaced in place; a new name comes last (log entry 7). -/
def FileStore.put : FileStore → FileName → List Byte → FileStore
  | [], name, bs => [(name, bs)]
  | (n, old) :: rest, name, bs => if n = name then (n, bs) :: rest else (n, old) :: FileStore.put rest name bs

/-- The names of a store, in its order. -/
def FileStore.names (files : FileStore) : List FileName := files.map Prod.fst

/-- `open_read`: whether it succeeds; a missing name is an error (R565, decision D30). -/
def Storage.openRead (p : StoragePolicy) (files : FileStore) (name : FileName) : Bool :=
  FileStore.has files name && !p.refuses files (.openRead name)

/-- `open_read_write`, "no truncate": whether it succeeds (R565). -/
def Storage.openReadWrite (p : StoragePolicy) (files : FileStore) (name : FileName) : Bool :=
  FileStore.has files name && !p.refuses files (.openReadWrite name)

/-- `open_write_trunc`: the store with the file empty, or an error (R568). -/
def Storage.openWriteTrunc (p : StoragePolicy) (files : FileStore) (name : FileName) : Option FileStore :=
  if p.refuses files (.openWriteTrunc name) then none else some (FileStore.put files name [])

/-- `open_append`: the store, with a missing file created empty, or an error (R568). -/
def Storage.openAppend (p : StoragePolicy) (files : FileStore) (name : FileName) : Option FileStore :=
  if p.refuses files (.openAppend name) then none
  else some (if FileStore.has files name then files else FileStore.put files name [])

/-- `read_byte` at a position: none is end of file (R575). -/
def Storage.readByte (files : FileStore) (h : Handle) (position : Nat) : Option Byte :=
  (FileStore.bytes files h.name)[position]?

/-- `write_byte` at a position: overwrites inside the file, extends it by one byte at its end (R567); none is a failed
write, which a position past the end is too (no step reaches one). -/
def Storage.writeByte (p : StoragePolicy) (files : FileStore) (h : Handle) (position : Nat) (v : Byte) :
    Option FileStore :=
  let bs := FileStore.bytes files h.name
  if p.refuses files (.writeByte h position v) then none
  else if position < bs.length then some (FileStore.put files h.name (bs.set position v))
  else if position = bs.length then some (FileStore.put files h.name (bs ++ [v]))
  else none

/-- `seek` from a position: whether it succeeds; beyond the file's length it is an error (R569, decision D30). -/
def Storage.seek (p : StoragePolicy) (files : FileStore) (h : Handle) (position offset : Nat) : Bool :=
  decide (offset ≤ (FileStore.bytes files h.name).length) && !p.refuses files (.seek h position offset)

/-- `list()`: each name once, in the backend's iteration order (R571, R575, decision D48); an order that is none of the
store's names is not taken (log entry 7). -/
def Storage.list (p : StoragePolicy) (files : FileStore) : List FileName :=
  if (p.order files).isPerm (FileStore.names files) then p.order files else FileStore.names files

end Machine
end Sys2Proof
end

