-- ==== Sys2Proof/Machine/Sd.lean ====
section
/-! DEFINITION. The SD device C6 (60_exceptions.md R560 to R573): what a read or a write of each of its ports does. -/

namespace Sys2Proof

/-- The byte value of a command: `SD_CMD_CODE` (R564). -/
def SdCodes.code (c : SdCodes) : SdCommand → Byte
  | .openRead => c.openRead
  | .create => c.create
  | .openAppend => c.openAppend
  | .seekToStart => c.seekToStart
  | .close => c.close
  | .listDirectory => c.listDirectory
  | .openReadWrite => c.openReadWrite
  | .seekToByte => c.seekToByte

/-- The command a byte selects: the inverse of `SD_CMD_CODE`; none is no command's code (R564). -/
def SdCodes.command? (c : SdCodes) (v : Byte) : Option SdCommand :=
  if v = c.openRead then some .openRead
  else if v = c.create then some .create
  else if v = c.openAppend then some .openAppend
  else if v = c.seekToStart then some .seekToStart
  else if v = c.close then some .close
  else if v = c.listDirectory then some .listDirectory
  else if v = c.openReadWrite then some .openReadWrite
  else if v = c.seekToByte then some .seekToByte
  else none

namespace Machine

/-- The SD device of a state replaced. -/
def State.setSd (s : State) (d : Sd) : State := { s with sd := d }

/-- SD FNAME write (R561): the filename buffer keeps at most `FNAME_CAP - 1` bytes. -/
def Sd.pushName (cap : Nat) (d : Sd) (v : Byte) : Sd :=
  if v = 0 then { d with fnameFinal := true }
  else
    let name := if d.fnameFinal then [] else d.fname
    { d with fname := if name.length < cap - 1 then name ++ [v] else name, fnameFinal := false }

/-- The 16-bit seek position (R562). -/
def Sd.seekPosition (d : Sd) : Nat := (pair d.seekHi d.seekLo).toNat

/-- Whether a mode can be read (R563, R566). -/
def FileMode.readable : FileMode → Bool
  | .read => true
  | .readWrite => true
  | .write => false

/-- Whether a mode can be written (R567). -/
def FileMode.writable : FileMode → Bool
  | .read => false
  | .readWrite => true
  | .write => true

/-- `Avail()` (R563). -/
def State.sdAvail (s : State) : Bool :=
  (match s.sd.file with
   | some h => h.mode.readable && decide (h.position < (FileStore.bytes s.files h.name).length)
   | none => false) ||
  (match s.sd.dir with
   | some bs => !bs.isEmpty
   | none => false)

/-- `1 << k` within a byte, for a bit position of R9. -/
def bitAt (k : Fin 8) : Byte := 1#8 <<< k.val

/-- SD STATUS read (R563, R573): READY always, ERROR, AVAIL, every other bit 0. -/
def State.sdStatus (s : State) : Byte :=
  bitAt s.params.sd.readyBit ||| bitIf s.sd.error (bitAt s.params.sd.errorBit) |||
    bitIf s.sdAvail (bitAt s.params.sd.availBit)

/-- SD DATA read (R566): the byte and the state after it. -/
def State.sdDataRead (s : State) : Byte × State :=
  match s.sd.file with
  | some h =>
    match (if h.mode.readable then Storage.readByte s.files h.handle h.position else none) with
    | some b => (b, s.setSd { s.sd with file := some { h with position := h.position + 1 } })
    | none => (0x00, s.setSd { s.sd with file := none })
  | none =>
    match s.sd.dir with
    | some (b :: rest) => (b, s.setSd { s.sd with dir := if rest.isEmpty then none else some rest })
    | some [] => (0x00, s.setSd { s.sd with dir := none })
    | none => (0x00, s)

/-- SD DATA write (R567): dropped unless a file is open for writing; a failed backend write changes nothing
(decision D33; log entry 8). -/
def State.sdDataWrite (s : State) (v : Byte) : State :=
  match s.sd.file with
  | some h =>
    if h.mode.writable then
      match Storage.writeByte s.params.policy s.files h.handle h.position v with
      | some files => { s with files := files, sd := { s.sd with file := some { h with position := h.position + 1 } } }
      | none => s
    else s
  | none => s

/-- Both handles closed (R564, R570). -/
def Sd.closeBoth (d : Sd) : Sd := { d with file := none, dir := none }

/-- An open, by its operation, with the store and the position it leaves: on success the file is open and ERROR clear, else nothing is open and ERROR set
(R565, R568, R572). -/
def State.sdOpened (s : State) (opening : Opening) (answer : Option (FileStore × Nat)) : State :=
  match answer with
  | some (files, position) =>
    { s with
      files := files
      sd := { s.sd.closeBoth with
        file := some { handle := { name := s.sd.fname, opening := opening, store := s.files }
                       mode := Opening.mode opening, position := position }
        error := false } }
  | none => s.setSd { s.sd.closeBoth with error := true }

/-- open-for-read and open-for-read-write (R565). -/
def State.sdOpenRead (s : State) : State :=
  s.sdOpened .read (if Storage.openRead s.params.policy s.files s.sd.fname then some (s.files, 0) else none)

def State.sdOpenReadWrite (s : State) : State :=
  s.sdOpened .readWrite (if Storage.openReadWrite s.params.policy s.files s.sd.fname then some (s.files, 0) else none)

/-- create (R568). -/
def State.sdCreate (s : State) : State :=
  s.sdOpened .writeTrunc ((Storage.openWriteTrunc s.params.policy s.files s.sd.fname).map (fun files => (files, 0)))

/-- open-for-append: the position is the file's length (R568). -/
def State.sdOpenAppend (s : State) : State :=
  s.sdOpened .append ((Storage.openAppend s.params.policy s.files s.sd.fname).map
    (fun files => (files, (FileStore.bytes files s.sd.fname).length)))

/-- seek-to-start and seek-to-byte (R569): a failed seek closes the file; with no file open it only sets ERROR. -/
def State.sdSeek (s : State) (offset : Nat) : State :=
  match s.sd.file with
  | some h =>
    if Storage.seek s.params.policy s.files h.handle h.position offset then
      s.setSd { s.sd with file := some { h with position := offset }, error := false }
    else s.setSd { s.sd with file := none, error := true }
  | none => s.setSd { s.sd with error := true }

/-- The bytes of a listing: each name but "." and "..", followed by CR LF (R571). -/
def sdListing (names : List FileName) : List Byte :=
  ((names.filter (fun n => !(n == [0x2E] || n == [0x2E, 0x2E]))).map (fun n => n ++ [0x0D, 0x0A])).flatten

/-- list-directory (R571): an empty listing opens nothing. -/
def State.sdListDirectory (s : State) : State :=
  let bytes := sdListing (Storage.list s.params.policy s.files)
  s.setSd { s.sd.closeBoth with dir := if bytes.isEmpty then none else some bytes, error := false }

/-- SD CMD write (R564): a byte that is no command's code is ignored. -/
def State.sdCommand (s : State) (v : Byte) : State :=
  match s.params.sd.codes.command? v with
  | some .openRead => s.sdOpenRead
  | some .create => s.sdCreate
  | some .openAppend => s.sdOpenAppend
  | some .seekToStart => s.sdSeek 0
  | some .close => s.setSd s.sd.closeBoth
  | some .listDirectory => s.sdListDirectory
  | some .openReadWrite => s.sdOpenReadWrite
  | some .seekToByte => s.sdSeek s.sd.seekPosition
  | none => s

end Machine
end Sys2Proof
end

