-- ==== Sys2Proof/Machine/Uart.lean ====
section
/-! DEFINITION. The ACIA C4 and the USART C5 with the queue and the sink they share (60_exceptions.md R545 to R556). -/

namespace Sys2Proof.Machine

/-- Whether the input queue holds a byte. -/
def State.queued (s : State) : Bool := !s.queue.isEmpty

/-- The head of the input queue consumed; 0 where it is empty (R546, R551, R555). -/
def State.takeQueued (s : State) : Byte × State :=
  match s.queue with
  | b :: rest => (b, { s with queue := rest })
  | [] => (0, s)

/-- A byte appended to the output sink (R556). -/
def State.emit (s : State) (v : Byte) : State := { s with sink := s.sink ++ [v] }

/-- Any access to the USART sets the latch (R554). -/
def State.touchUsart (s : State) : State := { s with uses8251 := true }

/-- ACIA STATUS (R545): TDRE bit 1 always, RDRF bit 0 while a byte is queued. -/
def State.aciaStatus (s : State) : Byte := 0x02 ||| bitIf s.queued 0x01

/-- USART STATUS (R550): TxRDY, TxE and DSR always, RxRDY bit 1 while a byte is queued. -/
def State.usartStatus (s : State) : Byte := 0x85 ||| bitIf s.queued 0x02

/-- ASCII lower case to upper case, every other byte unchanged (R551). -/
def upperCase (b : Byte) : Byte := if 0x61 ≤ b.toNat ∧ b.toNat ≤ 0x7A then b - 0x20 else b

/-- ACIA CTRL write (R547): an opaque latch. -/
def State.setAciaCtrl (s : State) (v : Byte) : State := { s with aciaCtrl := v }

/-- USART DATA read (R551, R554). -/
def State.usartRead (s : State) : Byte × State :=
  let r := s.touchUsart.takeQueued
  (upperCase r.1, r.2)

end Sys2Proof.Machine
end

