-- ==== Sys2Proof/Machine/Bus.lean ====
section
/-! DEFINITION. The bus C8: the port map of 60_exceptions.md R540, on bits 7..0 of the port address. -/

namespace Sys2Proof.Machine

/-- What a port number reaches (R540). -/
inductive Port where
  | usartData | usartStatus
  | sdCommand | sdStatus | sdData | sdName | sdSeekLo | sdSeekHi
  | aciaStatus | aciaData
  | unowned
  deriving DecidableEq, Repr

/-- The port map (R540, R542): every port address with the same low byte reaches the same port (R100). -/
def portOf (p : Word) : Port :=
  match (lo p).toNat with
  | 0x00 => .usartData
  | 0x01 => .usartStatus
  | 0x10 => .sdCommand
  | 0x11 => .sdStatus
  | 0x12 => .sdData
  | 0x13 => .sdName
  | 0x14 => .sdSeekLo
  | 0x15 => .sdSeekHi
  | 0x80 => .aciaStatus
  | 0x81 => .aciaData
  | _ => .unowned

/-- `PortIn(p)`: the byte and the state after the read (R540; the SD ports that are only written and the unowned ports
read 0xFF, R541, R543). -/
def State.portIn (s : State) (p : Word) : Byte × State :=
  match portOf p with
  | .usartData => s.usartRead
  | .usartStatus => (s.usartStatus, s.touchUsart)
  | .sdStatus => (s.sdStatus, s)
  | .sdData => s.sdDataRead
  | .aciaStatus => (s.aciaStatus, s)
  | .aciaData => s.takeQueued
  | .sdCommand | .sdName | .sdSeekLo | .sdSeekHi | .unowned => (0xFF, s)

/-- `PortOut(p, v)` (R540; a write of SD STATUS and of an unowned port is dropped, R541, R544; a write of USART CTRL only
sets the latch, R553). -/
def State.portOut (s : State) (p : Word) (v : Byte) : State :=
  match portOf p with
  | .usartData => s.touchUsart.emit v
  | .usartStatus => s.touchUsart
  | .sdCommand => s.sdCommand v
  | .sdData => s.sdDataWrite v
  | .sdName => s.setSd (Sd.pushName s.params.sd.fnameCap s.sd v)
  | .sdSeekLo => s.setSd { s.sd with seekLo := v }
  | .sdSeekHi => s.setSd { s.sd with seekHi := v }
  | .aciaStatus => s.setAciaCtrl v
  | .aciaData => s.emit v
  | .sdStatus | .unowned => s

end Sys2Proof.Machine
end

