-- ==== Sys2Proof/Machine/Block.lean ====
section
/-! DEFINITION. The block instructions (46_block.md): one iteration per step. -/

namespace Sys2Proof.Machine

/-- The I forms step up, the D forms down. -/
inductive Dir where
  | up | down
  deriving DecidableEq, Repr

/-- `inc`: +1 or -1. -/
def Dir.delta : Dir → Word
  | .up => 1
  | .down => -1

/-- `inc` within a byte. -/
def Dir.delta8 : Dir → Byte
  | .up => 1
  | .down => -1

/-- LDI and LDD (R402, R403). -/
def blockLoad (dir : Dir) (s : State) : State :=
  let t := s.readMem s.hl
  let bc := s.bc - 1
  let s1 := s.writeMem s.de t
  (((s1.setHl (s.hl + dir.delta)).setDe (s.de + dir.delta)).setBc bc).setF (blockLoadFlags s.a t bc s.f)

/-- CPI and CPD (R406, R407). -/
def blockCompare (dir : Dir) (s : State) : State :=
  let t := s.readMem s.hl
  let bc := s.bc - 1
  (((s.setHl (s.hl + dir.delta)).setBc bc).setWz (s.wz + dir.delta)).setF (blockCompareFlags s.a t bc s.f)

/-- INI and IND: the port address uses B before the decrement (R410, R411). -/
def blockIn (dir : Dir) (s : State) : State :=
  let t := (s.portIn s.portBC).1
  let b := s.main.b - 1
  let s1 := (s.portIn s.portBC).2.setWz (s.bc + dir.delta)
  let s2 := s1.writeMem s.hl t
  ((s2.setB b).setHl (s.hl + dir.delta)).setF (blockIoFlags b t (t.toNat + (s.main.c + dir.delta8).toNat))

/-- OUTI and OUTD: the port address and WZ use B after the decrement (R414, R415). -/
def blockOut (dir : Dir) (s : State) : State :=
  let t := s.readMem s.hl
  let b := s.main.b - 1
  let s1 := s.setB b
  let s2 := (s1.portOut s1.portBC t).setWz (s1.bc + dir.delta)
  (s2.setHl (s.hl + dir.delta)).setF (blockIoFlags b t (t.toNat + (lo (s.hl + dir.delta)).toNat))

/-- The repeat of a block instruction: PC back to its ED byte and 5 more T-states (R400). -/
def State.repeatBlock (s : State) : State := (s.setPc (s.pc - 2)).addCyc 5

/-- The repeat of LDIR, LDDR, CPIR, CPDR, which also writes WZ (R404, R405, R408, R409). -/
def State.repeatBlockWz (s : State) : State := s.repeatBlock.setWz (s.pc - 2 + 1)

/-- LDIR and LDDR: repeat while BC is not 0 (R401, R404, R405). -/
def blockLoadRepeat (dir : Dir) (s : State) : State :=
  let s1 := blockLoad dir s
  if s1.bc = 0 then s1 else s1.repeatBlockWz

/-- CPIR and CPDR: repeat while BC is not 0 and the byte compared differs from A (R401, R408, R409). -/
def blockCompareRepeat (dir : Dir) (s : State) : State :=
  let s1 := blockCompare dir s
  if s1.bc = 0 ∨ s.a = s.readMem s.hl then s1 else s1.repeatBlockWz

/-- INIR and INDR: repeat while B is not 0 (R401, R412, R413). -/
def blockInRepeat (dir : Dir) (s : State) : State :=
  let s1 := blockIn dir s
  if s1.main.b = 0 then s1 else s1.repeatBlock

/-- OTIR and OTDR: repeat while B is not 0 (R401, R416, R417). -/
def blockOutRepeat (dir : Dir) (s : State) : State :=
  let s1 := blockOut dir s
  if s1.main.b = 0 then s1 else s1.repeatBlock

/-! ## The meanings -/

/-! R402 -/
def execLdi (s : State) : Host.Outcome State Fault Refusal := .next (blockLoad .up (s.fetched 2 2 16))

/-! R403 -/
def execLdd (s : State) : Host.Outcome State Fault Refusal := .next (blockLoad .down (s.fetched 2 2 16))

/-! R404 -/
def execLdir (s : State) : Host.Outcome State Fault Refusal := .next (blockLoadRepeat .up (s.fetched 2 2 16))

/-! R405 -/
def execLddr (s : State) : Host.Outcome State Fault Refusal := .next (blockLoadRepeat .down (s.fetched 2 2 16))

/-! R406 -/
def execCpi (s : State) : Host.Outcome State Fault Refusal := .next (blockCompare .up (s.fetched 2 2 16))

/-! R407 -/
def execCpd (s : State) : Host.Outcome State Fault Refusal := .next (blockCompare .down (s.fetched 2 2 16))

/-! R408 -/
def execCpir (s : State) : Host.Outcome State Fault Refusal := .next (blockCompareRepeat .up (s.fetched 2 2 16))

/-! R409 -/
def execCpdr (s : State) : Host.Outcome State Fault Refusal := .next (blockCompareRepeat .down (s.fetched 2 2 16))

/-! R410 -/
def execIni (s : State) : Host.Outcome State Fault Refusal := .next (blockIn .up (s.fetched 2 2 16))

/-! R411 -/
def execInd (s : State) : Host.Outcome State Fault Refusal := .next (blockIn .down (s.fetched 2 2 16))

/-! R412 -/
def execInir (s : State) : Host.Outcome State Fault Refusal := .next (blockInRepeat .up (s.fetched 2 2 16))

/-! R413 -/
def execIndr (s : State) : Host.Outcome State Fault Refusal := .next (blockInRepeat .down (s.fetched 2 2 16))

/-! R414 -/
def execOuti (s : State) : Host.Outcome State Fault Refusal := .next (blockOut .up (s.fetched 2 2 16))

/-! R415 -/
def execOutd (s : State) : Host.Outcome State Fault Refusal := .next (blockOut .down (s.fetched 2 2 16))

/-! R416 -/
def execOtir (s : State) : Host.Outcome State Fault Refusal := .next (blockOutRepeat .up (s.fetched 2 2 16))

/-! R417 -/
def execOtdr (s : State) : Host.Outcome State Fault Refusal := .next (blockOutRepeat .down (s.fetched 2 2 16))

end Sys2Proof.Machine
end

