-- ==== Sys2Proof/Machine/Control.lean ====
section
/-!
DEFINITION. Jumps, calls, returns and restarts (45_control.md). The fetch has moved PC past the instruction and counted
the T-states of the form that is not taken; a form taken adds the rest.
-/

namespace Sys2Proof.Machine

/-- `JP nn` (R360). -/
def jp (nn : Word) (s : State) : State := (s.setWz nn).setPc nn

/-- `JP cc,nn`: WZ is written taken or not (R361). -/
def jpIf (cc : Cond) (nn : Word) (s : State) : State :=
  if cc.holds s.f then (s.setWz nn).setPc nn else s.setWz nn

/-- `JP (HL)`, `JP (XY)`: no memory is read, WZ is not written (R362, R363). -/
def jpReg (r : Reg16) (s : State) : State := s.setPc (s.reg16 r)

/-- `JR e` (R364). -/
def jr (e : Byte) (s : State) : State := (s.setPc (s.pc + sext8 e)).setWz (s.pc + sext8 e)

/-- `JR cc,e` (R365). -/
def jrIf (cc : Cond) (e : Byte) (s : State) : State := if cc.holds s.f then (jr e s).addCyc 5 else s

/-- `DJNZ e` (R366). -/
def djnz (e : Byte) (s : State) : State :=
  let s1 := s.setB (s.main.b - 1)
  if s.main.b - 1 = 0 then s1 else (jr e s1).addCyc 5

/-- `CALL nn` (R367). -/
def call (nn : Word) (s : State) : State := s.enterAt nn

/-- `CALL cc,nn`: WZ is written taken or not (R368). -/
def callIf (cc : Cond) (nn : Word) (s : State) : State :=
  if cc.holds s.f then (s.enterAt nn).addCyc 7 else s.setWz nn

/-- `RET` (R369). -/
def ret (s : State) : State := s.returnToCaller

/-- `RET cc` (R370). -/
def retIf (cc : Cond) (s : State) : State := if cc.holds s.f then s.returnToCaller.addCyc 6 else s

/-- `RETI` (R371). -/
def reti (s : State) : State := s.returnFromHandler

/-- `RETN` (R372). -/
def retn (s : State) : State := s.returnFromHandler

/-- `RST p` (R373). -/
def rst (p : Word) (s : State) : State := s.enterAt p

/-! ## The meanings -/

/-! R360 -/
def execJp_nn (nn : Word) (s : State) : Host.Outcome State Fault Refusal := .next (jp nn (s.fetched 3 1 10))

/-! R361 -/
def execJp_NZ_nn (nn : Word) (s : State) : Host.Outcome State Fault Refusal := .next (jpIf .nz nn (s.fetched 3 1 10))
def execJp_Z_nn (nn : Word) (s : State) : Host.Outcome State Fault Refusal := .next (jpIf .z nn (s.fetched 3 1 10))
def execJp_NC_nn (nn : Word) (s : State) : Host.Outcome State Fault Refusal := .next (jpIf .nc nn (s.fetched 3 1 10))
def execJp_C_nn (nn : Word) (s : State) : Host.Outcome State Fault Refusal := .next (jpIf .c nn (s.fetched 3 1 10))
def execJp_PO_nn (nn : Word) (s : State) : Host.Outcome State Fault Refusal := .next (jpIf .po nn (s.fetched 3 1 10))
def execJp_PE_nn (nn : Word) (s : State) : Host.Outcome State Fault Refusal := .next (jpIf .pe nn (s.fetched 3 1 10))
def execJp_P_nn (nn : Word) (s : State) : Host.Outcome State Fault Refusal := .next (jpIf .p nn (s.fetched 3 1 10))
def execJp_M_nn (nn : Word) (s : State) : Host.Outcome State Fault Refusal := .next (jpIf .m nn (s.fetched 3 1 10))

/-! R362 -/
def execJp_mHL (s : State) : Host.Outcome State Fault Refusal := .next (jpReg .hl (s.fetched 1 1 4))

/-! R363 -/
def execJp_mIX (s : State) : Host.Outcome State Fault Refusal := .next (jpReg .ix (s.fetched 2 2 8))
def execJp_mIY (s : State) : Host.Outcome State Fault Refusal := .next (jpReg .iy (s.fetched 2 2 8))

/-! R364 -/
def execJr_e (e : Byte) (s : State) : Host.Outcome State Fault Refusal := .next (jr e (s.fetched 2 1 12))

/-! R365 -/
def execJr_NZ_e (e : Byte) (s : State) : Host.Outcome State Fault Refusal := .next (jrIf .nz e (s.fetched 2 1 7))
def execJr_Z_e (e : Byte) (s : State) : Host.Outcome State Fault Refusal := .next (jrIf .z e (s.fetched 2 1 7))
def execJr_NC_e (e : Byte) (s : State) : Host.Outcome State Fault Refusal := .next (jrIf .nc e (s.fetched 2 1 7))
def execJr_C_e (e : Byte) (s : State) : Host.Outcome State Fault Refusal := .next (jrIf .c e (s.fetched 2 1 7))

/-! R366 -/
def execDjnz_e (e : Byte) (s : State) : Host.Outcome State Fault Refusal := .next (djnz e (s.fetched 2 1 8))

/-! R367 -/
def execCall_nn (nn : Word) (s : State) : Host.Outcome State Fault Refusal := .next (call nn (s.fetched 3 1 17))

/-! R368 -/
def execCall_NZ_nn (nn : Word) (s : State) : Host.Outcome State Fault Refusal := .next (callIf .nz nn (s.fetched 3 1 10))
def execCall_Z_nn (nn : Word) (s : State) : Host.Outcome State Fault Refusal := .next (callIf .z nn (s.fetched 3 1 10))
def execCall_NC_nn (nn : Word) (s : State) : Host.Outcome State Fault Refusal := .next (callIf .nc nn (s.fetched 3 1 10))
def execCall_C_nn (nn : Word) (s : State) : Host.Outcome State Fault Refusal := .next (callIf .c nn (s.fetched 3 1 10))
def execCall_PO_nn (nn : Word) (s : State) : Host.Outcome State Fault Refusal := .next (callIf .po nn (s.fetched 3 1 10))
def execCall_PE_nn (nn : Word) (s : State) : Host.Outcome State Fault Refusal := .next (callIf .pe nn (s.fetched 3 1 10))
def execCall_P_nn (nn : Word) (s : State) : Host.Outcome State Fault Refusal := .next (callIf .p nn (s.fetched 3 1 10))
def execCall_M_nn (nn : Word) (s : State) : Host.Outcome State Fault Refusal := .next (callIf .m nn (s.fetched 3 1 10))

/-! R369 -/
def execRet (s : State) : Host.Outcome State Fault Refusal := .next (ret (s.fetched 1 1 10))

/-! R370 -/
def execRet_NZ (s : State) : Host.Outcome State Fault Refusal := .next (retIf .nz (s.fetched 1 1 5))
def execRet_Z (s : State) : Host.Outcome State Fault Refusal := .next (retIf .z (s.fetched 1 1 5))
def execRet_NC (s : State) : Host.Outcome State Fault Refusal := .next (retIf .nc (s.fetched 1 1 5))
def execRet_C (s : State) : Host.Outcome State Fault Refusal := .next (retIf .c (s.fetched 1 1 5))
def execRet_PO (s : State) : Host.Outcome State Fault Refusal := .next (retIf .po (s.fetched 1 1 5))
def execRet_PE (s : State) : Host.Outcome State Fault Refusal := .next (retIf .pe (s.fetched 1 1 5))
def execRet_P (s : State) : Host.Outcome State Fault Refusal := .next (retIf .p (s.fetched 1 1 5))
def execRet_M (s : State) : Host.Outcome State Fault Refusal := .next (retIf .m (s.fetched 1 1 5))

/-! R371 -/
def execReti (s : State) : Host.Outcome State Fault Refusal := .next (reti (s.fetched 2 2 14))

/-! R372 -/
def execRetn (_y : BitVec 3) (s : State) : Host.Outcome State Fault Refusal := .next (retn (s.fetched 2 2 14))

/-! R373 -/
def execRst_00h (s : State) : Host.Outcome State Fault Refusal := .next (rst 0x00 (s.fetched 1 1 11))
def execRst_08h (s : State) : Host.Outcome State Fault Refusal := .next (rst 0x08 (s.fetched 1 1 11))
def execRst_10h (s : State) : Host.Outcome State Fault Refusal := .next (rst 0x10 (s.fetched 1 1 11))
def execRst_18h (s : State) : Host.Outcome State Fault Refusal := .next (rst 0x18 (s.fetched 1 1 11))
def execRst_20h (s : State) : Host.Outcome State Fault Refusal := .next (rst 0x20 (s.fetched 1 1 11))
def execRst_28h (s : State) : Host.Outcome State Fault Refusal := .next (rst 0x28 (s.fetched 1 1 11))
def execRst_30h (s : State) : Host.Outcome State Fault Refusal := .next (rst 0x30 (s.fetched 1 1 11))
def execRst_38h (s : State) : Host.Outcome State Fault Refusal := .next (rst 0x38 (s.fetched 1 1 11))

end Sys2Proof.Machine
end

