-- ==== Sys2Proof/Machine/CpuControl.lean ====
section
/-! DEFINITION. CPU control (48_cpu_control.md). -/

namespace Sys2Proof.Machine

/-- `HALT` (R461). -/
def halt (s : State) : State := { s with halted := true }

/-- `DI`: the EI delay is not written (R462). -/
def di (s : State) : State := s.setIff false false

/-- `EI` (R463). -/
def ei (s : State) : State := { s.setIff true true with iffDelay := 1 }

/-- `IM m` (R464 to R466). -/
def setIm (m : IntMode) (s : State) : State := { s with im := m }

/-! ## The meanings -/

/-! R460 -/
def execNop (s : State) : Host.Outcome State Fault Refusal := .next (s.fetched 1 1 4)

/-! R461 -/
def execHalt (s : State) : Host.Outcome State Fault Refusal := .next (halt (s.fetched 1 1 4))

/-! R462 -/
def execDi (s : State) : Host.Outcome State Fault Refusal := .next (di (s.fetched 1 1 4))

/-! R463 -/
def execEi (s : State) : Host.Outcome State Fault Refusal := .next (ei (s.fetched 1 1 4))

/-! R464 -/
def execIm_0 (_second : Bool) (s : State) : Host.Outcome State Fault Refusal := .next (setIm .im0 (s.fetched 2 2 8))
def execIm_0_mirror (_second : Bool) (s : State) : Host.Outcome State Fault Refusal := .next (setIm .im0 (s.fetched 2 2 8))

/-! R465 -/
def execIm_1 (_second : Bool) (s : State) : Host.Outcome State Fault Refusal := .next (setIm .im1 (s.fetched 2 2 8))

/-! R466 -/
def execIm_2 (_second : Bool) (s : State) : Host.Outcome State Fault Refusal := .next (setIm .im2 (s.fetched 2 2 8))

/-! R467 -/
def execEd_nop (_op : Byte) (s : State) : Host.Outcome State Fault Refusal := .next (s.fetched 2 2 8)

end Sys2Proof.Machine
end

