-- ==== Sys2Proof/Machine/Io.lean ====
section
/-! DEFINITION. The single-byte I/O instructions (47_io.md). -/

namespace Sys2Proof.Machine

/-- `IN A,(n)` (R440). -/
def inA (n : Byte) (s : State) : State :=
  let p := s.portAn n
  ((s.portIn p).2.setA (s.portIn p).1).setWz (p + 1)

/-- `OUT (n),A` (R441). -/
def outA (n : Byte) (s : State) : State := (s.portOut (s.portAn n) s.a).setWz (pair s.a (n + 1))

/-- `IN r,(C)`, and `IN (C)` where no register is named (R442, R443). -/
def inC (dst : Option Reg8) (s : State) : State :=
  let v := (s.portIn s.portBC).1
  let s1 := (s.portIn s.portBC).2
  let s2 := match dst with
    | some r => s1.setReg8 r v
    | none => s1
  (s2.setWz (s.bc + 1)).setF (inFlags v s.f)

/-- `OUT (C),r` and `OUT (C),0` (R444, R445). -/
def outC (v : Byte) (s : State) : State := (s.portOut s.portBC v).setWz (s.bc + 1)

/-! ## The meanings -/

/-! R440 -/
def execIn_A_mn (n : Byte) (s : State) : Host.Outcome State Fault Refusal := .next (inA n (s.fetched 2 1 11))

/-! R441 -/
def execOut_mn_A (n : Byte) (s : State) : Host.Outcome State Fault Refusal := .next (outA n (s.fetched 2 1 11))

/-! R442 -/
def execIn_B_mC (s : State) : Host.Outcome State Fault Refusal := .next (inC (some .b) (s.fetched 2 2 12))
def execIn_C_mC (s : State) : Host.Outcome State Fault Refusal := .next (inC (some .c) (s.fetched 2 2 12))
def execIn_D_mC (s : State) : Host.Outcome State Fault Refusal := .next (inC (some .d) (s.fetched 2 2 12))
def execIn_E_mC (s : State) : Host.Outcome State Fault Refusal := .next (inC (some .e) (s.fetched 2 2 12))
def execIn_H_mC (s : State) : Host.Outcome State Fault Refusal := .next (inC (some .h) (s.fetched 2 2 12))
def execIn_L_mC (s : State) : Host.Outcome State Fault Refusal := .next (inC (some .l) (s.fetched 2 2 12))
def execIn_A_mC (s : State) : Host.Outcome State Fault Refusal := .next (inC (some .a) (s.fetched 2 2 12))

/-! R443 -/
def execIn_mC (s : State) : Host.Outcome State Fault Refusal := .next (inC none (s.fetched 2 2 12))

/-! R444 -/
def execOut_mC_B (s : State) : Host.Outcome State Fault Refusal := .next (outC (s.reg8 .b) (s.fetched 2 2 12))
def execOut_mC_C (s : State) : Host.Outcome State Fault Refusal := .next (outC (s.reg8 .c) (s.fetched 2 2 12))
def execOut_mC_D (s : State) : Host.Outcome State Fault Refusal := .next (outC (s.reg8 .d) (s.fetched 2 2 12))
def execOut_mC_E (s : State) : Host.Outcome State Fault Refusal := .next (outC (s.reg8 .e) (s.fetched 2 2 12))
def execOut_mC_H (s : State) : Host.Outcome State Fault Refusal := .next (outC (s.reg8 .h) (s.fetched 2 2 12))
def execOut_mC_L (s : State) : Host.Outcome State Fault Refusal := .next (outC (s.reg8 .l) (s.fetched 2 2 12))
def execOut_mC_A (s : State) : Host.Outcome State Fault Refusal := .next (outC (s.reg8 .a) (s.fetched 2 2 12))

/-! R445 -/
def execOut_mC_0 (s : State) : Host.Outcome State Fault Refusal := .next (outC 0 (s.fetched 2 2 12))

end Sys2Proof.Machine
end

