-- ==== Sys2Proof/Machine/Load16.lean ====
section
/-! DEFINITION. 16-bit loads, stack and exchange (41_load16_stack_exchange.md). -/

namespace Sys2Proof.Machine

/-- `LD rr,nn` (R230, R231). -/
def ld16 (r : Reg16) (nn : Word) (s : State) : State := s.setReg16 r nn

/-- `LD (nn),rr` (R232, R234, R235). -/
def store16 (nn : Word) (r : Reg16) (s : State) : State := (s.writeMem16 nn (s.reg16 r)).setWz (nn + 1)

/-- `LD rr,(nn)` (R233, R234, R236). -/
def load16 (r : Reg16) (nn : Word) (s : State) : State := (s.setReg16 r (s.readMem16 nn)).setWz (nn + 1)

/-- `LD SP,rr` (R237). -/
def ldSp (r : Reg16) (s : State) : State := s.setSp (s.reg16 r)

/-- `PUSH rr` (R238, R240). -/
def push (r : Reg16) (s : State) : State := s.push16 (s.reg16 r)

/-- `POP rr` (R239, R240). -/
def pop (r : Reg16) (s : State) : State := s.dropped16.setReg16 r s.top16

/-- `EX DE,HL` (R241). -/
def exDeHl (s : State) : State := (s.setDe s.hl).setHl s.de

/-- `EX (SP),rr` (R242, R243). -/
def exSp (r : Reg16) (s : State) : State :=
  let t := s.readMem16 s.sp
  ((s.writeMem16 s.sp (s.reg16 r)).setReg16 r t).setWz t

/-- `EX AF,AF'` (R245). -/
def exAf (s : State) : State :=
  { s with main := { s.main with a := s.shadow.a, f := s.shadow.f }
           shadow := { s.shadow with a := s.main.a, f := s.main.f } }

/-- `EXX` (R246). -/
def exx (s : State) : State :=
  { s with main := { s.shadow with a := s.main.a, f := s.main.f }
           shadow := { s.main with a := s.shadow.a, f := s.shadow.f } }

/-! ## The meanings -/

/-! R230 -/
def execLd_BC_nn (nn : Word) (s : State) : Host.Outcome State Fault Refusal := .next (ld16 .bc nn (s.fetched 3 1 10))
def execLd_DE_nn (nn : Word) (s : State) : Host.Outcome State Fault Refusal := .next (ld16 .de nn (s.fetched 3 1 10))
def execLd_HL_nn (nn : Word) (s : State) : Host.Outcome State Fault Refusal := .next (ld16 .hl nn (s.fetched 3 1 10))
def execLd_SP_nn (nn : Word) (s : State) : Host.Outcome State Fault Refusal := .next (ld16 .sp nn (s.fetched 3 1 10))

/-! R231 -/
def execLd_IX_nn (nn : Word) (s : State) : Host.Outcome State Fault Refusal := .next (ld16 .ix nn (s.fetched 4 2 14))
def execLd_IY_nn (nn : Word) (s : State) : Host.Outcome State Fault Refusal := .next (ld16 .iy nn (s.fetched 4 2 14))

/-! R232 -/
def execLd_mnn_HL (nn : Word) (s : State) : Host.Outcome State Fault Refusal := .next (store16 nn .hl (s.fetched 3 1 16))

/-! R233 -/
def execLd_HL_mnn (nn : Word) (s : State) : Host.Outcome State Fault Refusal := .next (load16 .hl nn (s.fetched 3 1 16))

/-! R234 -/
def execLd_mnn_IX (nn : Word) (s : State) : Host.Outcome State Fault Refusal := .next (store16 nn .ix (s.fetched 4 2 20))
def execLd_IX_mnn (nn : Word) (s : State) : Host.Outcome State Fault Refusal := .next (load16 .ix nn (s.fetched 4 2 20))
def execLd_mnn_IY (nn : Word) (s : State) : Host.Outcome State Fault Refusal := .next (store16 nn .iy (s.fetched 4 2 20))
def execLd_IY_mnn (nn : Word) (s : State) : Host.Outcome State Fault Refusal := .next (load16 .iy nn (s.fetched 4 2 20))

/-! R235 -/
def execLd_mnn_BC (nn : Word) (s : State) : Host.Outcome State Fault Refusal := .next (store16 nn .bc (s.fetched 4 2 20))
def execLd_mnn_DE (nn : Word) (s : State) : Host.Outcome State Fault Refusal := .next (store16 nn .de (s.fetched 4 2 20))
def execLd_mnn_HL_ed (nn : Word) (s : State) : Host.Outcome State Fault Refusal := .next (store16 nn .hl (s.fetched 4 2 20))
def execLd_mnn_SP (nn : Word) (s : State) : Host.Outcome State Fault Refusal := .next (store16 nn .sp (s.fetched 4 2 20))

/-! R236 -/
def execLd_BC_mnn (nn : Word) (s : State) : Host.Outcome State Fault Refusal := .next (load16 .bc nn (s.fetched 4 2 20))
def execLd_DE_mnn (nn : Word) (s : State) : Host.Outcome State Fault Refusal := .next (load16 .de nn (s.fetched 4 2 20))
def execLd_HL_mnn_ed (nn : Word) (s : State) : Host.Outcome State Fault Refusal := .next (load16 .hl nn (s.fetched 4 2 20))
def execLd_SP_mnn (nn : Word) (s : State) : Host.Outcome State Fault Refusal := .next (load16 .sp nn (s.fetched 4 2 20))

/-! R237 -/
def execLd_SP_HL (s : State) : Host.Outcome State Fault Refusal := .next (ldSp .hl (s.fetched 1 1 6))
def execLd_SP_IX (s : State) : Host.Outcome State Fault Refusal := .next (ldSp .ix (s.fetched 2 2 10))
def execLd_SP_IY (s : State) : Host.Outcome State Fault Refusal := .next (ldSp .iy (s.fetched 2 2 10))

/-! R238 -/
def execPush_BC (s : State) : Host.Outcome State Fault Refusal := .next (push .bc (s.fetched 1 1 11))
def execPush_DE (s : State) : Host.Outcome State Fault Refusal := .next (push .de (s.fetched 1 1 11))
def execPush_HL (s : State) : Host.Outcome State Fault Refusal := .next (push .hl (s.fetched 1 1 11))
def execPush_AF (s : State) : Host.Outcome State Fault Refusal := .next (push .af (s.fetched 1 1 11))

/-! R239 -/
def execPop_BC (s : State) : Host.Outcome State Fault Refusal := .next (pop .bc (s.fetched 1 1 10))
def execPop_DE (s : State) : Host.Outcome State Fault Refusal := .next (pop .de (s.fetched 1 1 10))
def execPop_HL (s : State) : Host.Outcome State Fault Refusal := .next (pop .hl (s.fetched 1 1 10))
def execPop_AF (s : State) : Host.Outcome State Fault Refusal := .next (pop .af (s.fetched 1 1 10))

/-! R240 -/
def execPop_IX (s : State) : Host.Outcome State Fault Refusal := .next (pop .ix (s.fetched 2 2 14))
def execPush_IX (s : State) : Host.Outcome State Fault Refusal := .next (push .ix (s.fetched 2 2 15))
def execPop_IY (s : State) : Host.Outcome State Fault Refusal := .next (pop .iy (s.fetched 2 2 14))
def execPush_IY (s : State) : Host.Outcome State Fault Refusal := .next (push .iy (s.fetched 2 2 15))

/-! R241 -/
def execEx_DE_HL (s : State) : Host.Outcome State Fault Refusal := .next (exDeHl (s.fetched 1 1 4))

/-! R242 -/
def execEx_mSP_HL (s : State) : Host.Outcome State Fault Refusal := .next (exSp .hl (s.fetched 1 1 19))

/-! R243 -/
def execEx_mSP_IX (s : State) : Host.Outcome State Fault Refusal := .next (exSp .ix (s.fetched 2 2 23))
def execEx_mSP_IY (s : State) : Host.Outcome State Fault Refusal := .next (exSp .iy (s.fetched 2 2 23))

/-! R245 -/
def execEx_AF_AF (s : State) : Host.Outcome State Fault Refusal := .next (exAf (s.fetched 1 1 4))

/-! R246 -/
def execExx (s : State) : Host.Outcome State Fault Refusal := .next (exx (s.fetched 1 1 4))

end Sys2Proof.Machine
end

