-- ==== Sys2Proof/Machine/Load8.lean ====
section
/-! DEFINITION. The 8-bit loads (40_load8.md): the shared operations, then one meaning per instruction. -/

namespace Sys2Proof.Machine

/-- `LD m,s` in every form without a WZ effect of its own (R200 to R209). -/
def ld8 (dst : Loc) (src : Src) (s : State) : State :=
  let s1 := dst.latch (src.latch s)
  s1.writeLoc dst (s1.readSrc src)

/-- `LD A,(BC)`, `LD A,(DE)`, `LD A,(nn)` (R210, R212). -/
def loadA (m : Mem8) (s : State) : State := (s.setA (s.readMem (m.addr s))).setWz (m.addr s + 1)

/-- `LD (BC),A`, `LD (DE),A`, `LD (nn),A` (R211, R213). -/
def storeA (m : Mem8) (s : State) : State :=
  (s.writeMem (m.addr s) s.a).setWz (pair s.a (lo (m.addr s + 1)))

/-- `LD A,I` (R216). -/
def ldAI (s : State) : State := (s.setA s.i).setF (ldAirFlags s.i s.iff2 s.f)

/-- `LD A,R`: R after this instruction's own fetches (R217). -/
def ldAR (s : State) : State := (s.setA s.r).setF (ldAirFlags s.r s.iff2 s.f)

/-- `LD I,A` (R218). -/
def ldIA (s : State) : State := { s with i := s.a }

/-- `LD R,A`: all eight bits, after this instruction's own fetches (R219). -/
def ldRA (s : State) : State := { s with r := s.a }

/-! ## The meanings -/

/-! R200 -/
def execLd_B_B (s : State) : Host.Outcome State Fault Refusal := .next (ld8 (.reg .b) (.loc (.reg .b)) (s.fetched 1 1 4))
def execLd_B_C (s : State) : Host.Outcome State Fault Refusal := .next (ld8 (.reg .b) (.loc (.reg .c)) (s.fetched 1 1 4))
def execLd_B_D (s : State) : Host.Outcome State Fault Refusal := .next (ld8 (.reg .b) (.loc (.reg .d)) (s.fetched 1 1 4))
def execLd_B_E (s : State) : Host.Outcome State Fault Refusal := .next (ld8 (.reg .b) (.loc (.reg .e)) (s.fetched 1 1 4))
def execLd_B_H (s : State) : Host.Outcome State Fault Refusal := .next (ld8 (.reg .b) (.loc (.reg .h)) (s.fetched 1 1 4))
def execLd_B_L (s : State) : Host.Outcome State Fault Refusal := .next (ld8 (.reg .b) (.loc (.reg .l)) (s.fetched 1 1 4))
def execLd_B_A (s : State) : Host.Outcome State Fault Refusal := .next (ld8 (.reg .b) (.loc (.reg .a)) (s.fetched 1 1 4))
def execLd_C_B (s : State) : Host.Outcome State Fault Refusal := .next (ld8 (.reg .c) (.loc (.reg .b)) (s.fetched 1 1 4))
def execLd_C_C (s : State) : Host.Outcome State Fault Refusal := .next (ld8 (.reg .c) (.loc (.reg .c)) (s.fetched 1 1 4))
def execLd_C_D (s : State) : Host.Outcome State Fault Refusal := .next (ld8 (.reg .c) (.loc (.reg .d)) (s.fetched 1 1 4))
def execLd_C_E (s : State) : Host.Outcome State Fault Refusal := .next (ld8 (.reg .c) (.loc (.reg .e)) (s.fetched 1 1 4))
def execLd_C_H (s : State) : Host.Outcome State Fault Refusal := .next (ld8 (.reg .c) (.loc (.reg .h)) (s.fetched 1 1 4))
def execLd_C_L (s : State) : Host.Outcome State Fault Refusal := .next (ld8 (.reg .c) (.loc (.reg .l)) (s.fetched 1 1 4))
def execLd_C_A (s : State) : Host.Outcome State Fault Refusal := .next (ld8 (.reg .c) (.loc (.reg .a)) (s.fetched 1 1 4))
def execLd_D_B (s : State) : Host.Outcome State Fault Refusal := .next (ld8 (.reg .d) (.loc (.reg .b)) (s.fetched 1 1 4))
def execLd_D_C (s : State) : Host.Outcome State Fault Refusal := .next (ld8 (.reg .d) (.loc (.reg .c)) (s.fetched 1 1 4))
def execLd_D_D (s : State) : Host.Outcome State Fault Refusal := .next (ld8 (.reg .d) (.loc (.reg .d)) (s.fetched 1 1 4))
def execLd_D_E (s : State) : Host.Outcome State Fault Refusal := .next (ld8 (.reg .d) (.loc (.reg .e)) (s.fetched 1 1 4))
def execLd_D_H (s : State) : Host.Outcome State Fault Refusal := .next (ld8 (.reg .d) (.loc (.reg .h)) (s.fetched 1 1 4))
def execLd_D_L (s : State) : Host.Outcome State Fault Refusal := .next (ld8 (.reg .d) (.loc (.reg .l)) (s.fetched 1 1 4))
def execLd_D_A (s : State) : Host.Outcome State Fault Refusal := .next (ld8 (.reg .d) (.loc (.reg .a)) (s.fetched 1 1 4))
def execLd_E_B (s : State) : Host.Outcome State Fault Refusal := .next (ld8 (.reg .e) (.loc (.reg .b)) (s.fetched 1 1 4))
def execLd_E_C (s : State) : Host.Outcome State Fault Refusal := .next (ld8 (.reg .e) (.loc (.reg .c)) (s.fetched 1 1 4))
def execLd_E_D (s : State) : Host.Outcome State Fault Refusal := .next (ld8 (.reg .e) (.loc (.reg .d)) (s.fetched 1 1 4))
def execLd_E_E (s : State) : Host.Outcome State Fault Refusal := .next (ld8 (.reg .e) (.loc (.reg .e)) (s.fetched 1 1 4))
def execLd_E_H (s : State) : Host.Outcome State Fault Refusal := .next (ld8 (.reg .e) (.loc (.reg .h)) (s.fetched 1 1 4))
def execLd_E_L (s : State) : Host.Outcome State Fault Refusal := .next (ld8 (.reg .e) (.loc (.reg .l)) (s.fetched 1 1 4))
def execLd_E_A (s : State) : Host.Outcome State Fault Refusal := .next (ld8 (.reg .e) (.loc (.reg .a)) (s.fetched 1 1 4))
def execLd_H_B (s : State) : Host.Outcome State Fault Refusal := .next (ld8 (.reg .h) (.loc (.reg .b)) (s.fetched 1 1 4))
def execLd_H_C (s : State) : Host.Outcome State Fault Refusal := .next (ld8 (.reg .h) (.loc (.reg .c)) (s.fetched 1 1 4))
def execLd_H_D (s : State) : Host.Outcome State Fault Refusal := .next (ld8 (.reg .h) (.loc (.reg .d)) (s.fetched 1 1 4))
def execLd_H_E (s : State) : Host.Outcome State Fault Refusal := .next (ld8 (.reg .h) (.loc (.reg .e)) (s.fetched 1 1 4))
def execLd_H_H (s : State) : Host.Outcome State Fault Refusal := .next (ld8 (.reg .h) (.loc (.reg .h)) (s.fetched 1 1 4))
def execLd_H_L (s : State) : Host.Outcome State Fault Refusal := .next (ld8 (.reg .h) (.loc (.reg .l)) (s.fetched 1 1 4))
def execLd_H_A (s : State) : Host.Outcome State Fault Refusal := .next (ld8 (.reg .h) (.loc (.reg .a)) (s.fetched 1 1 4))
def execLd_L_B (s : State) : Host.Outcome State Fault Refusal := .next (ld8 (.reg .l) (.loc (.reg .b)) (s.fetched 1 1 4))
def execLd_L_C (s : State) : Host.Outcome State Fault Refusal := .next (ld8 (.reg .l) (.loc (.reg .c)) (s.fetched 1 1 4))
def execLd_L_D (s : State) : Host.Outcome State Fault Refusal := .next (ld8 (.reg .l) (.loc (.reg .d)) (s.fetched 1 1 4))
def execLd_L_E (s : State) : Host.Outcome State Fault Refusal := .next (ld8 (.reg .l) (.loc (.reg .e)) (s.fetched 1 1 4))
def execLd_L_H (s : State) : Host.Outcome State Fault Refusal := .next (ld8 (.reg .l) (.loc (.reg .h)) (s.fetched 1 1 4))
def execLd_L_L (s : State) : Host.Outcome State Fault Refusal := .next (ld8 (.reg .l) (.loc (.reg .l)) (s.fetched 1 1 4))
def execLd_L_A (s : State) : Host.Outcome State Fault Refusal := .next (ld8 (.reg .l) (.loc (.reg .a)) (s.fetched 1 1 4))
def execLd_A_B (s : State) : Host.Outcome State Fault Refusal := .next (ld8 (.reg .a) (.loc (.reg .b)) (s.fetched 1 1 4))
def execLd_A_C (s : State) : Host.Outcome State Fault Refusal := .next (ld8 (.reg .a) (.loc (.reg .c)) (s.fetched 1 1 4))
def execLd_A_D (s : State) : Host.Outcome State Fault Refusal := .next (ld8 (.reg .a) (.loc (.reg .d)) (s.fetched 1 1 4))
def execLd_A_E (s : State) : Host.Outcome State Fault Refusal := .next (ld8 (.reg .a) (.loc (.reg .e)) (s.fetched 1 1 4))
def execLd_A_H (s : State) : Host.Outcome State Fault Refusal := .next (ld8 (.reg .a) (.loc (.reg .h)) (s.fetched 1 1 4))
def execLd_A_L (s : State) : Host.Outcome State Fault Refusal := .next (ld8 (.reg .a) (.loc (.reg .l)) (s.fetched 1 1 4))
def execLd_A_A (s : State) : Host.Outcome State Fault Refusal := .next (ld8 (.reg .a) (.loc (.reg .a)) (s.fetched 1 1 4))

/-! R201 -/
def execLd_B_n (n : Byte) (s : State) : Host.Outcome State Fault Refusal := .next (ld8 (.reg .b) (.imm n) (s.fetched 2 1 7))
def execLd_C_n (n : Byte) (s : State) : Host.Outcome State Fault Refusal := .next (ld8 (.reg .c) (.imm n) (s.fetched 2 1 7))
def execLd_D_n (n : Byte) (s : State) : Host.Outcome State Fault Refusal := .next (ld8 (.reg .d) (.imm n) (s.fetched 2 1 7))
def execLd_E_n (n : Byte) (s : State) : Host.Outcome State Fault Refusal := .next (ld8 (.reg .e) (.imm n) (s.fetched 2 1 7))
def execLd_H_n (n : Byte) (s : State) : Host.Outcome State Fault Refusal := .next (ld8 (.reg .h) (.imm n) (s.fetched 2 1 7))
def execLd_L_n (n : Byte) (s : State) : Host.Outcome State Fault Refusal := .next (ld8 (.reg .l) (.imm n) (s.fetched 2 1 7))
def execLd_A_n (n : Byte) (s : State) : Host.Outcome State Fault Refusal := .next (ld8 (.reg .a) (.imm n) (s.fetched 2 1 7))

/-! R202 -/
def execLd_B_mHL (s : State) : Host.Outcome State Fault Refusal := .next (ld8 (.reg .b) (.loc (.mem .hl)) (s.fetched 1 1 7))
def execLd_C_mHL (s : State) : Host.Outcome State Fault Refusal := .next (ld8 (.reg .c) (.loc (.mem .hl)) (s.fetched 1 1 7))
def execLd_D_mHL (s : State) : Host.Outcome State Fault Refusal := .next (ld8 (.reg .d) (.loc (.mem .hl)) (s.fetched 1 1 7))
def execLd_E_mHL (s : State) : Host.Outcome State Fault Refusal := .next (ld8 (.reg .e) (.loc (.mem .hl)) (s.fetched 1 1 7))
def execLd_H_mHL (s : State) : Host.Outcome State Fault Refusal := .next (ld8 (.reg .h) (.loc (.mem .hl)) (s.fetched 1 1 7))
def execLd_L_mHL (s : State) : Host.Outcome State Fault Refusal := .next (ld8 (.reg .l) (.loc (.mem .hl)) (s.fetched 1 1 7))
def execLd_A_mHL (s : State) : Host.Outcome State Fault Refusal := .next (ld8 (.reg .a) (.loc (.mem .hl)) (s.fetched 1 1 7))

/-! R203 -/
def execLd_mHL_B (s : State) : Host.Outcome State Fault Refusal := .next (ld8 (.mem .hl) (.loc (.reg .b)) (s.fetched 1 1 7))
def execLd_mHL_C (s : State) : Host.Outcome State Fault Refusal := .next (ld8 (.mem .hl) (.loc (.reg .c)) (s.fetched 1 1 7))
def execLd_mHL_D (s : State) : Host.Outcome State Fault Refusal := .next (ld8 (.mem .hl) (.loc (.reg .d)) (s.fetched 1 1 7))
def execLd_mHL_E (s : State) : Host.Outcome State Fault Refusal := .next (ld8 (.mem .hl) (.loc (.reg .e)) (s.fetched 1 1 7))
def execLd_mHL_H (s : State) : Host.Outcome State Fault Refusal := .next (ld8 (.mem .hl) (.loc (.reg .h)) (s.fetched 1 1 7))
def execLd_mHL_L (s : State) : Host.Outcome State Fault Refusal := .next (ld8 (.mem .hl) (.loc (.reg .l)) (s.fetched 1 1 7))
def execLd_mHL_A (s : State) : Host.Outcome State Fault Refusal := .next (ld8 (.mem .hl) (.loc (.reg .a)) (s.fetched 1 1 7))

/-! R204 -/
def execLd_mHL_n (n : Byte) (s : State) : Host.Outcome State Fault Refusal :=
  .next (ld8 (.mem .hl) (.imm n) (s.fetched 2 1 10))

/-! R205 -/
def execLd_B_mIXd (d : Byte) (s : State) : Host.Outcome State Fault Refusal :=
  .next (ld8 (.reg .b) (.loc (.mem (.idx .ix d))) (s.fetched 3 2 19))
def execLd_C_mIXd (d : Byte) (s : State) : Host.Outcome State Fault Refusal :=
  .next (ld8 (.reg .c) (.loc (.mem (.idx .ix d))) (s.fetched 3 2 19))
def execLd_D_mIXd (d : Byte) (s : State) : Host.Outcome State Fault Refusal :=
  .next (ld8 (.reg .d) (.loc (.mem (.idx .ix d))) (s.fetched 3 2 19))
def execLd_E_mIXd (d : Byte) (s : State) : Host.Outcome State Fault Refusal :=
  .next (ld8 (.reg .e) (.loc (.mem (.idx .ix d))) (s.fetched 3 2 19))
def execLd_H_mIXd (d : Byte) (s : State) : Host.Outcome State Fault Refusal :=
  .next (ld8 (.reg .h) (.loc (.mem (.idx .ix d))) (s.fetched 3 2 19))
def execLd_L_mIXd (d : Byte) (s : State) : Host.Outcome State Fault Refusal :=
  .next (ld8 (.reg .l) (.loc (.mem (.idx .ix d))) (s.fetched 3 2 19))
def execLd_A_mIXd (d : Byte) (s : State) : Host.Outcome State Fault Refusal :=
  .next (ld8 (.reg .a) (.loc (.mem (.idx .ix d))) (s.fetched 3 2 19))
def execLd_B_mIYd (d : Byte) (s : State) : Host.Outcome State Fault Refusal :=
  .next (ld8 (.reg .b) (.loc (.mem (.idx .iy d))) (s.fetched 3 2 19))
def execLd_C_mIYd (d : Byte) (s : State) : Host.Outcome State Fault Refusal :=
  .next (ld8 (.reg .c) (.loc (.mem (.idx .iy d))) (s.fetched 3 2 19))
def execLd_D_mIYd (d : Byte) (s : State) : Host.Outcome State Fault Refusal :=
  .next (ld8 (.reg .d) (.loc (.mem (.idx .iy d))) (s.fetched 3 2 19))
def execLd_E_mIYd (d : Byte) (s : State) : Host.Outcome State Fault Refusal :=
  .next (ld8 (.reg .e) (.loc (.mem (.idx .iy d))) (s.fetched 3 2 19))
def execLd_H_mIYd (d : Byte) (s : State) : Host.Outcome State Fault Refusal :=
  .next (ld8 (.reg .h) (.loc (.mem (.idx .iy d))) (s.fetched 3 2 19))
def execLd_L_mIYd (d : Byte) (s : State) : Host.Outcome State Fault Refusal :=
  .next (ld8 (.reg .l) (.loc (.mem (.idx .iy d))) (s.fetched 3 2 19))
def execLd_A_mIYd (d : Byte) (s : State) : Host.Outcome State Fault Refusal :=
  .next (ld8 (.reg .a) (.loc (.mem (.idx .iy d))) (s.fetched 3 2 19))

/-! R206 -/
def execLd_mIXd_B (d : Byte) (s : State) : Host.Outcome State Fault Refusal :=
  .next (ld8 (.mem (.idx .ix d)) (.loc (.reg .b)) (s.fetched 3 2 19))
def execLd_mIXd_C (d : Byte) (s : State) : Host.Outcome State Fault Refusal :=
  .next (ld8 (.mem (.idx .ix d)) (.loc (.reg .c)) (s.fetched 3 2 19))
def execLd_mIXd_D (d : Byte) (s : State) : Host.Outcome State Fault Refusal :=
  .next (ld8 (.mem (.idx .ix d)) (.loc (.reg .d)) (s.fetched 3 2 19))
def execLd_mIXd_E (d : Byte) (s : State) : Host.Outcome State Fault Refusal :=
  .next (ld8 (.mem (.idx .ix d)) (.loc (.reg .e)) (s.fetched 3 2 19))
def execLd_mIXd_H (d : Byte) (s : State) : Host.Outcome State Fault Refusal :=
  .next (ld8 (.mem (.idx .ix d)) (.loc (.reg .h)) (s.fetched 3 2 19))
def execLd_mIXd_L (d : Byte) (s : State) : Host.Outcome State Fault Refusal :=
  .next (ld8 (.mem (.idx .ix d)) (.loc (.reg .l)) (s.fetched 3 2 19))
def execLd_mIXd_A (d : Byte) (s : State) : Host.Outcome State Fault Refusal :=
  .next (ld8 (.mem (.idx .ix d)) (.loc (.reg .a)) (s.fetched 3 2 19))
def execLd_mIYd_B (d : Byte) (s : State) : Host.Outcome State Fault Refusal :=
  .next (ld8 (.mem (.idx .iy d)) (.loc (.reg .b)) (s.fetched 3 2 19))
def execLd_mIYd_C (d : Byte) (s : State) : Host.Outcome State Fault Refusal :=
  .next (ld8 (.mem (.idx .iy d)) (.loc (.reg .c)) (s.fetched 3 2 19))
def execLd_mIYd_D (d : Byte) (s : State) : Host.Outcome State Fault Refusal :=
  .next (ld8 (.mem (.idx .iy d)) (.loc (.reg .d)) (s.fetched 3 2 19))
def execLd_mIYd_E (d : Byte) (s : State) : Host.Outcome State Fault Refusal :=
  .next (ld8 (.mem (.idx .iy d)) (.loc (.reg .e)) (s.fetched 3 2 19))
def execLd_mIYd_H (d : Byte) (s : State) : Host.Outcome State Fault Refusal :=
  .next (ld8 (.mem (.idx .iy d)) (.loc (.reg .h)) (s.fetched 3 2 19))
def execLd_mIYd_L (d : Byte) (s : State) : Host.Outcome State Fault Refusal :=
  .next (ld8 (.mem (.idx .iy d)) (.loc (.reg .l)) (s.fetched 3 2 19))
def execLd_mIYd_A (d : Byte) (s : State) : Host.Outcome State Fault Refusal :=
  .next (ld8 (.mem (.idx .iy d)) (.loc (.reg .a)) (s.fetched 3 2 19))

/-! R207 -/
def execLd_mIXd_n (d : Byte) (n : Byte) (s : State) : Host.Outcome State Fault Refusal :=
  .next (ld8 (.mem (.idx .ix d)) (.imm n) (s.fetched 4 2 19))
def execLd_mIYd_n (d : Byte) (n : Byte) (s : State) : Host.Outcome State Fault Refusal :=
  .next (ld8 (.mem (.idx .iy d)) (.imm n) (s.fetched 4 2 19))

/-! R208 -/
def execLd_B_IXH (s : State) : Host.Outcome State Fault Refusal := .next (ld8 (.reg .b) (.loc (.reg .ixh)) (s.fetched 2 2 8))
def execLd_B_IXL (s : State) : Host.Outcome State Fault Refusal := .next (ld8 (.reg .b) (.loc (.reg .ixl)) (s.fetched 2 2 8))
def execLd_C_IXH (s : State) : Host.Outcome State Fault Refusal := .next (ld8 (.reg .c) (.loc (.reg .ixh)) (s.fetched 2 2 8))
def execLd_C_IXL (s : State) : Host.Outcome State Fault Refusal := .next (ld8 (.reg .c) (.loc (.reg .ixl)) (s.fetched 2 2 8))
def execLd_D_IXH (s : State) : Host.Outcome State Fault Refusal := .next (ld8 (.reg .d) (.loc (.reg .ixh)) (s.fetched 2 2 8))
def execLd_D_IXL (s : State) : Host.Outcome State Fault Refusal := .next (ld8 (.reg .d) (.loc (.reg .ixl)) (s.fetched 2 2 8))
def execLd_E_IXH (s : State) : Host.Outcome State Fault Refusal := .next (ld8 (.reg .e) (.loc (.reg .ixh)) (s.fetched 2 2 8))
def execLd_E_IXL (s : State) : Host.Outcome State Fault Refusal := .next (ld8 (.reg .e) (.loc (.reg .ixl)) (s.fetched 2 2 8))
def execLd_IXH_B (s : State) : Host.Outcome State Fault Refusal := .next (ld8 (.reg .ixh) (.loc (.reg .b)) (s.fetched 2 2 8))
def execLd_IXH_C (s : State) : Host.Outcome State Fault Refusal := .next (ld8 (.reg .ixh) (.loc (.reg .c)) (s.fetched 2 2 8))
def execLd_IXH_D (s : State) : Host.Outcome State Fault Refusal := .next (ld8 (.reg .ixh) (.loc (.reg .d)) (s.fetched 2 2 8))
def execLd_IXH_E (s : State) : Host.Outcome State Fault Refusal := .next (ld8 (.reg .ixh) (.loc (.reg .e)) (s.fetched 2 2 8))
def execLd_IXH_IXH (s : State) : Host.Outcome State Fault Refusal :=
  .next (ld8 (.reg .ixh) (.loc (.reg .ixh)) (s.fetched 2 2 8))
def execLd_IXH_IXL (s : State) : Host.Outcome State Fault Refusal :=
  .next (ld8 (.reg .ixh) (.loc (.reg .ixl)) (s.fetched 2 2 8))
def execLd_IXH_A (s : State) : Host.Outcome State Fault Refusal := .next (ld8 (.reg .ixh) (.loc (.reg .a)) (s.fetched 2 2 8))
def execLd_IXL_B (s : State) : Host.Outcome State Fault Refusal := .next (ld8 (.reg .ixl) (.loc (.reg .b)) (s.fetched 2 2 8))
def execLd_IXL_C (s : State) : Host.Outcome State Fault Refusal := .next (ld8 (.reg .ixl) (.loc (.reg .c)) (s.fetched 2 2 8))
def execLd_IXL_D (s : State) : Host.Outcome State Fault Refusal := .next (ld8 (.reg .ixl) (.loc (.reg .d)) (s.fetched 2 2 8))
def execLd_IXL_E (s : State) : Host.Outcome State Fault Refusal := .next (ld8 (.reg .ixl) (.loc (.reg .e)) (s.fetched 2 2 8))
def execLd_IXL_IXH (s : State) : Host.Outcome State Fault Refusal :=
  .next (ld8 (.reg .ixl) (.loc (.reg .ixh)) (s.fetched 2 2 8))
def execLd_IXL_IXL (s : State) : Host.Outcome State Fault Refusal :=
  .next (ld8 (.reg .ixl) (.loc (.reg .ixl)) (s.fetched 2 2 8))
def execLd_IXL_A (s : State) : Host.Outcome State Fault Refusal := .next (ld8 (.reg .ixl) (.loc (.reg .a)) (s.fetched 2 2 8))
def execLd_A_IXH (s : State) : Host.Outcome State Fault Refusal := .next (ld8 (.reg .a) (.loc (.reg .ixh)) (s.fetched 2 2 8))
def execLd_A_IXL (s : State) : Host.Outcome State Fault Refusal := .next (ld8 (.reg .a) (.loc (.reg .ixl)) (s.fetched 2 2 8))
def execLd_B_IYH (s : State) : Host.Outcome State Fault Refusal := .next (ld8 (.reg .b) (.loc (.reg .iyh)) (s.fetched 2 2 8))
def execLd_B_IYL (s : State) : Host.Outcome State Fault Refusal := .next (ld8 (.reg .b) (.loc (.reg .iyl)) (s.fetched 2 2 8))
def execLd_C_IYH (s : State) : Host.Outcome State Fault Refusal := .next (ld8 (.reg .c) (.loc (.reg .iyh)) (s.fetched 2 2 8))
def execLd_C_IYL (s : State) : Host.Outcome State Fault Refusal := .next (ld8 (.reg .c) (.loc (.reg .iyl)) (s.fetched 2 2 8))
def execLd_D_IYH (s : State) : Host.Outcome State Fault Refusal := .next (ld8 (.reg .d) (.loc (.reg .iyh)) (s.fetched 2 2 8))
def execLd_D_IYL (s : State) : Host.Outcome State Fault Refusal := .next (ld8 (.reg .d) (.loc (.reg .iyl)) (s.fetched 2 2 8))
def execLd_E_IYH (s : State) : Host.Outcome State Fault Refusal := .next (ld8 (.reg .e) (.loc (.reg .iyh)) (s.fetched 2 2 8))
def execLd_E_IYL (s : State) : Host.Outcome State Fault Refusal := .next (ld8 (.reg .e) (.loc (.reg .iyl)) (s.fetched 2 2 8))
def execLd_IYH_B (s : State) : Host.Outcome State Fault Refusal := .next (ld8 (.reg .iyh) (.loc (.reg .b)) (s.fetched 2 2 8))
def execLd_IYH_C (s : State) : Host.Outcome State Fault Refusal := .next (ld8 (.reg .iyh) (.loc (.reg .c)) (s.fetched 2 2 8))
def execLd_IYH_D (s : State) : Host.Outcome State Fault Refusal := .next (ld8 (.reg .iyh) (.loc (.reg .d)) (s.fetched 2 2 8))
def execLd_IYH_E (s : State) : Host.Outcome State Fault Refusal := .next (ld8 (.reg .iyh) (.loc (.reg .e)) (s.fetched 2 2 8))
def execLd_IYH_IYH (s : State) : Host.Outcome State Fault Refusal :=
  .next (ld8 (.reg .iyh) (.loc (.reg .iyh)) (s.fetched 2 2 8))
def execLd_IYH_IYL (s : State) : Host.Outcome State Fault Refusal :=
  .next (ld8 (.reg .iyh) (.loc (.reg .iyl)) (s.fetched 2 2 8))
def execLd_IYH_A (s : State) : Host.Outcome State Fault Refusal := .next (ld8 (.reg .iyh) (.loc (.reg .a)) (s.fetched 2 2 8))
def execLd_IYL_B (s : State) : Host.Outcome State Fault Refusal := .next (ld8 (.reg .iyl) (.loc (.reg .b)) (s.fetched 2 2 8))
def execLd_IYL_C (s : State) : Host.Outcome State Fault Refusal := .next (ld8 (.reg .iyl) (.loc (.reg .c)) (s.fetched 2 2 8))
def execLd_IYL_D (s : State) : Host.Outcome State Fault Refusal := .next (ld8 (.reg .iyl) (.loc (.reg .d)) (s.fetched 2 2 8))
def execLd_IYL_E (s : State) : Host.Outcome State Fault Refusal := .next (ld8 (.reg .iyl) (.loc (.reg .e)) (s.fetched 2 2 8))
def execLd_IYL_IYH (s : State) : Host.Outcome State Fault Refusal :=
  .next (ld8 (.reg .iyl) (.loc (.reg .iyh)) (s.fetched 2 2 8))
def execLd_IYL_IYL (s : State) : Host.Outcome State Fault Refusal :=
  .next (ld8 (.reg .iyl) (.loc (.reg .iyl)) (s.fetched 2 2 8))
def execLd_IYL_A (s : State) : Host.Outcome State Fault Refusal := .next (ld8 (.reg .iyl) (.loc (.reg .a)) (s.fetched 2 2 8))
def execLd_A_IYH (s : State) : Host.Outcome State Fault Refusal := .next (ld8 (.reg .a) (.loc (.reg .iyh)) (s.fetched 2 2 8))
def execLd_A_IYL (s : State) : Host.Outcome State Fault Refusal := .next (ld8 (.reg .a) (.loc (.reg .iyl)) (s.fetched 2 2 8))

/-! R209 -/
def execLd_IXH_n (n : Byte) (s : State) : Host.Outcome State Fault Refusal :=
  .next (ld8 (.reg .ixh) (.imm n) (s.fetched 3 2 11))
def execLd_IXL_n (n : Byte) (s : State) : Host.Outcome State Fault Refusal :=
  .next (ld8 (.reg .ixl) (.imm n) (s.fetched 3 2 11))
def execLd_IYH_n (n : Byte) (s : State) : Host.Outcome State Fault Refusal :=
  .next (ld8 (.reg .iyh) (.imm n) (s.fetched 3 2 11))
def execLd_IYL_n (n : Byte) (s : State) : Host.Outcome State Fault Refusal :=
  .next (ld8 (.reg .iyl) (.imm n) (s.fetched 3 2 11))

/-! R210 -/
def execLd_A_mBC (s : State) : Host.Outcome State Fault Refusal := .next (loadA .bc (s.fetched 1 1 7))
def execLd_A_mDE (s : State) : Host.Outcome State Fault Refusal := .next (loadA .de (s.fetched 1 1 7))

/-! R211 -/
def execLd_mBC_A (s : State) : Host.Outcome State Fault Refusal := .next (storeA .bc (s.fetched 1 1 7))
def execLd_mDE_A (s : State) : Host.Outcome State Fault Refusal := .next (storeA .de (s.fetched 1 1 7))

/-! R212 -/
def execLd_A_mnn (nn : Word) (s : State) : Host.Outcome State Fault Refusal := .next (loadA (.abs nn) (s.fetched 3 1 13))

/-! R213 -/
def execLd_mnn_A (nn : Word) (s : State) : Host.Outcome State Fault Refusal := .next (storeA (.abs nn) (s.fetched 3 1 13))

/-! R216 -/
def execLd_A_I (s : State) : Host.Outcome State Fault Refusal := .next (ldAI (s.fetched 2 2 9))

/-! R217 -/
def execLd_A_R (s : State) : Host.Outcome State Fault Refusal := .next (ldAR (s.fetched 2 2 9))

/-! R218 -/
def execLd_I_A (s : State) : Host.Outcome State Fault Refusal := .next (ldIA (s.fetched 2 2 9))

/-! R219 -/
def execLd_R_A (s : State) : Host.Outcome State Fault Refusal := .next (ldRA (s.fetched 2 2 9))

end Sys2Proof.Machine
end

