-- ==== Sys2Proof/Machine/Ignored.lean ====
section
/-!
DEFINITION. The DD and FD bytes without effect (30_encoding.md R144, R145): before an opcode outside the affected set the
opcode executes as unprefixed, one byte, one R increment and 4 T-states later; before DD, FD or ED the byte alone is this
model's instruction, and the step goes on with the next one (Machine/Cycle.lean; log entry 10).
-/

namespace Sys2Proof.Machine

/-! ## The meanings -/

/-! R144 -/
def execRedundant_DD (s : State) : Host.Outcome State Fault Refusal := .next s.skipPrefix
def execIgnored_DD_before_ED (s : State) : Host.Outcome State Fault Refusal := .next s.skipPrefix
def execRedundant_FD (s : State) : Host.Outcome State Fault Refusal := .next s.skipPrefix
def execIgnored_FD_before_ED (s : State) : Host.Outcome State Fault Refusal := .next s.skipPrefix

/-! R145 -/
def execDd_nop (s : State) : Host.Outcome State Fault Refusal := execNop s.skipPrefix
def execDd_ld_BC_nn (nn : Word) (s : State) : Host.Outcome State Fault Refusal := execLd_BC_nn nn s.skipPrefix
def execDd_ld_mBC_A (s : State) : Host.Outcome State Fault Refusal := execLd_mBC_A s.skipPrefix
def execDd_inc_BC (s : State) : Host.Outcome State Fault Refusal := execInc_BC s.skipPrefix
def execDd_inc_B (s : State) : Host.Outcome State Fault Refusal := execInc_B s.skipPrefix
def execDd_dec_B (s : State) : Host.Outcome State Fault Refusal := execDec_B s.skipPrefix
def execDd_ld_B_n (n : Byte) (s : State) : Host.Outcome State Fault Refusal := execLd_B_n n s.skipPrefix
def execDd_rlca (s : State) : Host.Outcome State Fault Refusal := execRlca s.skipPrefix
def execDd_ex_AF_AF (s : State) : Host.Outcome State Fault Refusal := execEx_AF_AF s.skipPrefix
def execDd_ld_A_mBC (s : State) : Host.Outcome State Fault Refusal := execLd_A_mBC s.skipPrefix
def execDd_dec_BC (s : State) : Host.Outcome State Fault Refusal := execDec_BC s.skipPrefix
def execDd_inc_C (s : State) : Host.Outcome State Fault Refusal := execInc_C s.skipPrefix
def execDd_dec_C (s : State) : Host.Outcome State Fault Refusal := execDec_C s.skipPrefix
def execDd_ld_C_n (n : Byte) (s : State) : Host.Outcome State Fault Refusal := execLd_C_n n s.skipPrefix
def execDd_rrca (s : State) : Host.Outcome State Fault Refusal := execRrca s.skipPrefix
def execDd_djnz_e (e : Byte) (s : State) : Host.Outcome State Fault Refusal := execDjnz_e e s.skipPrefix
def execDd_ld_DE_nn (nn : Word) (s : State) : Host.Outcome State Fault Refusal := execLd_DE_nn nn s.skipPrefix
def execDd_ld_mDE_A (s : State) : Host.Outcome State Fault Refusal := execLd_mDE_A s.skipPrefix
def execDd_inc_DE (s : State) : Host.Outcome State Fault Refusal := execInc_DE s.skipPrefix
def execDd_inc_D (s : State) : Host.Outcome State Fault Refusal := execInc_D s.skipPrefix
def execDd_dec_D (s : State) : Host.Outcome State Fault Refusal := execDec_D s.skipPrefix
def execDd_ld_D_n (n : Byte) (s : State) : Host.Outcome State Fault Refusal := execLd_D_n n s.skipPrefix
def execDd_rla (s : State) : Host.Outcome State Fault Refusal := execRla s.skipPrefix
def execDd_jr_e (e : Byte) (s : State) : Host.Outcome State Fault Refusal := execJr_e e s.skipPrefix
def execDd_ld_A_mDE (s : State) : Host.Outcome State Fault Refusal := execLd_A_mDE s.skipPrefix
def execDd_dec_DE (s : State) : Host.Outcome State Fault Refusal := execDec_DE s.skipPrefix
def execDd_inc_E (s : State) : Host.Outcome State Fault Refusal := execInc_E s.skipPrefix
def execDd_dec_E (s : State) : Host.Outcome State Fault Refusal := execDec_E s.skipPrefix
def execDd_ld_E_n (n : Byte) (s : State) : Host.Outcome State Fault Refusal := execLd_E_n n s.skipPrefix
def execDd_rra (s : State) : Host.Outcome State Fault Refusal := execRra s.skipPrefix
def execDd_jr_NZ_e (e : Byte) (s : State) : Host.Outcome State Fault Refusal := execJr_NZ_e e s.skipPrefix
def execDd_daa (s : State) : Host.Outcome State Fault Refusal := execDaa s.skipPrefix
def execDd_jr_Z_e (e : Byte) (s : State) : Host.Outcome State Fault Refusal := execJr_Z_e e s.skipPrefix
def execDd_cpl (s : State) : Host.Outcome State Fault Refusal := execCpl s.skipPrefix
def execDd_jr_NC_e (e : Byte) (s : State) : Host.Outcome State Fault Refusal := execJr_NC_e e s.skipPrefix
def execDd_ld_SP_nn (nn : Word) (s : State) : Host.Outcome State Fault Refusal := execLd_SP_nn nn s.skipPrefix
def execDd_ld_mnn_A (nn : Word) (s : State) : Host.Outcome State Fault Refusal := execLd_mnn_A nn s.skipPrefix
def execDd_inc_SP (s : State) : Host.Outcome State Fault Refusal := execInc_SP s.skipPrefix
def execDd_scf (s : State) : Host.Outcome State Fault Refusal := execScf s.skipPrefix
def execDd_jr_C_e (e : Byte) (s : State) : Host.Outcome State Fault Refusal := execJr_C_e e s.skipPrefix
def execDd_ld_A_mnn (nn : Word) (s : State) : Host.Outcome State Fault Refusal := execLd_A_mnn nn s.skipPrefix
def execDd_dec_SP (s : State) : Host.Outcome State Fault Refusal := execDec_SP s.skipPrefix
def execDd_inc_A (s : State) : Host.Outcome State Fault Refusal := execInc_A s.skipPrefix
def execDd_dec_A (s : State) : Host.Outcome State Fault Refusal := execDec_A s.skipPrefix
def execDd_ld_A_n (n : Byte) (s : State) : Host.Outcome State Fault Refusal := execLd_A_n n s.skipPrefix
def execDd_ccf (s : State) : Host.Outcome State Fault Refusal := execCcf s.skipPrefix
def execDd_ld_B_B (s : State) : Host.Outcome State Fault Refusal := execLd_B_B s.skipPrefix
def execDd_ld_B_C (s : State) : Host.Outcome State Fault Refusal := execLd_B_C s.skipPrefix
def execDd_ld_B_D (s : State) : Host.Outcome State Fault Refusal := execLd_B_D s.skipPrefix
def execDd_ld_B_E (s : State) : Host.Outcome State Fault Refusal := execLd_B_E s.skipPrefix
def execDd_ld_B_A (s : State) : Host.Outcome State Fault Refusal := execLd_B_A s.skipPrefix
def execDd_ld_C_B (s : State) : Host.Outcome State Fault Refusal := execLd_C_B s.skipPrefix
def execDd_ld_C_C (s : State) : Host.Outcome State Fault Refusal := execLd_C_C s.skipPrefix
def execDd_ld_C_D (s : State) : Host.Outcome State Fault Refusal := execLd_C_D s.skipPrefix
def execDd_ld_C_E (s : State) : Host.Outcome State Fault Refusal := execLd_C_E s.skipPrefix
def execDd_ld_C_A (s : State) : Host.Outcome State Fault Refusal := execLd_C_A s.skipPrefix
def execDd_ld_D_B (s : State) : Host.Outcome State Fault Refusal := execLd_D_B s.skipPrefix
def execDd_ld_D_C (s : State) : Host.Outcome State Fault Refusal := execLd_D_C s.skipPrefix
def execDd_ld_D_D (s : State) : Host.Outcome State Fault Refusal := execLd_D_D s.skipPrefix
def execDd_ld_D_E (s : State) : Host.Outcome State Fault Refusal := execLd_D_E s.skipPrefix
def execDd_ld_D_A (s : State) : Host.Outcome State Fault Refusal := execLd_D_A s.skipPrefix
def execDd_ld_E_B (s : State) : Host.Outcome State Fault Refusal := execLd_E_B s.skipPrefix
def execDd_ld_E_C (s : State) : Host.Outcome State Fault Refusal := execLd_E_C s.skipPrefix
def execDd_ld_E_D (s : State) : Host.Outcome State Fault Refusal := execLd_E_D s.skipPrefix
def execDd_ld_E_E (s : State) : Host.Outcome State Fault Refusal := execLd_E_E s.skipPrefix
def execDd_ld_E_A (s : State) : Host.Outcome State Fault Refusal := execLd_E_A s.skipPrefix
def execDd_halt (s : State) : Host.Outcome State Fault Refusal := execHalt s.skipPrefix
def execDd_ld_A_B (s : State) : Host.Outcome State Fault Refusal := execLd_A_B s.skipPrefix
def execDd_ld_A_C (s : State) : Host.Outcome State Fault Refusal := execLd_A_C s.skipPrefix
def execDd_ld_A_D (s : State) : Host.Outcome State Fault Refusal := execLd_A_D s.skipPrefix
def execDd_ld_A_E (s : State) : Host.Outcome State Fault Refusal := execLd_A_E s.skipPrefix
def execDd_ld_A_A (s : State) : Host.Outcome State Fault Refusal := execLd_A_A s.skipPrefix
def execDd_add_A_B (s : State) : Host.Outcome State Fault Refusal := execAdd_A_B s.skipPrefix
def execDd_add_A_C (s : State) : Host.Outcome State Fault Refusal := execAdd_A_C s.skipPrefix
def execDd_add_A_D (s : State) : Host.Outcome State Fault Refusal := execAdd_A_D s.skipPrefix
def execDd_add_A_E (s : State) : Host.Outcome State Fault Refusal := execAdd_A_E s.skipPrefix
def execDd_add_A_A (s : State) : Host.Outcome State Fault Refusal := execAdd_A_A s.skipPrefix
def execDd_adc_A_B (s : State) : Host.Outcome State Fault Refusal := execAdc_A_B s.skipPrefix
def execDd_adc_A_C (s : State) : Host.Outcome State Fault Refusal := execAdc_A_C s.skipPrefix
def execDd_adc_A_D (s : State) : Host.Outcome State Fault Refusal := execAdc_A_D s.skipPrefix
def execDd_adc_A_E (s : State) : Host.Outcome State Fault Refusal := execAdc_A_E s.skipPrefix
def execDd_adc_A_A (s : State) : Host.Outcome State Fault Refusal := execAdc_A_A s.skipPrefix
def execDd_sub_B (s : State) : Host.Outcome State Fault Refusal := execSub_B s.skipPrefix
def execDd_sub_C (s : State) : Host.Outcome State Fault Refusal := execSub_C s.skipPrefix
def execDd_sub_D (s : State) : Host.Outcome State Fault Refusal := execSub_D s.skipPrefix
def execDd_sub_E (s : State) : Host.Outcome State Fault Refusal := execSub_E s.skipPrefix
def execDd_sub_A (s : State) : Host.Outcome State Fault Refusal := execSub_A s.skipPrefix
def execDd_sbc_A_B (s : State) : Host.Outcome State Fault Refusal := execSbc_A_B s.skipPrefix
def execDd_sbc_A_C (s : State) : Host.Outcome State Fault Refusal := execSbc_A_C s.skipPrefix
def execDd_sbc_A_D (s : State) : Host.Outcome State Fault Refusal := execSbc_A_D s.skipPrefix
def execDd_sbc_A_E (s : State) : Host.Outcome State Fault Refusal := execSbc_A_E s.skipPrefix
def execDd_sbc_A_A (s : State) : Host.Outcome State Fault Refusal := execSbc_A_A s.skipPrefix
def execDd_and_B (s : State) : Host.Outcome State Fault Refusal := execAnd_B s.skipPrefix
def execDd_and_C (s : State) : Host.Outcome State Fault Refusal := execAnd_C s.skipPrefix
def execDd_and_D (s : State) : Host.Outcome State Fault Refusal := execAnd_D s.skipPrefix
def execDd_and_E (s : State) : Host.Outcome State Fault Refusal := execAnd_E s.skipPrefix
def execDd_and_A (s : State) : Host.Outcome State Fault Refusal := execAnd_A s.skipPrefix
def execDd_xor_B (s : State) : Host.Outcome State Fault Refusal := execXor_B s.skipPrefix
def execDd_xor_C (s : State) : Host.Outcome State Fault Refusal := execXor_C s.skipPrefix
def execDd_xor_D (s : State) : Host.Outcome State Fault Refusal := execXor_D s.skipPrefix
def execDd_xor_E (s : State) : Host.Outcome State Fault Refusal := execXor_E s.skipPrefix
def execDd_xor_A (s : State) : Host.Outcome State Fault Refusal := execXor_A s.skipPrefix
def execDd_or_B (s : State) : Host.Outcome State Fault Refusal := execOr_B s.skipPrefix
def execDd_or_C (s : State) : Host.Outcome State Fault Refusal := execOr_C s.skipPrefix
def execDd_or_D (s : State) : Host.Outcome State Fault Refusal := execOr_D s.skipPrefix
def execDd_or_E (s : State) : Host.Outcome State Fault Refusal := execOr_E s.skipPrefix
def execDd_or_A (s : State) : Host.Outcome State Fault Refusal := execOr_A s.skipPrefix
def execDd_cp_B (s : State) : Host.Outcome State Fault Refusal := execCp_B s.skipPrefix
def execDd_cp_C (s : State) : Host.Outcome State Fault Refusal := execCp_C s.skipPrefix
def execDd_cp_D (s : State) : Host.Outcome State Fault Refusal := execCp_D s.skipPrefix
def execDd_cp_E (s : State) : Host.Outcome State Fault Refusal := execCp_E s.skipPrefix
def execDd_cp_A (s : State) : Host.Outcome State Fault Refusal := execCp_A s.skipPrefix
def execDd_ret_NZ (s : State) : Host.Outcome State Fault Refusal := execRet_NZ s.skipPrefix
def execDd_pop_BC (s : State) : Host.Outcome State Fault Refusal := execPop_BC s.skipPrefix
def execDd_jp_NZ_nn (nn : Word) (s : State) : Host.Outcome State Fault Refusal := execJp_NZ_nn nn s.skipPrefix
def execDd_jp_nn (nn : Word) (s : State) : Host.Outcome State Fault Refusal := execJp_nn nn s.skipPrefix
def execDd_call_NZ_nn (nn : Word) (s : State) : Host.Outcome State Fault Refusal := execCall_NZ_nn nn s.skipPrefix
def execDd_push_BC (s : State) : Host.Outcome State Fault Refusal := execPush_BC s.skipPrefix
def execDd_add_A_n (n : Byte) (s : State) : Host.Outcome State Fault Refusal := execAdd_A_n n s.skipPrefix
def execDd_rst_00h (s : State) : Host.Outcome State Fault Refusal := execRst_00h s.skipPrefix
def execDd_ret_Z (s : State) : Host.Outcome State Fault Refusal := execRet_Z s.skipPrefix
def execDd_ret (s : State) : Host.Outcome State Fault Refusal := execRet s.skipPrefix
def execDd_jp_Z_nn (nn : Word) (s : State) : Host.Outcome State Fault Refusal := execJp_Z_nn nn s.skipPrefix
def execDd_call_Z_nn (nn : Word) (s : State) : Host.Outcome State Fault Refusal := execCall_Z_nn nn s.skipPrefix
def execDd_call_nn (nn : Word) (s : State) : Host.Outcome State Fault Refusal := execCall_nn nn s.skipPrefix
def execDd_adc_A_n (n : Byte) (s : State) : Host.Outcome State Fault Refusal := execAdc_A_n n s.skipPrefix
def execDd_rst_08h (s : State) : Host.Outcome State Fault Refusal := execRst_08h s.skipPrefix
def execDd_ret_NC (s : State) : Host.Outcome State Fault Refusal := execRet_NC s.skipPrefix
def execDd_pop_DE (s : State) : Host.Outcome State Fault Refusal := execPop_DE s.skipPrefix
def execDd_jp_NC_nn (nn : Word) (s : State) : Host.Outcome State Fault Refusal := execJp_NC_nn nn s.skipPrefix
def execDd_out_mn_A (n : Byte) (s : State) : Host.Outcome State Fault Refusal := execOut_mn_A n s.skipPrefix
def execDd_call_NC_nn (nn : Word) (s : State) : Host.Outcome State Fault Refusal := execCall_NC_nn nn s.skipPrefix
def execDd_push_DE (s : State) : Host.Outcome State Fault Refusal := execPush_DE s.skipPrefix
def execDd_sub_n (n : Byte) (s : State) : Host.Outcome State Fault Refusal := execSub_n n s.skipPrefix
def execDd_rst_10h (s : State) : Host.Outcome State Fault Refusal := execRst_10h s.skipPrefix
def execDd_ret_C (s : State) : Host.Outcome State Fault Refusal := execRet_C s.skipPrefix
def execDd_exx (s : State) : Host.Outcome State Fault Refusal := execExx s.skipPrefix
def execDd_jp_C_nn (nn : Word) (s : State) : Host.Outcome State Fault Refusal := execJp_C_nn nn s.skipPrefix
def execDd_in_A_mn (n : Byte) (s : State) : Host.Outcome State Fault Refusal := execIn_A_mn n s.skipPrefix
def execDd_call_C_nn (nn : Word) (s : State) : Host.Outcome State Fault Refusal := execCall_C_nn nn s.skipPrefix
def execDd_sbc_A_n (n : Byte) (s : State) : Host.Outcome State Fault Refusal := execSbc_A_n n s.skipPrefix
def execDd_rst_18h (s : State) : Host.Outcome State Fault Refusal := execRst_18h s.skipPrefix
def execDd_ret_PO (s : State) : Host.Outcome State Fault Refusal := execRet_PO s.skipPrefix
def execDd_jp_PO_nn (nn : Word) (s : State) : Host.Outcome State Fault Refusal := execJp_PO_nn nn s.skipPrefix
def execDd_call_PO_nn (nn : Word) (s : State) : Host.Outcome State Fault Refusal := execCall_PO_nn nn s.skipPrefix
def execDd_and_n (n : Byte) (s : State) : Host.Outcome State Fault Refusal := execAnd_n n s.skipPrefix
def execDd_rst_20h (s : State) : Host.Outcome State Fault Refusal := execRst_20h s.skipPrefix
def execDd_ret_PE (s : State) : Host.Outcome State Fault Refusal := execRet_PE s.skipPrefix
def execDd_jp_PE_nn (nn : Word) (s : State) : Host.Outcome State Fault Refusal := execJp_PE_nn nn s.skipPrefix
def execDd_ex_DE_HL (s : State) : Host.Outcome State Fault Refusal := execEx_DE_HL s.skipPrefix
def execDd_call_PE_nn (nn : Word) (s : State) : Host.Outcome State Fault Refusal := execCall_PE_nn nn s.skipPrefix
def execDd_xor_n (n : Byte) (s : State) : Host.Outcome State Fault Refusal := execXor_n n s.skipPrefix
def execDd_rst_28h (s : State) : Host.Outcome State Fault Refusal := execRst_28h s.skipPrefix
def execDd_ret_P (s : State) : Host.Outcome State Fault Refusal := execRet_P s.skipPrefix
def execDd_pop_AF (s : State) : Host.Outcome State Fault Refusal := execPop_AF s.skipPrefix
def execDd_jp_P_nn (nn : Word) (s : State) : Host.Outcome State Fault Refusal := execJp_P_nn nn s.skipPrefix
def execDd_di (s : State) : Host.Outcome State Fault Refusal := execDi s.skipPrefix
def execDd_call_P_nn (nn : Word) (s : State) : Host.Outcome State Fault Refusal := execCall_P_nn nn s.skipPrefix
def execDd_push_AF (s : State) : Host.Outcome State Fault Refusal := execPush_AF s.skipPrefix
def execDd_or_n (n : Byte) (s : State) : Host.Outcome State Fault Refusal := execOr_n n s.skipPrefix
def execDd_rst_30h (s : State) : Host.Outcome State Fault Refusal := execRst_30h s.skipPrefix
def execDd_ret_M (s : State) : Host.Outcome State Fault Refusal := execRet_M s.skipPrefix
def execDd_jp_M_nn (nn : Word) (s : State) : Host.Outcome State Fault Refusal := execJp_M_nn nn s.skipPrefix
def execDd_ei (s : State) : Host.Outcome State Fault Refusal := execEi s.skipPrefix
def execDd_call_M_nn (nn : Word) (s : State) : Host.Outcome State Fault Refusal := execCall_M_nn nn s.skipPrefix
def execDd_cp_n (n : Byte) (s : State) : Host.Outcome State Fault Refusal := execCp_n n s.skipPrefix
def execDd_rst_38h (s : State) : Host.Outcome State Fault Refusal := execRst_38h s.skipPrefix
def execFd_nop (s : State) : Host.Outcome State Fault Refusal := execNop s.skipPrefix
def execFd_ld_BC_nn (nn : Word) (s : State) : Host.Outcome State Fault Refusal := execLd_BC_nn nn s.skipPrefix
def execFd_ld_mBC_A (s : State) : Host.Outcome State Fault Refusal := execLd_mBC_A s.skipPrefix
def execFd_inc_BC (s : State) : Host.Outcome State Fault Refusal := execInc_BC s.skipPrefix
def execFd_inc_B (s : State) : Host.Outcome State Fault Refusal := execInc_B s.skipPrefix
def execFd_dec_B (s : State) : Host.Outcome State Fault Refusal := execDec_B s.skipPrefix
def execFd_ld_B_n (n : Byte) (s : State) : Host.Outcome State Fault Refusal := execLd_B_n n s.skipPrefix
def execFd_rlca (s : State) : Host.Outcome State Fault Refusal := execRlca s.skipPrefix
def execFd_ex_AF_AF (s : State) : Host.Outcome State Fault Refusal := execEx_AF_AF s.skipPrefix
def execFd_ld_A_mBC (s : State) : Host.Outcome State Fault Refusal := execLd_A_mBC s.skipPrefix
def execFd_dec_BC (s : State) : Host.Outcome State Fault Refusal := execDec_BC s.skipPrefix
def execFd_inc_C (s : State) : Host.Outcome State Fault Refusal := execInc_C s.skipPrefix
def execFd_dec_C (s : State) : Host.Outcome State Fault Refusal := execDec_C s.skipPrefix
def execFd_ld_C_n (n : Byte) (s : State) : Host.Outcome State Fault Refusal := execLd_C_n n s.skipPrefix
def execFd_rrca (s : State) : Host.Outcome State Fault Refusal := execRrca s.skipPrefix
def execFd_djnz_e (e : Byte) (s : State) : Host.Outcome State Fault Refusal := execDjnz_e e s.skipPrefix
def execFd_ld_DE_nn (nn : Word) (s : State) : Host.Outcome State Fault Refusal := execLd_DE_nn nn s.skipPrefix
def execFd_ld_mDE_A (s : State) : Host.Outcome State Fault Refusal := execLd_mDE_A s.skipPrefix
def execFd_inc_DE (s : State) : Host.Outcome State Fault Refusal := execInc_DE s.skipPrefix
def execFd_inc_D (s : State) : Host.Outcome State Fault Refusal := execInc_D s.skipPrefix
def execFd_dec_D (s : State) : Host.Outcome State Fault Refusal := execDec_D s.skipPrefix
def execFd_ld_D_n (n : Byte) (s : State) : Host.Outcome State Fault Refusal := execLd_D_n n s.skipPrefix
def execFd_rla (s : State) : Host.Outcome State Fault Refusal := execRla s.skipPrefix
def execFd_jr_e (e : Byte) (s : State) : Host.Outcome State Fault Refusal := execJr_e e s.skipPrefix
def execFd_ld_A_mDE (s : State) : Host.Outcome State Fault Refusal := execLd_A_mDE s.skipPrefix
def execFd_dec_DE (s : State) : Host.Outcome State Fault Refusal := execDec_DE s.skipPrefix
def execFd_inc_E (s : State) : Host.Outcome State Fault Refusal := execInc_E s.skipPrefix
def execFd_dec_E (s : State) : Host.Outcome State Fault Refusal := execDec_E s.skipPrefix
def execFd_ld_E_n (n : Byte) (s : State) : Host.Outcome State Fault Refusal := execLd_E_n n s.skipPrefix
def execFd_rra (s : State) : Host.Outcome State Fault Refusal := execRra s.skipPrefix
def execFd_jr_NZ_e (e : Byte) (s : State) : Host.Outcome State Fault Refusal := execJr_NZ_e e s.skipPrefix
def execFd_daa (s : State) : Host.Outcome State Fault Refusal := execDaa s.skipPrefix
def execFd_jr_Z_e (e : Byte) (s : State) : Host.Outcome State Fault Refusal := execJr_Z_e e s.skipPrefix
def execFd_cpl (s : State) : Host.Outcome State Fault Refusal := execCpl s.skipPrefix
def execFd_jr_NC_e (e : Byte) (s : State) : Host.Outcome State Fault Refusal := execJr_NC_e e s.skipPrefix
def execFd_ld_SP_nn (nn : Word) (s : State) : Host.Outcome State Fault Refusal := execLd_SP_nn nn s.skipPrefix
def execFd_ld_mnn_A (nn : Word) (s : State) : Host.Outcome State Fault Refusal := execLd_mnn_A nn s.skipPrefix
def execFd_inc_SP (s : State) : Host.Outcome State Fault Refusal := execInc_SP s.skipPrefix
def execFd_scf (s : State) : Host.Outcome State Fault Refusal := execScf s.skipPrefix
def execFd_jr_C_e (e : Byte) (s : State) : Host.Outcome State Fault Refusal := execJr_C_e e s.skipPrefix
def execFd_ld_A_mnn (nn : Word) (s : State) : Host.Outcome State Fault Refusal := execLd_A_mnn nn s.skipPrefix
def execFd_dec_SP (s : State) : Host.Outcome State Fault Refusal := execDec_SP s.skipPrefix
def execFd_inc_A (s : State) : Host.Outcome State Fault Refusal := execInc_A s.skipPrefix
def execFd_dec_A (s : State) : Host.Outcome State Fault Refusal := execDec_A s.skipPrefix
def execFd_ld_A_n (n : Byte) (s : State) : Host.Outcome State Fault Refusal := execLd_A_n n s.skipPrefix
def execFd_ccf (s : State) : Host.Outcome State Fault Refusal := execCcf s.skipPrefix
def execFd_ld_B_B (s : State) : Host.Outcome State Fault Refusal := execLd_B_B s.skipPrefix
def execFd_ld_B_C (s : State) : Host.Outcome State Fault Refusal := execLd_B_C s.skipPrefix
def execFd_ld_B_D (s : State) : Host.Outcome State Fault Refusal := execLd_B_D s.skipPrefix
def execFd_ld_B_E (s : State) : Host.Outcome State Fault Refusal := execLd_B_E s.skipPrefix
def execFd_ld_B_A (s : State) : Host.Outcome State Fault Refusal := execLd_B_A s.skipPrefix
def execFd_ld_C_B (s : State) : Host.Outcome State Fault Refusal := execLd_C_B s.skipPrefix
def execFd_ld_C_C (s : State) : Host.Outcome State Fault Refusal := execLd_C_C s.skipPrefix
def execFd_ld_C_D (s : State) : Host.Outcome State Fault Refusal := execLd_C_D s.skipPrefix
def execFd_ld_C_E (s : State) : Host.Outcome State Fault Refusal := execLd_C_E s.skipPrefix
def execFd_ld_C_A (s : State) : Host.Outcome State Fault Refusal := execLd_C_A s.skipPrefix
def execFd_ld_D_B (s : State) : Host.Outcome State Fault Refusal := execLd_D_B s.skipPrefix
def execFd_ld_D_C (s : State) : Host.Outcome State Fault Refusal := execLd_D_C s.skipPrefix
def execFd_ld_D_D (s : State) : Host.Outcome State Fault Refusal := execLd_D_D s.skipPrefix
def execFd_ld_D_E (s : State) : Host.Outcome State Fault Refusal := execLd_D_E s.skipPrefix
def execFd_ld_D_A (s : State) : Host.Outcome State Fault Refusal := execLd_D_A s.skipPrefix
def execFd_ld_E_B (s : State) : Host.Outcome State Fault Refusal := execLd_E_B s.skipPrefix
def execFd_ld_E_C (s : State) : Host.Outcome State Fault Refusal := execLd_E_C s.skipPrefix
def execFd_ld_E_D (s : State) : Host.Outcome State Fault Refusal := execLd_E_D s.skipPrefix
def execFd_ld_E_E (s : State) : Host.Outcome State Fault Refusal := execLd_E_E s.skipPrefix
def execFd_ld_E_A (s : State) : Host.Outcome State Fault Refusal := execLd_E_A s.skipPrefix
def execFd_halt (s : State) : Host.Outcome State Fault Refusal := execHalt s.skipPrefix
def execFd_ld_A_B (s : State) : Host.Outcome State Fault Refusal := execLd_A_B s.skipPrefix
def execFd_ld_A_C (s : State) : Host.Outcome State Fault Refusal := execLd_A_C s.skipPrefix
def execFd_ld_A_D (s : State) : Host.Outcome State Fault Refusal := execLd_A_D s.skipPrefix
def execFd_ld_A_E (s : State) : Host.Outcome State Fault Refusal := execLd_A_E s.skipPrefix
def execFd_ld_A_A (s : State) : Host.Outcome State Fault Refusal := execLd_A_A s.skipPrefix
def execFd_add_A_B (s : State) : Host.Outcome State Fault Refusal := execAdd_A_B s.skipPrefix
def execFd_add_A_C (s : State) : Host.Outcome State Fault Refusal := execAdd_A_C s.skipPrefix
def execFd_add_A_D (s : State) : Host.Outcome State Fault Refusal := execAdd_A_D s.skipPrefix
def execFd_add_A_E (s : State) : Host.Outcome State Fault Refusal := execAdd_A_E s.skipPrefix
def execFd_add_A_A (s : State) : Host.Outcome State Fault Refusal := execAdd_A_A s.skipPrefix
def execFd_adc_A_B (s : State) : Host.Outcome State Fault Refusal := execAdc_A_B s.skipPrefix
def execFd_adc_A_C (s : State) : Host.Outcome State Fault Refusal := execAdc_A_C s.skipPrefix
def execFd_adc_A_D (s : State) : Host.Outcome State Fault Refusal := execAdc_A_D s.skipPrefix
def execFd_adc_A_E (s : State) : Host.Outcome State Fault Refusal := execAdc_A_E s.skipPrefix
def execFd_adc_A_A (s : State) : Host.Outcome State Fault Refusal := execAdc_A_A s.skipPrefix
def execFd_sub_B (s : State) : Host.Outcome State Fault Refusal := execSub_B s.skipPrefix
def execFd_sub_C (s : State) : Host.Outcome State Fault Refusal := execSub_C s.skipPrefix
def execFd_sub_D (s : State) : Host.Outcome State Fault Refusal := execSub_D s.skipPrefix
def execFd_sub_E (s : State) : Host.Outcome State Fault Refusal := execSub_E s.skipPrefix
def execFd_sub_A (s : State) : Host.Outcome State Fault Refusal := execSub_A s.skipPrefix
def execFd_sbc_A_B (s : State) : Host.Outcome State Fault Refusal := execSbc_A_B s.skipPrefix
def execFd_sbc_A_C (s : State) : Host.Outcome State Fault Refusal := execSbc_A_C s.skipPrefix
def execFd_sbc_A_D (s : State) : Host.Outcome State Fault Refusal := execSbc_A_D s.skipPrefix
def execFd_sbc_A_E (s : State) : Host.Outcome State Fault Refusal := execSbc_A_E s.skipPrefix
def execFd_sbc_A_A (s : State) : Host.Outcome State Fault Refusal := execSbc_A_A s.skipPrefix
def execFd_and_B (s : State) : Host.Outcome State Fault Refusal := execAnd_B s.skipPrefix
def execFd_and_C (s : State) : Host.Outcome State Fault Refusal := execAnd_C s.skipPrefix
def execFd_and_D (s : State) : Host.Outcome State Fault Refusal := execAnd_D s.skipPrefix
def execFd_and_E (s : State) : Host.Outcome State Fault Refusal := execAnd_E s.skipPrefix
def execFd_and_A (s : State) : Host.Outcome State Fault Refusal := execAnd_A s.skipPrefix
def execFd_xor_B (s : State) : Host.Outcome State Fault Refusal := execXor_B s.skipPrefix
def execFd_xor_C (s : State) : Host.Outcome State Fault Refusal := execXor_C s.skipPrefix
def execFd_xor_D (s : State) : Host.Outcome State Fault Refusal := execXor_D s.skipPrefix
def execFd_xor_E (s : State) : Host.Outcome State Fault Refusal := execXor_E s.skipPrefix
def execFd_xor_A (s : State) : Host.Outcome State Fault Refusal := execXor_A s.skipPrefix
def execFd_or_B (s : State) : Host.Outcome State Fault Refusal := execOr_B s.skipPrefix
def execFd_or_C (s : State) : Host.Outcome State Fault Refusal := execOr_C s.skipPrefix
def execFd_or_D (s : State) : Host.Outcome State Fault Refusal := execOr_D s.skipPrefix
def execFd_or_E (s : State) : Host.Outcome State Fault Refusal := execOr_E s.skipPrefix
def execFd_or_A (s : State) : Host.Outcome State Fault Refusal := execOr_A s.skipPrefix
def execFd_cp_B (s : State) : Host.Outcome State Fault Refusal := execCp_B s.skipPrefix
def execFd_cp_C (s : State) : Host.Outcome State Fault Refusal := execCp_C s.skipPrefix
def execFd_cp_D (s : State) : Host.Outcome State Fault Refusal := execCp_D s.skipPrefix
def execFd_cp_E (s : State) : Host.Outcome State Fault Refusal := execCp_E s.skipPrefix
def execFd_cp_A (s : State) : Host.Outcome State Fault Refusal := execCp_A s.skipPrefix
def execFd_ret_NZ (s : State) : Host.Outcome State Fault Refusal := execRet_NZ s.skipPrefix
def execFd_pop_BC (s : State) : Host.Outcome State Fault Refusal := execPop_BC s.skipPrefix
def execFd_jp_NZ_nn (nn : Word) (s : State) : Host.Outcome State Fault Refusal := execJp_NZ_nn nn s.skipPrefix
def execFd_jp_nn (nn : Word) (s : State) : Host.Outcome State Fault Refusal := execJp_nn nn s.skipPrefix
def execFd_call_NZ_nn (nn : Word) (s : State) : Host.Outcome State Fault Refusal := execCall_NZ_nn nn s.skipPrefix
def execFd_push_BC (s : State) : Host.Outcome State Fault Refusal := execPush_BC s.skipPrefix
def execFd_add_A_n (n : Byte) (s : State) : Host.Outcome State Fault Refusal := execAdd_A_n n s.skipPrefix
def execFd_rst_00h (s : State) : Host.Outcome State Fault Refusal := execRst_00h s.skipPrefix
def execFd_ret_Z (s : State) : Host.Outcome State Fault Refusal := execRet_Z s.skipPrefix
def execFd_ret (s : State) : Host.Outcome State Fault Refusal := execRet s.skipPrefix
def execFd_jp_Z_nn (nn : Word) (s : State) : Host.Outcome State Fault Refusal := execJp_Z_nn nn s.skipPrefix
def execFd_call_Z_nn (nn : Word) (s : State) : Host.Outcome State Fault Refusal := execCall_Z_nn nn s.skipPrefix
def execFd_call_nn (nn : Word) (s : State) : Host.Outcome State Fault Refusal := execCall_nn nn s.skipPrefix
def execFd_adc_A_n (n : Byte) (s : State) : Host.Outcome State Fault Refusal := execAdc_A_n n s.skipPrefix
def execFd_rst_08h (s : State) : Host.Outcome State Fault Refusal := execRst_08h s.skipPrefix
def execFd_ret_NC (s : State) : Host.Outcome State Fault Refusal := execRet_NC s.skipPrefix
def execFd_pop_DE (s : State) : Host.Outcome State Fault Refusal := execPop_DE s.skipPrefix
def execFd_jp_NC_nn (nn : Word) (s : State) : Host.Outcome State Fault Refusal := execJp_NC_nn nn s.skipPrefix
def execFd_out_mn_A (n : Byte) (s : State) : Host.Outcome State Fault Refusal := execOut_mn_A n s.skipPrefix
def execFd_call_NC_nn (nn : Word) (s : State) : Host.Outcome State Fault Refusal := execCall_NC_nn nn s.skipPrefix
def execFd_push_DE (s : State) : Host.Outcome State Fault Refusal := execPush_DE s.skipPrefix
def execFd_sub_n (n : Byte) (s : State) : Host.Outcome State Fault Refusal := execSub_n n s.skipPrefix
def execFd_rst_10h (s : State) : Host.Outcome State Fault Refusal := execRst_10h s.skipPrefix
def execFd_ret_C (s : State) : Host.Outcome State Fault Refusal := execRet_C s.skipPrefix
def execFd_exx (s : State) : Host.Outcome State Fault Refusal := execExx s.skipPrefix
def execFd_jp_C_nn (nn : Word) (s : State) : Host.Outcome State Fault Refusal := execJp_C_nn nn s.skipPrefix
def execFd_in_A_mn (n : Byte) (s : State) : Host.Outcome State Fault Refusal := execIn_A_mn n s.skipPrefix
def execFd_call_C_nn (nn : Word) (s : State) : Host.Outcome State Fault Refusal := execCall_C_nn nn s.skipPrefix
def execFd_sbc_A_n (n : Byte) (s : State) : Host.Outcome State Fault Refusal := execSbc_A_n n s.skipPrefix
def execFd_rst_18h (s : State) : Host.Outcome State Fault Refusal := execRst_18h s.skipPrefix
def execFd_ret_PO (s : State) : Host.Outcome State Fault Refusal := execRet_PO s.skipPrefix
def execFd_jp_PO_nn (nn : Word) (s : State) : Host.Outcome State Fault Refusal := execJp_PO_nn nn s.skipPrefix
def execFd_call_PO_nn (nn : Word) (s : State) : Host.Outcome State Fault Refusal := execCall_PO_nn nn s.skipPrefix
def execFd_and_n (n : Byte) (s : State) : Host.Outcome State Fault Refusal := execAnd_n n s.skipPrefix
def execFd_rst_20h (s : State) : Host.Outcome State Fault Refusal := execRst_20h s.skipPrefix
def execFd_ret_PE (s : State) : Host.Outcome State Fault Refusal := execRet_PE s.skipPrefix
def execFd_jp_PE_nn (nn : Word) (s : State) : Host.Outcome State Fault Refusal := execJp_PE_nn nn s.skipPrefix
def execFd_ex_DE_HL (s : State) : Host.Outcome State Fault Refusal := execEx_DE_HL s.skipPrefix
def execFd_call_PE_nn (nn : Word) (s : State) : Host.Outcome State Fault Refusal := execCall_PE_nn nn s.skipPrefix
def execFd_xor_n (n : Byte) (s : State) : Host.Outcome State Fault Refusal := execXor_n n s.skipPrefix
def execFd_rst_28h (s : State) : Host.Outcome State Fault Refusal := execRst_28h s.skipPrefix
def execFd_ret_P (s : State) : Host.Outcome State Fault Refusal := execRet_P s.skipPrefix
def execFd_pop_AF (s : State) : Host.Outcome State Fault Refusal := execPop_AF s.skipPrefix
def execFd_jp_P_nn (nn : Word) (s : State) : Host.Outcome State Fault Refusal := execJp_P_nn nn s.skipPrefix
def execFd_di (s : State) : Host.Outcome State Fault Refusal := execDi s.skipPrefix
def execFd_call_P_nn (nn : Word) (s : State) : Host.Outcome State Fault Refusal := execCall_P_nn nn s.skipPrefix
def execFd_push_AF (s : State) : Host.Outcome State Fault Refusal := execPush_AF s.skipPrefix
def execFd_or_n (n : Byte) (s : State) : Host.Outcome State Fault Refusal := execOr_n n s.skipPrefix
def execFd_rst_30h (s : State) : Host.Outcome State Fault Refusal := execRst_30h s.skipPrefix
def execFd_ret_M (s : State) : Host.Outcome State Fault Refusal := execRet_M s.skipPrefix
def execFd_jp_M_nn (nn : Word) (s : State) : Host.Outcome State Fault Refusal := execJp_M_nn nn s.skipPrefix
def execFd_ei (s : State) : Host.Outcome State Fault Refusal := execEi s.skipPrefix
def execFd_call_M_nn (nn : Word) (s : State) : Host.Outcome State Fault Refusal := execCall_M_nn nn s.skipPrefix
def execFd_cp_n (n : Byte) (s : State) : Host.Outcome State Fault Refusal := execCp_n n s.skipPrefix
def execFd_rst_38h (s : State) : Host.Outcome State Fault Refusal := execRst_38h s.skipPrefix

end Sys2Proof.Machine
end

