-- ==== Sys2Proof/Machine/Compute.lean ====
section
/-!
DEFINITION. The instruction at PC, and its meaning run. Lean's compiler takes at most 244 constructors with fields in one
type, so the decoder, which builds terms of `Instr`, has no code; the kernel evaluates it. So that the machine runs as code
too, the grids stand here once more with the meanings in place of the instructions, and three theorems say that running them
is decoding and then `exec`; by these theorems the compiler takes them for it. Nothing else refers to these grids.
-/

namespace Sys2Proof.Machine

/-- The decoder on the bytes at PC, which wraps (30_encoding.md R146, R148; 20_memory.md R96). -/
noncomputable def State.fetchAtPc (s : State) : Instr × Nat :=
  decodeWindow (s.readMem s.pc) (s.readMem (s.pc + 1)) (s.readMem (s.pc + 2)) (s.readMem (s.pc + 3))

/-- The instruction at PC. -/
noncomputable def State.nextInstr (s : State) : Instr := s.fetchAtPc.1

/-- The instruction at PC, run. -/
noncomputable def State.execNext (s : State) : Host.Outcome State Fault Refusal := exec s.nextInstr s

/-- Whether the instruction at PC is a DD or FD byte before DD, FD or ED. -/
noncomputable def State.nextIsChain (s : State) : Bool := s.nextInstr.isChainByte

/-- Whether the instruction at PC is EI. -/
noncomputable def State.nextIsEi (s : State) : Bool := s.nextInstr.isEi

/-! ## The grids with meanings -/

/-- A meaning with its operands. -/
abbrev Run := State → Host.Outcome State Fault Refusal

/-- `Entry` with a meaning. -/
inductive RunEntry where
  | h0 (f : Run)
  | h1 (f : Byte → Run)
  | h2 (f : Word → Run)
  | h11 (f : Byte → Byte → Run)

/-- `Slot` with a meaning. -/
inductive RunSlot where
  | ins (e : RunEntry)
  | cb
  | ed
  | dd
  | fd

def mainRunRow0 : List RunSlot :=
  [.ins (.h0 execNop), .ins (.h2 execLd_BC_nn), .ins (.h0 execLd_mBC_A), .ins (.h0 execInc_BC), .ins (.h0 execInc_B),
   .ins (.h0 execDec_B), .ins (.h1 execLd_B_n), .ins (.h0 execRlca), .ins (.h0 execEx_AF_AF),
   .ins (.h0 execAdd_HL_BC), .ins (.h0 execLd_A_mBC), .ins (.h0 execDec_BC), .ins (.h0 execInc_C),
   .ins (.h0 execDec_C), .ins (.h1 execLd_C_n), .ins (.h0 execRrca)]

def mainRunRow1 : List RunSlot :=
  [.ins (.h1 execDjnz_e), .ins (.h2 execLd_DE_nn), .ins (.h0 execLd_mDE_A), .ins (.h0 execInc_DE),
   .ins (.h0 execInc_D), .ins (.h0 execDec_D), .ins (.h1 execLd_D_n), .ins (.h0 execRla), .ins (.h1 execJr_e),
   .ins (.h0 execAdd_HL_DE), .ins (.h0 execLd_A_mDE), .ins (.h0 execDec_DE), .ins (.h0 execInc_E),
   .ins (.h0 execDec_E), .ins (.h1 execLd_E_n), .ins (.h0 execRra)]

def mainRunRow2 : List RunSlot :=
  [.ins (.h1 execJr_NZ_e), .ins (.h2 execLd_HL_nn), .ins (.h2 execLd_mnn_HL), .ins (.h0 execInc_HL),
   .ins (.h0 execInc_H), .ins (.h0 execDec_H), .ins (.h1 execLd_H_n), .ins (.h0 execDaa), .ins (.h1 execJr_Z_e),
   .ins (.h0 execAdd_HL_HL), .ins (.h2 execLd_HL_mnn), .ins (.h0 execDec_HL), .ins (.h0 execInc_L),
   .ins (.h0 execDec_L), .ins (.h1 execLd_L_n), .ins (.h0 execCpl)]

def mainRunRow3 : List RunSlot :=
  [.ins (.h1 execJr_NC_e), .ins (.h2 execLd_SP_nn), .ins (.h2 execLd_mnn_A), .ins (.h0 execInc_SP),
   .ins (.h0 execInc_mHL), .ins (.h0 execDec_mHL), .ins (.h1 execLd_mHL_n), .ins (.h0 execScf),
   .ins (.h1 execJr_C_e), .ins (.h0 execAdd_HL_SP), .ins (.h2 execLd_A_mnn), .ins (.h0 execDec_SP),
   .ins (.h0 execInc_A), .ins (.h0 execDec_A), .ins (.h1 execLd_A_n), .ins (.h0 execCcf)]

def mainRunRow4 : List RunSlot :=
  [.ins (.h0 execLd_B_B), .ins (.h0 execLd_B_C), .ins (.h0 execLd_B_D), .ins (.h0 execLd_B_E), .ins (.h0 execLd_B_H),
   .ins (.h0 execLd_B_L), .ins (.h0 execLd_B_mHL), .ins (.h0 execLd_B_A), .ins (.h0 execLd_C_B),
   .ins (.h0 execLd_C_C), .ins (.h0 execLd_C_D), .ins (.h0 execLd_C_E), .ins (.h0 execLd_C_H), .ins (.h0 execLd_C_L),
   .ins (.h0 execLd_C_mHL), .ins (.h0 execLd_C_A)]

def mainRunRow5 : List RunSlot :=
  [.ins (.h0 execLd_D_B), .ins (.h0 execLd_D_C), .ins (.h0 execLd_D_D), .ins (.h0 execLd_D_E), .ins (.h0 execLd_D_H),
   .ins (.h0 execLd_D_L), .ins (.h0 execLd_D_mHL), .ins (.h0 execLd_D_A), .ins (.h0 execLd_E_B),
   .ins (.h0 execLd_E_C), .ins (.h0 execLd_E_D), .ins (.h0 execLd_E_E), .ins (.h0 execLd_E_H), .ins (.h0 execLd_E_L),
   .ins (.h0 execLd_E_mHL), .ins (.h0 execLd_E_A)]

def mainRunRow6 : List RunSlot :=
  [.ins (.h0 execLd_H_B), .ins (.h0 execLd_H_C), .ins (.h0 execLd_H_D), .ins (.h0 execLd_H_E), .ins (.h0 execLd_H_H),
   .ins (.h0 execLd_H_L), .ins (.h0 execLd_H_mHL), .ins (.h0 execLd_H_A), .ins (.h0 execLd_L_B),
   .ins (.h0 execLd_L_C), .ins (.h0 execLd_L_D), .ins (.h0 execLd_L_E), .ins (.h0 execLd_L_H), .ins (.h0 execLd_L_L),
   .ins (.h0 execLd_L_mHL), .ins (.h0 execLd_L_A)]

def mainRunRow7 : List RunSlot :=
  [.ins (.h0 execLd_mHL_B), .ins (.h0 execLd_mHL_C), .ins (.h0 execLd_mHL_D), .ins (.h0 execLd_mHL_E),
   .ins (.h0 execLd_mHL_H), .ins (.h0 execLd_mHL_L), .ins (.h0 execHalt), .ins (.h0 execLd_mHL_A),
   .ins (.h0 execLd_A_B), .ins (.h0 execLd_A_C), .ins (.h0 execLd_A_D), .ins (.h0 execLd_A_E), .ins (.h0 execLd_A_H),
   .ins (.h0 execLd_A_L), .ins (.h0 execLd_A_mHL), .ins (.h0 execLd_A_A)]

def mainRunRow8 : List RunSlot :=
  [.ins (.h0 execAdd_A_B), .ins (.h0 execAdd_A_C), .ins (.h0 execAdd_A_D), .ins (.h0 execAdd_A_E),
   .ins (.h0 execAdd_A_H), .ins (.h0 execAdd_A_L), .ins (.h0 execAdd_A_mHL), .ins (.h0 execAdd_A_A),
   .ins (.h0 execAdc_A_B), .ins (.h0 execAdc_A_C), .ins (.h0 execAdc_A_D), .ins (.h0 execAdc_A_E),
   .ins (.h0 execAdc_A_H), .ins (.h0 execAdc_A_L), .ins (.h0 execAdc_A_mHL), .ins (.h0 execAdc_A_A)]

def mainRunRow9 : List RunSlot :=
  [.ins (.h0 execSub_B), .ins (.h0 execSub_C), .ins (.h0 execSub_D), .ins (.h0 execSub_E), .ins (.h0 execSub_H),
   .ins (.h0 execSub_L), .ins (.h0 execSub_mHL), .ins (.h0 execSub_A), .ins (.h0 execSbc_A_B),
   .ins (.h0 execSbc_A_C), .ins (.h0 execSbc_A_D), .ins (.h0 execSbc_A_E), .ins (.h0 execSbc_A_H),
   .ins (.h0 execSbc_A_L), .ins (.h0 execSbc_A_mHL), .ins (.h0 execSbc_A_A)]

def mainRunRowA : List RunSlot :=
  [.ins (.h0 execAnd_B), .ins (.h0 execAnd_C), .ins (.h0 execAnd_D), .ins (.h0 execAnd_E), .ins (.h0 execAnd_H),
   .ins (.h0 execAnd_L), .ins (.h0 execAnd_mHL), .ins (.h0 execAnd_A), .ins (.h0 execXor_B), .ins (.h0 execXor_C),
   .ins (.h0 execXor_D), .ins (.h0 execXor_E), .ins (.h0 execXor_H), .ins (.h0 execXor_L), .ins (.h0 execXor_mHL),
   .ins (.h0 execXor_A)]

def mainRunRowB : List RunSlot :=
  [.ins (.h0 execOr_B), .ins (.h0 execOr_C), .ins (.h0 execOr_D), .ins (.h0 execOr_E), .ins (.h0 execOr_H),
   .ins (.h0 execOr_L), .ins (.h0 execOr_mHL), .ins (.h0 execOr_A), .ins (.h0 execCp_B), .ins (.h0 execCp_C),
   .ins (.h0 execCp_D), .ins (.h0 execCp_E), .ins (.h0 execCp_H), .ins (.h0 execCp_L), .ins (.h0 execCp_mHL),
   .ins (.h0 execCp_A)]

def mainRunRowC : List RunSlot :=
  [.ins (.h0 execRet_NZ), .ins (.h0 execPop_BC), .ins (.h2 execJp_NZ_nn), .ins (.h2 execJp_nn),
   .ins (.h2 execCall_NZ_nn), .ins (.h0 execPush_BC), .ins (.h1 execAdd_A_n), .ins (.h0 execRst_00h),
   .ins (.h0 execRet_Z), .ins (.h0 execRet), .ins (.h2 execJp_Z_nn), .cb, .ins (.h2 execCall_Z_nn),
   .ins (.h2 execCall_nn), .ins (.h1 execAdc_A_n), .ins (.h0 execRst_08h)]

def mainRunRowD : List RunSlot :=
  [.ins (.h0 execRet_NC), .ins (.h0 execPop_DE), .ins (.h2 execJp_NC_nn), .ins (.h1 execOut_mn_A),
   .ins (.h2 execCall_NC_nn), .ins (.h0 execPush_DE), .ins (.h1 execSub_n), .ins (.h0 execRst_10h),
   .ins (.h0 execRet_C), .ins (.h0 execExx), .ins (.h2 execJp_C_nn), .ins (.h1 execIn_A_mn),
   .ins (.h2 execCall_C_nn), .dd, .ins (.h1 execSbc_A_n), .ins (.h0 execRst_18h)]

def mainRunRowE : List RunSlot :=
  [.ins (.h0 execRet_PO), .ins (.h0 execPop_HL), .ins (.h2 execJp_PO_nn), .ins (.h0 execEx_mSP_HL),
   .ins (.h2 execCall_PO_nn), .ins (.h0 execPush_HL), .ins (.h1 execAnd_n), .ins (.h0 execRst_20h),
   .ins (.h0 execRet_PE), .ins (.h0 execJp_mHL), .ins (.h2 execJp_PE_nn), .ins (.h0 execEx_DE_HL),
   .ins (.h2 execCall_PE_nn), .ed, .ins (.h1 execXor_n), .ins (.h0 execRst_28h)]

def mainRunRowF : List RunSlot :=
  [.ins (.h0 execRet_P), .ins (.h0 execPop_AF), .ins (.h2 execJp_P_nn), .ins (.h0 execDi), .ins (.h2 execCall_P_nn),
   .ins (.h0 execPush_AF), .ins (.h1 execOr_n), .ins (.h0 execRst_30h), .ins (.h0 execRet_M),
   .ins (.h0 execLd_SP_HL), .ins (.h2 execJp_M_nn), .ins (.h0 execEi), .ins (.h2 execCall_M_nn), .fd,
   .ins (.h1 execCp_n), .ins (.h0 execRst_38h)]

/-- Unprefixed. -/
def mainRunRows : List (List RunSlot) :=
  [mainRunRow0, mainRunRow1, mainRunRow2, mainRunRow3, mainRunRow4, mainRunRow5, mainRunRow6, mainRunRow7,
   mainRunRow8, mainRunRow9, mainRunRowA, mainRunRowB, mainRunRowC, mainRunRowD, mainRunRowE, mainRunRowF]

def cbRunRow0 : List Run :=
  [execRlc_B, execRlc_C, execRlc_D, execRlc_E, execRlc_H, execRlc_L, execRlc_mHL, execRlc_A, execRrc_B, execRrc_C,
   execRrc_D, execRrc_E, execRrc_H, execRrc_L, execRrc_mHL, execRrc_A]

def cbRunRow1 : List Run :=
  [execRl_B, execRl_C, execRl_D, execRl_E, execRl_H, execRl_L, execRl_mHL, execRl_A, execRr_B, execRr_C, execRr_D,
   execRr_E, execRr_H, execRr_L, execRr_mHL, execRr_A]

def cbRunRow2 : List Run :=
  [execSla_B, execSla_C, execSla_D, execSla_E, execSla_H, execSla_L, execSla_mHL, execSla_A, execSra_B, execSra_C,
   execSra_D, execSra_E, execSra_H, execSra_L, execSra_mHL, execSra_A]

def cbRunRow3 : List Run :=
  [execSll_B, execSll_C, execSll_D, execSll_E, execSll_H, execSll_L, execSll_mHL, execSll_A, execSrl_B, execSrl_C,
   execSrl_D, execSrl_E, execSrl_H, execSrl_L, execSrl_mHL, execSrl_A]

def cbRunRow4 : List Run :=
  [execBit_0_B, execBit_0_C, execBit_0_D, execBit_0_E, execBit_0_H, execBit_0_L, execBit_0_mHL, execBit_0_A,
   execBit_1_B, execBit_1_C, execBit_1_D, execBit_1_E, execBit_1_H, execBit_1_L, execBit_1_mHL, execBit_1_A]

def cbRunRow5 : List Run :=
  [execBit_2_B, execBit_2_C, execBit_2_D, execBit_2_E, execBit_2_H, execBit_2_L, execBit_2_mHL, execBit_2_A,
   execBit_3_B, execBit_3_C, execBit_3_D, execBit_3_E, execBit_3_H, execBit_3_L, execBit_3_mHL, execBit_3_A]

def cbRunRow6 : List Run :=
  [execBit_4_B, execBit_4_C, execBit_4_D, execBit_4_E, execBit_4_H, execBit_4_L, execBit_4_mHL, execBit_4_A,
   execBit_5_B, execBit_5_C, execBit_5_D, execBit_5_E, execBit_5_H, execBit_5_L, execBit_5_mHL, execBit_5_A]

def cbRunRow7 : List Run :=
  [execBit_6_B, execBit_6_C, execBit_6_D, execBit_6_E, execBit_6_H, execBit_6_L, execBit_6_mHL, execBit_6_A,
   execBit_7_B, execBit_7_C, execBit_7_D, execBit_7_E, execBit_7_H, execBit_7_L, execBit_7_mHL, execBit_7_A]

def cbRunRow8 : List Run :=
  [execRes_0_B, execRes_0_C, execRes_0_D, execRes_0_E, execRes_0_H, execRes_0_L, execRes_0_mHL, execRes_0_A,
   execRes_1_B, execRes_1_C, execRes_1_D, execRes_1_E, execRes_1_H, execRes_1_L, execRes_1_mHL, execRes_1_A]

def cbRunRow9 : List Run :=
  [execRes_2_B, execRes_2_C, execRes_2_D, execRes_2_E, execRes_2_H, execRes_2_L, execRes_2_mHL, execRes_2_A,
   execRes_3_B, execRes_3_C, execRes_3_D, execRes_3_E, execRes_3_H, execRes_3_L, execRes_3_mHL, execRes_3_A]

def cbRunRowA : List Run :=
  [execRes_4_B, execRes_4_C, execRes_4_D, execRes_4_E, execRes_4_H, execRes_4_L, execRes_4_mHL, execRes_4_A,
   execRes_5_B, execRes_5_C, execRes_5_D, execRes_5_E, execRes_5_H, execRes_5_L, execRes_5_mHL, execRes_5_A]

def cbRunRowB : List Run :=
  [execRes_6_B, execRes_6_C, execRes_6_D, execRes_6_E, execRes_6_H, execRes_6_L, execRes_6_mHL, execRes_6_A,
   execRes_7_B, execRes_7_C, execRes_7_D, execRes_7_E, execRes_7_H, execRes_7_L, execRes_7_mHL, execRes_7_A]

def cbRunRowC : List Run :=
  [execSet_0_B, execSet_0_C, execSet_0_D, execSet_0_E, execSet_0_H, execSet_0_L, execSet_0_mHL, execSet_0_A,
   execSet_1_B, execSet_1_C, execSet_1_D, execSet_1_E, execSet_1_H, execSet_1_L, execSet_1_mHL, execSet_1_A]

def cbRunRowD : List Run :=
  [execSet_2_B, execSet_2_C, execSet_2_D, execSet_2_E, execSet_2_H, execSet_2_L, execSet_2_mHL, execSet_2_A,
   execSet_3_B, execSet_3_C, execSet_3_D, execSet_3_E, execSet_3_H, execSet_3_L, execSet_3_mHL, execSet_3_A]

def cbRunRowE : List Run :=
  [execSet_4_B, execSet_4_C, execSet_4_D, execSet_4_E, execSet_4_H, execSet_4_L, execSet_4_mHL, execSet_4_A,
   execSet_5_B, execSet_5_C, execSet_5_D, execSet_5_E, execSet_5_H, execSet_5_L, execSet_5_mHL, execSet_5_A]

def cbRunRowF : List Run :=
  [execSet_6_B, execSet_6_C, execSet_6_D, execSet_6_E, execSet_6_H, execSet_6_L, execSet_6_mHL, execSet_6_A,
   execSet_7_B, execSet_7_C, execSet_7_D, execSet_7_E, execSet_7_H, execSet_7_L, execSet_7_mHL, execSet_7_A]

/-- After CB. -/
def cbRunRows : List (List Run) :=
  [cbRunRow0, cbRunRow1, cbRunRow2, cbRunRow3, cbRunRow4, cbRunRow5, cbRunRow6, cbRunRow7,
   cbRunRow8, cbRunRow9, cbRunRowA, cbRunRowB, cbRunRowC, cbRunRowD, cbRunRowE, cbRunRowF]

def edRunRow0 : List RunEntry :=
  [.h0 (execEd_nop 0x00), .h0 (execEd_nop 0x01), .h0 (execEd_nop 0x02), .h0 (execEd_nop 0x03), .h0 (execEd_nop 0x04),
   .h0 (execEd_nop 0x05), .h0 (execEd_nop 0x06), .h0 (execEd_nop 0x07), .h0 (execEd_nop 0x08), .h0 (execEd_nop 0x09),
   .h0 (execEd_nop 0x0A), .h0 (execEd_nop 0x0B), .h0 (execEd_nop 0x0C), .h0 (execEd_nop 0x0D), .h0 (execEd_nop 0x0E),
   .h0 (execEd_nop 0x0F)]

def edRunRow1 : List RunEntry :=
  [.h0 (execEd_nop 0x10), .h0 (execEd_nop 0x11), .h0 (execEd_nop 0x12), .h0 (execEd_nop 0x13), .h0 (execEd_nop 0x14),
   .h0 (execEd_nop 0x15), .h0 (execEd_nop 0x16), .h0 (execEd_nop 0x17), .h0 (execEd_nop 0x18), .h0 (execEd_nop 0x19),
   .h0 (execEd_nop 0x1A), .h0 (execEd_nop 0x1B), .h0 (execEd_nop 0x1C), .h0 (execEd_nop 0x1D), .h0 (execEd_nop 0x1E),
   .h0 (execEd_nop 0x1F)]

def edRunRow2 : List RunEntry :=
  [.h0 (execEd_nop 0x20), .h0 (execEd_nop 0x21), .h0 (execEd_nop 0x22), .h0 (execEd_nop 0x23), .h0 (execEd_nop 0x24),
   .h0 (execEd_nop 0x25), .h0 (execEd_nop 0x26), .h0 (execEd_nop 0x27), .h0 (execEd_nop 0x28), .h0 (execEd_nop 0x29),
   .h0 (execEd_nop 0x2A), .h0 (execEd_nop 0x2B), .h0 (execEd_nop 0x2C), .h0 (execEd_nop 0x2D), .h0 (execEd_nop 0x2E),
   .h0 (execEd_nop 0x2F)]

def edRunRow3 : List RunEntry :=
  [.h0 (execEd_nop 0x30), .h0 (execEd_nop 0x31), .h0 (execEd_nop 0x32), .h0 (execEd_nop 0x33), .h0 (execEd_nop 0x34),
   .h0 (execEd_nop 0x35), .h0 (execEd_nop 0x36), .h0 (execEd_nop 0x37), .h0 (execEd_nop 0x38), .h0 (execEd_nop 0x39),
   .h0 (execEd_nop 0x3A), .h0 (execEd_nop 0x3B), .h0 (execEd_nop 0x3C), .h0 (execEd_nop 0x3D), .h0 (execEd_nop 0x3E),
   .h0 (execEd_nop 0x3F)]

def edRunRow4 : List RunEntry :=
  [.h0 execIn_B_mC, .h0 execOut_mC_B, .h0 execSbc_HL_BC, .h2 execLd_mnn_BC, .h0 (execNeg 0), .h0 (execRetn 0),
   .h0 (execIm_0 false), .h0 execLd_I_A, .h0 execIn_C_mC, .h0 execOut_mC_C, .h0 execAdc_HL_BC, .h2 execLd_BC_mnn,
   .h0 (execNeg 1), .h0 execReti, .h0 (execIm_0_mirror false), .h0 execLd_R_A]

def edRunRow5 : List RunEntry :=
  [.h0 execIn_D_mC, .h0 execOut_mC_D, .h0 execSbc_HL_DE, .h2 execLd_mnn_DE, .h0 (execNeg 2), .h0 (execRetn 2),
   .h0 (execIm_1 false), .h0 execLd_A_I, .h0 execIn_E_mC, .h0 execOut_mC_E, .h0 execAdc_HL_DE, .h2 execLd_DE_mnn,
   .h0 (execNeg 3), .h0 (execRetn 3), .h0 (execIm_2 false), .h0 execLd_A_R]

def edRunRow6 : List RunEntry :=
  [.h0 execIn_H_mC, .h0 execOut_mC_H, .h0 execSbc_HL_HL, .h2 execLd_mnn_HL_ed, .h0 (execNeg 4), .h0 (execRetn 4),
   .h0 (execIm_0 true), .h0 execRrd, .h0 execIn_L_mC, .h0 execOut_mC_L, .h0 execAdc_HL_HL, .h2 execLd_HL_mnn_ed,
   .h0 (execNeg 5), .h0 (execRetn 5), .h0 (execIm_0_mirror true), .h0 execRld]

def edRunRow7 : List RunEntry :=
  [.h0 execIn_mC, .h0 execOut_mC_0, .h0 execSbc_HL_SP, .h2 execLd_mnn_SP, .h0 (execNeg 6), .h0 (execRetn 6),
   .h0 (execIm_1 true), .h0 (execEd_nop 0x77), .h0 execIn_A_mC, .h0 execOut_mC_A, .h0 execAdc_HL_SP,
   .h2 execLd_SP_mnn, .h0 (execNeg 7), .h0 (execRetn 7), .h0 (execIm_2 true), .h0 (execEd_nop 0x7F)]

def edRunRow8 : List RunEntry :=
  [.h0 (execEd_nop 0x80), .h0 (execEd_nop 0x81), .h0 (execEd_nop 0x82), .h0 (execEd_nop 0x83), .h0 (execEd_nop 0x84),
   .h0 (execEd_nop 0x85), .h0 (execEd_nop 0x86), .h0 (execEd_nop 0x87), .h0 (execEd_nop 0x88), .h0 (execEd_nop 0x89),
   .h0 (execEd_nop 0x8A), .h0 (execEd_nop 0x8B), .h0 (execEd_nop 0x8C), .h0 (execEd_nop 0x8D), .h0 (execEd_nop 0x8E),
   .h0 (execEd_nop 0x8F)]

def edRunRow9 : List RunEntry :=
  [.h0 (execEd_nop 0x90), .h0 (execEd_nop 0x91), .h0 (execEd_nop 0x92), .h0 (execEd_nop 0x93), .h0 (execEd_nop 0x94),
   .h0 (execEd_nop 0x95), .h0 (execEd_nop 0x96), .h0 (execEd_nop 0x97), .h0 (execEd_nop 0x98), .h0 (execEd_nop 0x99),
   .h0 (execEd_nop 0x9A), .h0 (execEd_nop 0x9B), .h0 (execEd_nop 0x9C), .h0 (execEd_nop 0x9D), .h0 (execEd_nop 0x9E),
   .h0 (execEd_nop 0x9F)]

def edRunRowA : List RunEntry :=
  [.h0 execLdi, .h0 execCpi, .h0 execIni, .h0 execOuti, .h0 (execEd_nop 0xA4), .h0 (execEd_nop 0xA5),
   .h0 (execEd_nop 0xA6), .h0 (execEd_nop 0xA7), .h0 execLdd, .h0 execCpd, .h0 execInd, .h0 execOutd,
   .h0 (execEd_nop 0xAC), .h0 (execEd_nop 0xAD), .h0 (execEd_nop 0xAE), .h0 (execEd_nop 0xAF)]

def edRunRowB : List RunEntry :=
  [.h0 execLdir, .h0 execCpir, .h0 execInir, .h0 execOtir, .h0 (execEd_nop 0xB4), .h0 (execEd_nop 0xB5),
   .h0 (execEd_nop 0xB6), .h0 (execEd_nop 0xB7), .h0 execLddr, .h0 execCpdr, .h0 execIndr, .h0 execOtdr,
   .h0 (execEd_nop 0xBC), .h0 (execEd_nop 0xBD), .h0 (execEd_nop 0xBE), .h0 (execEd_nop 0xBF)]

def edRunRowC : List RunEntry :=
  [.h0 (execEd_nop 0xC0), .h0 (execEd_nop 0xC1), .h0 (execEd_nop 0xC2), .h0 (execEd_nop 0xC3), .h0 (execEd_nop 0xC4),
   .h0 (execEd_nop 0xC5), .h0 (execEd_nop 0xC6), .h0 (execEd_nop 0xC7), .h0 (execEd_nop 0xC8), .h0 (execEd_nop 0xC9),
   .h0 (execEd_nop 0xCA), .h0 (execEd_nop 0xCB), .h0 (execEd_nop 0xCC), .h0 (execEd_nop 0xCD), .h0 (execEd_nop 0xCE),
   .h0 (execEd_nop 0xCF)]

def edRunRowD : List RunEntry :=
  [.h0 (execEd_nop 0xD0), .h0 (execEd_nop 0xD1), .h0 (execEd_nop 0xD2), .h0 (execEd_nop 0xD3), .h0 (execEd_nop 0xD4),
   .h0 (execEd_nop 0xD5), .h0 (execEd_nop 0xD6), .h0 (execEd_nop 0xD7), .h0 (execEd_nop 0xD8), .h0 (execEd_nop 0xD9),
   .h0 (execEd_nop 0xDA), .h0 (execEd_nop 0xDB), .h0 (execEd_nop 0xDC), .h0 (execEd_nop 0xDD), .h0 (execEd_nop 0xDE),
   .h0 (execEd_nop 0xDF)]

def edRunRowE : List RunEntry :=
  [.h0 (execEd_nop 0xE0), .h0 (execEd_nop 0xE1), .h0 (execEd_nop 0xE2), .h0 (execEd_nop 0xE3), .h0 (execEd_nop 0xE4),
   .h0 (execEd_nop 0xE5), .h0 (execEd_nop 0xE6), .h0 (execEd_nop 0xE7), .h0 (execEd_nop 0xE8), .h0 (execEd_nop 0xE9),
   .h0 (execEd_nop 0xEA), .h0 (execEd_nop 0xEB), .h0 (execEd_nop 0xEC), .h0 (execEd_nop 0xED), .h0 (execEd_nop 0xEE),
   .h0 (execEd_nop 0xEF)]

def edRunRowF : List RunEntry :=
  [.h0 (execEd_nop 0xF0), .h0 (execEd_nop 0xF1), .h0 (execEd_nop 0xF2), .h0 (execEd_nop 0xF3), .h0 (execEd_nop 0xF4),
   .h0 (execEd_nop 0xF5), .h0 (execEd_nop 0xF6), .h0 (execEd_nop 0xF7), .h0 (execEd_nop 0xF8), .h0 (execEd_nop 0xF9),
   .h0 (execEd_nop 0xFA), .h0 (execEd_nop 0xFB), .h0 (execEd_nop 0xFC), .h0 (execEd_nop 0xFD), .h0 (execEd_nop 0xFE),
   .h0 (execEd_nop 0xFF)]

/-- After ED. -/
def edRunRows : List (List RunEntry) :=
  [edRunRow0, edRunRow1, edRunRow2, edRunRow3, edRunRow4, edRunRow5, edRunRow6, edRunRow7,
   edRunRow8, edRunRow9, edRunRowA, edRunRowB, edRunRowC, edRunRowD, edRunRowE, edRunRowF]

def ddRunRow0 : List RunSlot :=
  [.ins (.h0 execDd_nop), .ins (.h2 execDd_ld_BC_nn), .ins (.h0 execDd_ld_mBC_A), .ins (.h0 execDd_inc_BC),
   .ins (.h0 execDd_inc_B), .ins (.h0 execDd_dec_B), .ins (.h1 execDd_ld_B_n), .ins (.h0 execDd_rlca),
   .ins (.h0 execDd_ex_AF_AF), .ins (.h0 execAdd_IX_BC), .ins (.h0 execDd_ld_A_mBC), .ins (.h0 execDd_dec_BC),
   .ins (.h0 execDd_inc_C), .ins (.h0 execDd_dec_C), .ins (.h1 execDd_ld_C_n), .ins (.h0 execDd_rrca)]

def ddRunRow1 : List RunSlot :=
  [.ins (.h1 execDd_djnz_e), .ins (.h2 execDd_ld_DE_nn), .ins (.h0 execDd_ld_mDE_A), .ins (.h0 execDd_inc_DE),
   .ins (.h0 execDd_inc_D), .ins (.h0 execDd_dec_D), .ins (.h1 execDd_ld_D_n), .ins (.h0 execDd_rla),
   .ins (.h1 execDd_jr_e), .ins (.h0 execAdd_IX_DE), .ins (.h0 execDd_ld_A_mDE), .ins (.h0 execDd_dec_DE),
   .ins (.h0 execDd_inc_E), .ins (.h0 execDd_dec_E), .ins (.h1 execDd_ld_E_n), .ins (.h0 execDd_rra)]

def ddRunRow2 : List RunSlot :=
  [.ins (.h1 execDd_jr_NZ_e), .ins (.h2 execLd_IX_nn), .ins (.h2 execLd_mnn_IX), .ins (.h0 execInc_IX),
   .ins (.h0 execInc_IXH), .ins (.h0 execDec_IXH), .ins (.h1 execLd_IXH_n), .ins (.h0 execDd_daa),
   .ins (.h1 execDd_jr_Z_e), .ins (.h0 execAdd_IX_IX), .ins (.h2 execLd_IX_mnn), .ins (.h0 execDec_IX),
   .ins (.h0 execInc_IXL), .ins (.h0 execDec_IXL), .ins (.h1 execLd_IXL_n), .ins (.h0 execDd_cpl)]

def ddRunRow3 : List RunSlot :=
  [.ins (.h1 execDd_jr_NC_e), .ins (.h2 execDd_ld_SP_nn), .ins (.h2 execDd_ld_mnn_A), .ins (.h0 execDd_inc_SP),
   .ins (.h1 execInc_mIXd), .ins (.h1 execDec_mIXd), .ins (.h11 execLd_mIXd_n), .ins (.h0 execDd_scf),
   .ins (.h1 execDd_jr_C_e), .ins (.h0 execAdd_IX_SP), .ins (.h2 execDd_ld_A_mnn), .ins (.h0 execDd_dec_SP),
   .ins (.h0 execDd_inc_A), .ins (.h0 execDd_dec_A), .ins (.h1 execDd_ld_A_n), .ins (.h0 execDd_ccf)]

def ddRunRow4 : List RunSlot :=
  [.ins (.h0 execDd_ld_B_B), .ins (.h0 execDd_ld_B_C), .ins (.h0 execDd_ld_B_D), .ins (.h0 execDd_ld_B_E),
   .ins (.h0 execLd_B_IXH), .ins (.h0 execLd_B_IXL), .ins (.h1 execLd_B_mIXd), .ins (.h0 execDd_ld_B_A),
   .ins (.h0 execDd_ld_C_B), .ins (.h0 execDd_ld_C_C), .ins (.h0 execDd_ld_C_D), .ins (.h0 execDd_ld_C_E),
   .ins (.h0 execLd_C_IXH), .ins (.h0 execLd_C_IXL), .ins (.h1 execLd_C_mIXd), .ins (.h0 execDd_ld_C_A)]

def ddRunRow5 : List RunSlot :=
  [.ins (.h0 execDd_ld_D_B), .ins (.h0 execDd_ld_D_C), .ins (.h0 execDd_ld_D_D), .ins (.h0 execDd_ld_D_E),
   .ins (.h0 execLd_D_IXH), .ins (.h0 execLd_D_IXL), .ins (.h1 execLd_D_mIXd), .ins (.h0 execDd_ld_D_A),
   .ins (.h0 execDd_ld_E_B), .ins (.h0 execDd_ld_E_C), .ins (.h0 execDd_ld_E_D), .ins (.h0 execDd_ld_E_E),
   .ins (.h0 execLd_E_IXH), .ins (.h0 execLd_E_IXL), .ins (.h1 execLd_E_mIXd), .ins (.h0 execDd_ld_E_A)]

def ddRunRow6 : List RunSlot :=
  [.ins (.h0 execLd_IXH_B), .ins (.h0 execLd_IXH_C), .ins (.h0 execLd_IXH_D), .ins (.h0 execLd_IXH_E),
   .ins (.h0 execLd_IXH_IXH), .ins (.h0 execLd_IXH_IXL), .ins (.h1 execLd_H_mIXd), .ins (.h0 execLd_IXH_A),
   .ins (.h0 execLd_IXL_B), .ins (.h0 execLd_IXL_C), .ins (.h0 execLd_IXL_D), .ins (.h0 execLd_IXL_E),
   .ins (.h0 execLd_IXL_IXH), .ins (.h0 execLd_IXL_IXL), .ins (.h1 execLd_L_mIXd), .ins (.h0 execLd_IXL_A)]

def ddRunRow7 : List RunSlot :=
  [.ins (.h1 execLd_mIXd_B), .ins (.h1 execLd_mIXd_C), .ins (.h1 execLd_mIXd_D), .ins (.h1 execLd_mIXd_E),
   .ins (.h1 execLd_mIXd_H), .ins (.h1 execLd_mIXd_L), .ins (.h0 execDd_halt), .ins (.h1 execLd_mIXd_A),
   .ins (.h0 execDd_ld_A_B), .ins (.h0 execDd_ld_A_C), .ins (.h0 execDd_ld_A_D), .ins (.h0 execDd_ld_A_E),
   .ins (.h0 execLd_A_IXH), .ins (.h0 execLd_A_IXL), .ins (.h1 execLd_A_mIXd), .ins (.h0 execDd_ld_A_A)]

def ddRunRow8 : List RunSlot :=
  [.ins (.h0 execDd_add_A_B), .ins (.h0 execDd_add_A_C), .ins (.h0 execDd_add_A_D), .ins (.h0 execDd_add_A_E),
   .ins (.h0 execAdd_A_IXH), .ins (.h0 execAdd_A_IXL), .ins (.h1 execAdd_A_mIXd), .ins (.h0 execDd_add_A_A),
   .ins (.h0 execDd_adc_A_B), .ins (.h0 execDd_adc_A_C), .ins (.h0 execDd_adc_A_D), .ins (.h0 execDd_adc_A_E),
   .ins (.h0 execAdc_A_IXH), .ins (.h0 execAdc_A_IXL), .ins (.h1 execAdc_A_mIXd), .ins (.h0 execDd_adc_A_A)]

def ddRunRow9 : List RunSlot :=
  [.ins (.h0 execDd_sub_B), .ins (.h0 execDd_sub_C), .ins (.h0 execDd_sub_D), .ins (.h0 execDd_sub_E),
   .ins (.h0 execSub_IXH), .ins (.h0 execSub_IXL), .ins (.h1 execSub_mIXd), .ins (.h0 execDd_sub_A),
   .ins (.h0 execDd_sbc_A_B), .ins (.h0 execDd_sbc_A_C), .ins (.h0 execDd_sbc_A_D), .ins (.h0 execDd_sbc_A_E),
   .ins (.h0 execSbc_A_IXH), .ins (.h0 execSbc_A_IXL), .ins (.h1 execSbc_A_mIXd), .ins (.h0 execDd_sbc_A_A)]

def ddRunRowA : List RunSlot :=
  [.ins (.h0 execDd_and_B), .ins (.h0 execDd_and_C), .ins (.h0 execDd_and_D), .ins (.h0 execDd_and_E),
   .ins (.h0 execAnd_IXH), .ins (.h0 execAnd_IXL), .ins (.h1 execAnd_mIXd), .ins (.h0 execDd_and_A),
   .ins (.h0 execDd_xor_B), .ins (.h0 execDd_xor_C), .ins (.h0 execDd_xor_D), .ins (.h0 execDd_xor_E),
   .ins (.h0 execXor_IXH), .ins (.h0 execXor_IXL), .ins (.h1 execXor_mIXd), .ins (.h0 execDd_xor_A)]

def ddRunRowB : List RunSlot :=
  [.ins (.h0 execDd_or_B), .ins (.h0 execDd_or_C), .ins (.h0 execDd_or_D), .ins (.h0 execDd_or_E),
   .ins (.h0 execOr_IXH), .ins (.h0 execOr_IXL), .ins (.h1 execOr_mIXd), .ins (.h0 execDd_or_A),
   .ins (.h0 execDd_cp_B), .ins (.h0 execDd_cp_C), .ins (.h0 execDd_cp_D), .ins (.h0 execDd_cp_E),
   .ins (.h0 execCp_IXH), .ins (.h0 execCp_IXL), .ins (.h1 execCp_mIXd), .ins (.h0 execDd_cp_A)]

def ddRunRowC : List RunSlot :=
  [.ins (.h0 execDd_ret_NZ), .ins (.h0 execDd_pop_BC), .ins (.h2 execDd_jp_NZ_nn), .ins (.h2 execDd_jp_nn),
   .ins (.h2 execDd_call_NZ_nn), .ins (.h0 execDd_push_BC), .ins (.h1 execDd_add_A_n), .ins (.h0 execDd_rst_00h),
   .ins (.h0 execDd_ret_Z), .ins (.h0 execDd_ret), .ins (.h2 execDd_jp_Z_nn), .cb, .ins (.h2 execDd_call_Z_nn),
   .ins (.h2 execDd_call_nn), .ins (.h1 execDd_adc_A_n), .ins (.h0 execDd_rst_08h)]

def ddRunRowD : List RunSlot :=
  [.ins (.h0 execDd_ret_NC), .ins (.h0 execDd_pop_DE), .ins (.h2 execDd_jp_NC_nn), .ins (.h1 execDd_out_mn_A),
   .ins (.h2 execDd_call_NC_nn), .ins (.h0 execDd_push_DE), .ins (.h1 execDd_sub_n), .ins (.h0 execDd_rst_10h),
   .ins (.h0 execDd_ret_C), .ins (.h0 execDd_exx), .ins (.h2 execDd_jp_C_nn), .ins (.h1 execDd_in_A_mn),
   .ins (.h2 execDd_call_C_nn), .dd, .ins (.h1 execDd_sbc_A_n), .ins (.h0 execDd_rst_18h)]

def ddRunRowE : List RunSlot :=
  [.ins (.h0 execDd_ret_PO), .ins (.h0 execPop_IX), .ins (.h2 execDd_jp_PO_nn), .ins (.h0 execEx_mSP_IX),
   .ins (.h2 execDd_call_PO_nn), .ins (.h0 execPush_IX), .ins (.h1 execDd_and_n), .ins (.h0 execDd_rst_20h),
   .ins (.h0 execDd_ret_PE), .ins (.h0 execJp_mIX), .ins (.h2 execDd_jp_PE_nn), .ins (.h0 execDd_ex_DE_HL),
   .ins (.h2 execDd_call_PE_nn), .ed, .ins (.h1 execDd_xor_n), .ins (.h0 execDd_rst_28h)]

def ddRunRowF : List RunSlot :=
  [.ins (.h0 execDd_ret_P), .ins (.h0 execDd_pop_AF), .ins (.h2 execDd_jp_P_nn), .ins (.h0 execDd_di),
   .ins (.h2 execDd_call_P_nn), .ins (.h0 execDd_push_AF), .ins (.h1 execDd_or_n), .ins (.h0 execDd_rst_30h),
   .ins (.h0 execDd_ret_M), .ins (.h0 execLd_SP_IX), .ins (.h2 execDd_jp_M_nn), .ins (.h0 execDd_ei),
   .ins (.h2 execDd_call_M_nn), .fd, .ins (.h1 execDd_cp_n), .ins (.h0 execDd_rst_38h)]

/-- After DD. -/
def ddRunRows : List (List RunSlot) :=
  [ddRunRow0, ddRunRow1, ddRunRow2, ddRunRow3, ddRunRow4, ddRunRow5, ddRunRow6, ddRunRow7,
   ddRunRow8, ddRunRow9, ddRunRowA, ddRunRowB, ddRunRowC, ddRunRowD, ddRunRowE, ddRunRowF]

def fdRunRow0 : List RunSlot :=
  [.ins (.h0 execFd_nop), .ins (.h2 execFd_ld_BC_nn), .ins (.h0 execFd_ld_mBC_A), .ins (.h0 execFd_inc_BC),
   .ins (.h0 execFd_inc_B), .ins (.h0 execFd_dec_B), .ins (.h1 execFd_ld_B_n), .ins (.h0 execFd_rlca),
   .ins (.h0 execFd_ex_AF_AF), .ins (.h0 execAdd_IY_BC), .ins (.h0 execFd_ld_A_mBC), .ins (.h0 execFd_dec_BC),
   .ins (.h0 execFd_inc_C), .ins (.h0 execFd_dec_C), .ins (.h1 execFd_ld_C_n), .ins (.h0 execFd_rrca)]

def fdRunRow1 : List RunSlot :=
  [.ins (.h1 execFd_djnz_e), .ins (.h2 execFd_ld_DE_nn), .ins (.h0 execFd_ld_mDE_A), .ins (.h0 execFd_inc_DE),
   .ins (.h0 execFd_inc_D), .ins (.h0 execFd_dec_D), .ins (.h1 execFd_ld_D_n), .ins (.h0 execFd_rla),
   .ins (.h1 execFd_jr_e), .ins (.h0 execAdd_IY_DE), .ins (.h0 execFd_ld_A_mDE), .ins (.h0 execFd_dec_DE),
   .ins (.h0 execFd_inc_E), .ins (.h0 execFd_dec_E), .ins (.h1 execFd_ld_E_n), .ins (.h0 execFd_rra)]

def fdRunRow2 : List RunSlot :=
  [.ins (.h1 execFd_jr_NZ_e), .ins (.h2 execLd_IY_nn), .ins (.h2 execLd_mnn_IY), .ins (.h0 execInc_IY),
   .ins (.h0 execInc_IYH), .ins (.h0 execDec_IYH), .ins (.h1 execLd_IYH_n), .ins (.h0 execFd_daa),
   .ins (.h1 execFd_jr_Z_e), .ins (.h0 execAdd_IY_IY), .ins (.h2 execLd_IY_mnn), .ins (.h0 execDec_IY),
   .ins (.h0 execInc_IYL), .ins (.h0 execDec_IYL), .ins (.h1 execLd_IYL_n), .ins (.h0 execFd_cpl)]

def fdRunRow3 : List RunSlot :=
  [.ins (.h1 execFd_jr_NC_e), .ins (.h2 execFd_ld_SP_nn), .ins (.h2 execFd_ld_mnn_A), .ins (.h0 execFd_inc_SP),
   .ins (.h1 execInc_mIYd), .ins (.h1 execDec_mIYd), .ins (.h11 execLd_mIYd_n), .ins (.h0 execFd_scf),
   .ins (.h1 execFd_jr_C_e), .ins (.h0 execAdd_IY_SP), .ins (.h2 execFd_ld_A_mnn), .ins (.h0 execFd_dec_SP),
   .ins (.h0 execFd_inc_A), .ins (.h0 execFd_dec_A), .ins (.h1 execFd_ld_A_n), .ins (.h0 execFd_ccf)]

def fdRunRow4 : List RunSlot :=
  [.ins (.h0 execFd_ld_B_B), .ins (.h0 execFd_ld_B_C), .ins (.h0 execFd_ld_B_D), .ins (.h0 execFd_ld_B_E),
   .ins (.h0 execLd_B_IYH), .ins (.h0 execLd_B_IYL), .ins (.h1 execLd_B_mIYd), .ins (.h0 execFd_ld_B_A),
   .ins (.h0 execFd_ld_C_B), .ins (.h0 execFd_ld_C_C), .ins (.h0 execFd_ld_C_D), .ins (.h0 execFd_ld_C_E),
   .ins (.h0 execLd_C_IYH), .ins (.h0 execLd_C_IYL), .ins (.h1 execLd_C_mIYd), .ins (.h0 execFd_ld_C_A)]

def fdRunRow5 : List RunSlot :=
  [.ins (.h0 execFd_ld_D_B), .ins (.h0 execFd_ld_D_C), .ins (.h0 execFd_ld_D_D), .ins (.h0 execFd_ld_D_E),
   .ins (.h0 execLd_D_IYH), .ins (.h0 execLd_D_IYL), .ins (.h1 execLd_D_mIYd), .ins (.h0 execFd_ld_D_A),
   .ins (.h0 execFd_ld_E_B), .ins (.h0 execFd_ld_E_C), .ins (.h0 execFd_ld_E_D), .ins (.h0 execFd_ld_E_E),
   .ins (.h0 execLd_E_IYH), .ins (.h0 execLd_E_IYL), .ins (.h1 execLd_E_mIYd), .ins (.h0 execFd_ld_E_A)]

def fdRunRow6 : List RunSlot :=
  [.ins (.h0 execLd_IYH_B), .ins (.h0 execLd_IYH_C), .ins (.h0 execLd_IYH_D), .ins (.h0 execLd_IYH_E),
   .ins (.h0 execLd_IYH_IYH), .ins (.h0 execLd_IYH_IYL), .ins (.h1 execLd_H_mIYd), .ins (.h0 execLd_IYH_A),
   .ins (.h0 execLd_IYL_B), .ins (.h0 execLd_IYL_C), .ins (.h0 execLd_IYL_D), .ins (.h0 execLd_IYL_E),
   .ins (.h0 execLd_IYL_IYH), .ins (.h0 execLd_IYL_IYL), .ins (.h1 execLd_L_mIYd), .ins (.h0 execLd_IYL_A)]

def fdRunRow7 : List RunSlot :=
  [.ins (.h1 execLd_mIYd_B), .ins (.h1 execLd_mIYd_C), .ins (.h1 execLd_mIYd_D), .ins (.h1 execLd_mIYd_E),
   .ins (.h1 execLd_mIYd_H), .ins (.h1 execLd_mIYd_L), .ins (.h0 execFd_halt), .ins (.h1 execLd_mIYd_A),
   .ins (.h0 execFd_ld_A_B), .ins (.h0 execFd_ld_A_C), .ins (.h0 execFd_ld_A_D), .ins (.h0 execFd_ld_A_E),
   .ins (.h0 execLd_A_IYH), .ins (.h0 execLd_A_IYL), .ins (.h1 execLd_A_mIYd), .ins (.h0 execFd_ld_A_A)]

def fdRunRow8 : List RunSlot :=
  [.ins (.h0 execFd_add_A_B), .ins (.h0 execFd_add_A_C), .ins (.h0 execFd_add_A_D), .ins (.h0 execFd_add_A_E),
   .ins (.h0 execAdd_A_IYH), .ins (.h0 execAdd_A_IYL), .ins (.h1 execAdd_A_mIYd), .ins (.h0 execFd_add_A_A),
   .ins (.h0 execFd_adc_A_B), .ins (.h0 execFd_adc_A_C), .ins (.h0 execFd_adc_A_D), .ins (.h0 execFd_adc_A_E),
   .ins (.h0 execAdc_A_IYH), .ins (.h0 execAdc_A_IYL), .ins (.h1 execAdc_A_mIYd), .ins (.h0 execFd_adc_A_A)]

def fdRunRow9 : List RunSlot :=
  [.ins (.h0 execFd_sub_B), .ins (.h0 execFd_sub_C), .ins (.h0 execFd_sub_D), .ins (.h0 execFd_sub_E),
   .ins (.h0 execSub_IYH), .ins (.h0 execSub_IYL), .ins (.h1 execSub_mIYd), .ins (.h0 execFd_sub_A),
   .ins (.h0 execFd_sbc_A_B), .ins (.h0 execFd_sbc_A_C), .ins (.h0 execFd_sbc_A_D), .ins (.h0 execFd_sbc_A_E),
   .ins (.h0 execSbc_A_IYH), .ins (.h0 execSbc_A_IYL), .ins (.h1 execSbc_A_mIYd), .ins (.h0 execFd_sbc_A_A)]

def fdRunRowA : List RunSlot :=
  [.ins (.h0 execFd_and_B), .ins (.h0 execFd_and_C), .ins (.h0 execFd_and_D), .ins (.h0 execFd_and_E),
   .ins (.h0 execAnd_IYH), .ins (.h0 execAnd_IYL), .ins (.h1 execAnd_mIYd), .ins (.h0 execFd_and_A),
   .ins (.h0 execFd_xor_B), .ins (.h0 execFd_xor_C), .ins (.h0 execFd_xor_D), .ins (.h0 execFd_xor_E),
   .ins (.h0 execXor_IYH), .ins (.h0 execXor_IYL), .ins (.h1 execXor_mIYd), .ins (.h0 execFd_xor_A)]

def fdRunRowB : List RunSlot :=
  [.ins (.h0 execFd_or_B), .ins (.h0 execFd_or_C), .ins (.h0 execFd_or_D), .ins (.h0 execFd_or_E),
   .ins (.h0 execOr_IYH), .ins (.h0 execOr_IYL), .ins (.h1 execOr_mIYd), .ins (.h0 execFd_or_A),
   .ins (.h0 execFd_cp_B), .ins (.h0 execFd_cp_C), .ins (.h0 execFd_cp_D), .ins (.h0 execFd_cp_E),
   .ins (.h0 execCp_IYH), .ins (.h0 execCp_IYL), .ins (.h1 execCp_mIYd), .ins (.h0 execFd_cp_A)]

def fdRunRowC : List RunSlot :=
  [.ins (.h0 execFd_ret_NZ), .ins (.h0 execFd_pop_BC), .ins (.h2 execFd_jp_NZ_nn), .ins (.h2 execFd_jp_nn),
   .ins (.h2 execFd_call_NZ_nn), .ins (.h0 execFd_push_BC), .ins (.h1 execFd_add_A_n), .ins (.h0 execFd_rst_00h),
   .ins (.h0 execFd_ret_Z), .ins (.h0 execFd_ret), .ins (.h2 execFd_jp_Z_nn), .cb, .ins (.h2 execFd_call_Z_nn),
   .ins (.h2 execFd_call_nn), .ins (.h1 execFd_adc_A_n), .ins (.h0 execFd_rst_08h)]

def fdRunRowD : List RunSlot :=
  [.ins (.h0 execFd_ret_NC), .ins (.h0 execFd_pop_DE), .ins (.h2 execFd_jp_NC_nn), .ins (.h1 execFd_out_mn_A),
   .ins (.h2 execFd_call_NC_nn), .ins (.h0 execFd_push_DE), .ins (.h1 execFd_sub_n), .ins (.h0 execFd_rst_10h),
   .ins (.h0 execFd_ret_C), .ins (.h0 execFd_exx), .ins (.h2 execFd_jp_C_nn), .ins (.h1 execFd_in_A_mn),
   .ins (.h2 execFd_call_C_nn), .dd, .ins (.h1 execFd_sbc_A_n), .ins (.h0 execFd_rst_18h)]

def fdRunRowE : List RunSlot :=
  [.ins (.h0 execFd_ret_PO), .ins (.h0 execPop_IY), .ins (.h2 execFd_jp_PO_nn), .ins (.h0 execEx_mSP_IY),
   .ins (.h2 execFd_call_PO_nn), .ins (.h0 execPush_IY), .ins (.h1 execFd_and_n), .ins (.h0 execFd_rst_20h),
   .ins (.h0 execFd_ret_PE), .ins (.h0 execJp_mIY), .ins (.h2 execFd_jp_PE_nn), .ins (.h0 execFd_ex_DE_HL),
   .ins (.h2 execFd_call_PE_nn), .ed, .ins (.h1 execFd_xor_n), .ins (.h0 execFd_rst_28h)]

def fdRunRowF : List RunSlot :=
  [.ins (.h0 execFd_ret_P), .ins (.h0 execFd_pop_AF), .ins (.h2 execFd_jp_P_nn), .ins (.h0 execFd_di),
   .ins (.h2 execFd_call_P_nn), .ins (.h0 execFd_push_AF), .ins (.h1 execFd_or_n), .ins (.h0 execFd_rst_30h),
   .ins (.h0 execFd_ret_M), .ins (.h0 execLd_SP_IY), .ins (.h2 execFd_jp_M_nn), .ins (.h0 execFd_ei),
   .ins (.h2 execFd_call_M_nn), .fd, .ins (.h1 execFd_cp_n), .ins (.h0 execFd_rst_38h)]

/-- After FD. -/
def fdRunRows : List (List RunSlot) :=
  [fdRunRow0, fdRunRow1, fdRunRow2, fdRunRow3, fdRunRow4, fdRunRow5, fdRunRow6, fdRunRow7,
   fdRunRow8, fdRunRow9, fdRunRowA, fdRunRowB, fdRunRowC, fdRunRowD, fdRunRowE, fdRunRowF]

def ddcbRunRow0 : List (Byte → Run) :=
  [execRlc_mIXd_B, execRlc_mIXd_C, execRlc_mIXd_D, execRlc_mIXd_E, execRlc_mIXd_H, execRlc_mIXd_L, execRlc_mIXd,
   execRlc_mIXd_A, execRrc_mIXd_B, execRrc_mIXd_C, execRrc_mIXd_D, execRrc_mIXd_E, execRrc_mIXd_H, execRrc_mIXd_L,
   execRrc_mIXd, execRrc_mIXd_A]

def ddcbRunRow1 : List (Byte → Run) :=
  [execRl_mIXd_B, execRl_mIXd_C, execRl_mIXd_D, execRl_mIXd_E, execRl_mIXd_H, execRl_mIXd_L, execRl_mIXd,
   execRl_mIXd_A, execRr_mIXd_B, execRr_mIXd_C, execRr_mIXd_D, execRr_mIXd_E, execRr_mIXd_H, execRr_mIXd_L,
   execRr_mIXd, execRr_mIXd_A]

def ddcbRunRow2 : List (Byte → Run) :=
  [execSla_mIXd_B, execSla_mIXd_C, execSla_mIXd_D, execSla_mIXd_E, execSla_mIXd_H, execSla_mIXd_L, execSla_mIXd,
   execSla_mIXd_A, execSra_mIXd_B, execSra_mIXd_C, execSra_mIXd_D, execSra_mIXd_E, execSra_mIXd_H, execSra_mIXd_L,
   execSra_mIXd, execSra_mIXd_A]

def ddcbRunRow3 : List (Byte → Run) :=
  [execSll_mIXd_B, execSll_mIXd_C, execSll_mIXd_D, execSll_mIXd_E, execSll_mIXd_H, execSll_mIXd_L, execSll_mIXd,
   execSll_mIXd_A, execSrl_mIXd_B, execSrl_mIXd_C, execSrl_mIXd_D, execSrl_mIXd_E, execSrl_mIXd_H, execSrl_mIXd_L,
   execSrl_mIXd, execSrl_mIXd_A]

def ddcbRunRow4 : List (Byte → Run) :=
  [execBit_0_mIXd 0, execBit_0_mIXd 1, execBit_0_mIXd 2, execBit_0_mIXd 3, execBit_0_mIXd 4, execBit_0_mIXd 5,
   execBit_0_mIXd 6, execBit_0_mIXd 7, execBit_1_mIXd 0, execBit_1_mIXd 1, execBit_1_mIXd 2, execBit_1_mIXd 3,
   execBit_1_mIXd 4, execBit_1_mIXd 5, execBit_1_mIXd 6, execBit_1_mIXd 7]

def ddcbRunRow5 : List (Byte → Run) :=
  [execBit_2_mIXd 0, execBit_2_mIXd 1, execBit_2_mIXd 2, execBit_2_mIXd 3, execBit_2_mIXd 4, execBit_2_mIXd 5,
   execBit_2_mIXd 6, execBit_2_mIXd 7, execBit_3_mIXd 0, execBit_3_mIXd 1, execBit_3_mIXd 2, execBit_3_mIXd 3,
   execBit_3_mIXd 4, execBit_3_mIXd 5, execBit_3_mIXd 6, execBit_3_mIXd 7]

def ddcbRunRow6 : List (Byte → Run) :=
  [execBit_4_mIXd 0, execBit_4_mIXd 1, execBit_4_mIXd 2, execBit_4_mIXd 3, execBit_4_mIXd 4, execBit_4_mIXd 5,
   execBit_4_mIXd 6, execBit_4_mIXd 7, execBit_5_mIXd 0, execBit_5_mIXd 1, execBit_5_mIXd 2, execBit_5_mIXd 3,
   execBit_5_mIXd 4, execBit_5_mIXd 5, execBit_5_mIXd 6, execBit_5_mIXd 7]

def ddcbRunRow7 : List (Byte → Run) :=
  [execBit_6_mIXd 0, execBit_6_mIXd 1, execBit_6_mIXd 2, execBit_6_mIXd 3, execBit_6_mIXd 4, execBit_6_mIXd 5,
   execBit_6_mIXd 6, execBit_6_mIXd 7, execBit_7_mIXd 0, execBit_7_mIXd 1, execBit_7_mIXd 2, execBit_7_mIXd 3,
   execBit_7_mIXd 4, execBit_7_mIXd 5, execBit_7_mIXd 6, execBit_7_mIXd 7]

def ddcbRunRow8 : List (Byte → Run) :=
  [execRes_0_mIXd_B, execRes_0_mIXd_C, execRes_0_mIXd_D, execRes_0_mIXd_E, execRes_0_mIXd_H, execRes_0_mIXd_L,
   execRes_0_mIXd, execRes_0_mIXd_A, execRes_1_mIXd_B, execRes_1_mIXd_C, execRes_1_mIXd_D, execRes_1_mIXd_E,
   execRes_1_mIXd_H, execRes_1_mIXd_L, execRes_1_mIXd, execRes_1_mIXd_A]

def ddcbRunRow9 : List (Byte → Run) :=
  [execRes_2_mIXd_B, execRes_2_mIXd_C, execRes_2_mIXd_D, execRes_2_mIXd_E, execRes_2_mIXd_H, execRes_2_mIXd_L,
   execRes_2_mIXd, execRes_2_mIXd_A, execRes_3_mIXd_B, execRes_3_mIXd_C, execRes_3_mIXd_D, execRes_3_mIXd_E,
   execRes_3_mIXd_H, execRes_3_mIXd_L, execRes_3_mIXd, execRes_3_mIXd_A]

def ddcbRunRowA : List (Byte → Run) :=
  [execRes_4_mIXd_B, execRes_4_mIXd_C, execRes_4_mIXd_D, execRes_4_mIXd_E, execRes_4_mIXd_H, execRes_4_mIXd_L,
   execRes_4_mIXd, execRes_4_mIXd_A, execRes_5_mIXd_B, execRes_5_mIXd_C, execRes_5_mIXd_D, execRes_5_mIXd_E,
   execRes_5_mIXd_H, execRes_5_mIXd_L, execRes_5_mIXd, execRes_5_mIXd_A]

def ddcbRunRowB : List (Byte → Run) :=
  [execRes_6_mIXd_B, execRes_6_mIXd_C, execRes_6_mIXd_D, execRes_6_mIXd_E, execRes_6_mIXd_H, execRes_6_mIXd_L,
   execRes_6_mIXd, execRes_6_mIXd_A, execRes_7_mIXd_B, execRes_7_mIXd_C, execRes_7_mIXd_D, execRes_7_mIXd_E,
   execRes_7_mIXd_H, execRes_7_mIXd_L, execRes_7_mIXd, execRes_7_mIXd_A]

def ddcbRunRowC : List (Byte → Run) :=
  [execSet_0_mIXd_B, execSet_0_mIXd_C, execSet_0_mIXd_D, execSet_0_mIXd_E, execSet_0_mIXd_H, execSet_0_mIXd_L,
   execSet_0_mIXd, execSet_0_mIXd_A, execSet_1_mIXd_B, execSet_1_mIXd_C, execSet_1_mIXd_D, execSet_1_mIXd_E,
   execSet_1_mIXd_H, execSet_1_mIXd_L, execSet_1_mIXd, execSet_1_mIXd_A]

def ddcbRunRowD : List (Byte → Run) :=
  [execSet_2_mIXd_B, execSet_2_mIXd_C, execSet_2_mIXd_D, execSet_2_mIXd_E, execSet_2_mIXd_H, execSet_2_mIXd_L,
   execSet_2_mIXd, execSet_2_mIXd_A, execSet_3_mIXd_B, execSet_3_mIXd_C, execSet_3_mIXd_D, execSet_3_mIXd_E,
   execSet_3_mIXd_H, execSet_3_mIXd_L, execSet_3_mIXd, execSet_3_mIXd_A]

def ddcbRunRowE : List (Byte → Run) :=
  [execSet_4_mIXd_B, execSet_4_mIXd_C, execSet_4_mIXd_D, execSet_4_mIXd_E, execSet_4_mIXd_H, execSet_4_mIXd_L,
   execSet_4_mIXd, execSet_4_mIXd_A, execSet_5_mIXd_B, execSet_5_mIXd_C, execSet_5_mIXd_D, execSet_5_mIXd_E,
   execSet_5_mIXd_H, execSet_5_mIXd_L, execSet_5_mIXd, execSet_5_mIXd_A]

def ddcbRunRowF : List (Byte → Run) :=
  [execSet_6_mIXd_B, execSet_6_mIXd_C, execSet_6_mIXd_D, execSet_6_mIXd_E, execSet_6_mIXd_H, execSet_6_mIXd_L,
   execSet_6_mIXd, execSet_6_mIXd_A, execSet_7_mIXd_B, execSet_7_mIXd_C, execSet_7_mIXd_D, execSet_7_mIXd_E,
   execSet_7_mIXd_H, execSet_7_mIXd_L, execSet_7_mIXd, execSet_7_mIXd_A]

/-- After DD CB d. -/
def ddcbRunRows : List (List (Byte → Run)) :=
  [ddcbRunRow0, ddcbRunRow1, ddcbRunRow2, ddcbRunRow3, ddcbRunRow4, ddcbRunRow5, ddcbRunRow6, ddcbRunRow7,
   ddcbRunRow8, ddcbRunRow9, ddcbRunRowA, ddcbRunRowB, ddcbRunRowC, ddcbRunRowD, ddcbRunRowE, ddcbRunRowF]

def fdcbRunRow0 : List (Byte → Run) :=
  [execRlc_mIYd_B, execRlc_mIYd_C, execRlc_mIYd_D, execRlc_mIYd_E, execRlc_mIYd_H, execRlc_mIYd_L, execRlc_mIYd,
   execRlc_mIYd_A, execRrc_mIYd_B, execRrc_mIYd_C, execRrc_mIYd_D, execRrc_mIYd_E, execRrc_mIYd_H, execRrc_mIYd_L,
   execRrc_mIYd, execRrc_mIYd_A]

def fdcbRunRow1 : List (Byte → Run) :=
  [execRl_mIYd_B, execRl_mIYd_C, execRl_mIYd_D, execRl_mIYd_E, execRl_mIYd_H, execRl_mIYd_L, execRl_mIYd,
   execRl_mIYd_A, execRr_mIYd_B, execRr_mIYd_C, execRr_mIYd_D, execRr_mIYd_E, execRr_mIYd_H, execRr_mIYd_L,
   execRr_mIYd, execRr_mIYd_A]

def fdcbRunRow2 : List (Byte → Run) :=
  [execSla_mIYd_B, execSla_mIYd_C, execSla_mIYd_D, execSla_mIYd_E, execSla_mIYd_H, execSla_mIYd_L, execSla_mIYd,
   execSla_mIYd_A, execSra_mIYd_B, execSra_mIYd_C, execSra_mIYd_D, execSra_mIYd_E, execSra_mIYd_H, execSra_mIYd_L,
   execSra_mIYd, execSra_mIYd_A]

def fdcbRunRow3 : List (Byte → Run) :=
  [execSll_mIYd_B, execSll_mIYd_C, execSll_mIYd_D, execSll_mIYd_E, execSll_mIYd_H, execSll_mIYd_L, execSll_mIYd,
   execSll_mIYd_A, execSrl_mIYd_B, execSrl_mIYd_C, execSrl_mIYd_D, execSrl_mIYd_E, execSrl_mIYd_H, execSrl_mIYd_L,
   execSrl_mIYd, execSrl_mIYd_A]

def fdcbRunRow4 : List (Byte → Run) :=
  [execBit_0_mIYd 0, execBit_0_mIYd 1, execBit_0_mIYd 2, execBit_0_mIYd 3, execBit_0_mIYd 4, execBit_0_mIYd 5,
   execBit_0_mIYd 6, execBit_0_mIYd 7, execBit_1_mIYd 0, execBit_1_mIYd 1, execBit_1_mIYd 2, execBit_1_mIYd 3,
   execBit_1_mIYd 4, execBit_1_mIYd 5, execBit_1_mIYd 6, execBit_1_mIYd 7]

def fdcbRunRow5 : List (Byte → Run) :=
  [execBit_2_mIYd 0, execBit_2_mIYd 1, execBit_2_mIYd 2, execBit_2_mIYd 3, execBit_2_mIYd 4, execBit_2_mIYd 5,
   execBit_2_mIYd 6, execBit_2_mIYd 7, execBit_3_mIYd 0, execBit_3_mIYd 1, execBit_3_mIYd 2, execBit_3_mIYd 3,
   execBit_3_mIYd 4, execBit_3_mIYd 5, execBit_3_mIYd 6, execBit_3_mIYd 7]

def fdcbRunRow6 : List (Byte → Run) :=
  [execBit_4_mIYd 0, execBit_4_mIYd 1, execBit_4_mIYd 2, execBit_4_mIYd 3, execBit_4_mIYd 4, execBit_4_mIYd 5,
   execBit_4_mIYd 6, execBit_4_mIYd 7, execBit_5_mIYd 0, execBit_5_mIYd 1, execBit_5_mIYd 2, execBit_5_mIYd 3,
   execBit_5_mIYd 4, execBit_5_mIYd 5, execBit_5_mIYd 6, execBit_5_mIYd 7]

def fdcbRunRow7 : List (Byte → Run) :=
  [execBit_6_mIYd 0, execBit_6_mIYd 1, execBit_6_mIYd 2, execBit_6_mIYd 3, execBit_6_mIYd 4, execBit_6_mIYd 5,
   execBit_6_mIYd 6, execBit_6_mIYd 7, execBit_7_mIYd 0, execBit_7_mIYd 1, execBit_7_mIYd 2, execBit_7_mIYd 3,
   execBit_7_mIYd 4, execBit_7_mIYd 5, execBit_7_mIYd 6, execBit_7_mIYd 7]

def fdcbRunRow8 : List (Byte → Run) :=
  [execRes_0_mIYd_B, execRes_0_mIYd_C, execRes_0_mIYd_D, execRes_0_mIYd_E, execRes_0_mIYd_H, execRes_0_mIYd_L,
   execRes_0_mIYd, execRes_0_mIYd_A, execRes_1_mIYd_B, execRes_1_mIYd_C, execRes_1_mIYd_D, execRes_1_mIYd_E,
   execRes_1_mIYd_H, execRes_1_mIYd_L, execRes_1_mIYd, execRes_1_mIYd_A]

def fdcbRunRow9 : List (Byte → Run) :=
  [execRes_2_mIYd_B, execRes_2_mIYd_C, execRes_2_mIYd_D, execRes_2_mIYd_E, execRes_2_mIYd_H, execRes_2_mIYd_L,
   execRes_2_mIYd, execRes_2_mIYd_A, execRes_3_mIYd_B, execRes_3_mIYd_C, execRes_3_mIYd_D, execRes_3_mIYd_E,
   execRes_3_mIYd_H, execRes_3_mIYd_L, execRes_3_mIYd, execRes_3_mIYd_A]

def fdcbRunRowA : List (Byte → Run) :=
  [execRes_4_mIYd_B, execRes_4_mIYd_C, execRes_4_mIYd_D, execRes_4_mIYd_E, execRes_4_mIYd_H, execRes_4_mIYd_L,
   execRes_4_mIYd, execRes_4_mIYd_A, execRes_5_mIYd_B, execRes_5_mIYd_C, execRes_5_mIYd_D, execRes_5_mIYd_E,
   execRes_5_mIYd_H, execRes_5_mIYd_L, execRes_5_mIYd, execRes_5_mIYd_A]

def fdcbRunRowB : List (Byte → Run) :=
  [execRes_6_mIYd_B, execRes_6_mIYd_C, execRes_6_mIYd_D, execRes_6_mIYd_E, execRes_6_mIYd_H, execRes_6_mIYd_L,
   execRes_6_mIYd, execRes_6_mIYd_A, execRes_7_mIYd_B, execRes_7_mIYd_C, execRes_7_mIYd_D, execRes_7_mIYd_E,
   execRes_7_mIYd_H, execRes_7_mIYd_L, execRes_7_mIYd, execRes_7_mIYd_A]

def fdcbRunRowC : List (Byte → Run) :=
  [execSet_0_mIYd_B, execSet_0_mIYd_C, execSet_0_mIYd_D, execSet_0_mIYd_E, execSet_0_mIYd_H, execSet_0_mIYd_L,
   execSet_0_mIYd, execSet_0_mIYd_A, execSet_1_mIYd_B, execSet_1_mIYd_C, execSet_1_mIYd_D, execSet_1_mIYd_E,
   execSet_1_mIYd_H, execSet_1_mIYd_L, execSet_1_mIYd, execSet_1_mIYd_A]

def fdcbRunRowD : List (Byte → Run) :=
  [execSet_2_mIYd_B, execSet_2_mIYd_C, execSet_2_mIYd_D, execSet_2_mIYd_E, execSet_2_mIYd_H, execSet_2_mIYd_L,
   execSet_2_mIYd, execSet_2_mIYd_A, execSet_3_mIYd_B, execSet_3_mIYd_C, execSet_3_mIYd_D, execSet_3_mIYd_E,
   execSet_3_mIYd_H, execSet_3_mIYd_L, execSet_3_mIYd, execSet_3_mIYd_A]

def fdcbRunRowE : List (Byte → Run) :=
  [execSet_4_mIYd_B, execSet_4_mIYd_C, execSet_4_mIYd_D, execSet_4_mIYd_E, execSet_4_mIYd_H, execSet_4_mIYd_L,
   execSet_4_mIYd, execSet_4_mIYd_A, execSet_5_mIYd_B, execSet_5_mIYd_C, execSet_5_mIYd_D, execSet_5_mIYd_E,
   execSet_5_mIYd_H, execSet_5_mIYd_L, execSet_5_mIYd, execSet_5_mIYd_A]

def fdcbRunRowF : List (Byte → Run) :=
  [execSet_6_mIYd_B, execSet_6_mIYd_C, execSet_6_mIYd_D, execSet_6_mIYd_E, execSet_6_mIYd_H, execSet_6_mIYd_L,
   execSet_6_mIYd, execSet_6_mIYd_A, execSet_7_mIYd_B, execSet_7_mIYd_C, execSet_7_mIYd_D, execSet_7_mIYd_E,
   execSet_7_mIYd_H, execSet_7_mIYd_L, execSet_7_mIYd, execSet_7_mIYd_A]

/-- After FD CB d. -/
def fdcbRunRows : List (List (Byte → Run)) :=
  [fdcbRunRow0, fdcbRunRow1, fdcbRunRow2, fdcbRunRow3, fdcbRunRow4, fdcbRunRow5, fdcbRunRow6, fdcbRunRow7,
   fdcbRunRow8, fdcbRunRow9, fdcbRunRowA, fdcbRunRowB, fdcbRunRowC, fdcbRunRowD, fdcbRunRowE, fdcbRunRowF]

/-! ## Running from the bytes -/

/-- `Entry.take`, run. -/
def RunEntry.run (e : RunEntry) (x y : Byte) : Run :=
  match e with
  | .h0 f => f
  | .h1 f => f x
  | .h2 f => f (pair y x)
  | .h11 f => f x y

/-- `indexed`, run. -/
def runIndexed (rows : List (List RunSlot)) (cbRows : List (List (Byte → Run))) (b1 b2 b3 : Byte) : Run :=
  match cell rows .cb b1 with
  | .ins e => e.run b2 b3
  | .cb => cell cbRows (fun _ => execNop) b3 b2
  | .ed | .dd | .fd => fun s => .next s.skipPrefix

/-- `decodeWindow`, run. -/
def runWindow (b0 b1 b2 b3 : Byte) : Run :=
  match cell mainRunRows .cb b0 with
  | .ins e => e.run b1 b2
  | .cb => cell cbRunRows execNop b1
  | .ed => (cell edRunRows (.h0 execNop) b1).run b2 b3
  | .dd => runIndexed ddRunRows ddcbRunRows b1 b2 b3
  | .fd => runIndexed fdRunRows fdcbRunRows b1 b2 b3

/-- `State.execNext` from the bytes at PC. -/
def State.execNextBytes (s : State) : Host.Outcome State Fault Refusal :=
  runWindow (s.readMem s.pc) (s.readMem (s.pc + 1)) (s.readMem (s.pc + 2)) (s.readMem (s.pc + 3)) s

/-- `State.nextIsChain` from the bytes at PC. -/
def State.nextIsChainBytes (s : State) : Bool :=
  isIndexByte (s.readMem s.pc) && (isIndexByte (s.readMem (s.pc + 1)) || s.readMem (s.pc + 1) == 0xED)

/-- `State.nextIsEi` from the bytes at PC. -/
def State.nextIsEiBytes (s : State) : Bool :=
  s.readMem s.pc == 0xFB || (isIndexByte (s.readMem s.pc) && s.readMem (s.pc + 1) == 0xFB)

/-! ## Running is decoding and `exec` -/

/-- A grid mapped is read as its cells mapped. -/
theorem cell_map {α β : Type} (f : α → β) (rows : List (List α)) (d : α) (op : Byte) :
    cell (rows.map (List.map f)) (f d) op = f (cell rows d op) := by
  simp only [cell, List.getD_eq_getElem?_getD, List.getElem?_map]
  cases rows[op.toNat / 16]? with
  | none => simp
  | some row => cases h : row[op.toNat % 16]? <;> simp [h]

/-- An entry's meaning. -/
def Entry.meaning (e : Entry) : RunEntry :=
  match e with
  | .i0 i => .h0 (exec i)
  | .i1 f => .h1 (fun n => exec (f n))
  | .i2 f => .h2 (fun nn => exec (f nn))
  | .i11 f => .h11 (fun d n => exec (f d n))

/-- A slot's meaning. -/
def Slot.meaning (sl : Slot) : RunSlot :=
  match sl with
  | .ins e => .ins (Entry.meaning e)
  | .cb => .cb
  | .ed => .ed
  | .dd => .dd
  | .fd => .fd

theorem meaning_run (e : Entry) (x y : Byte) (k : Nat) : (Entry.meaning e).run x y = exec (e.take x y k).1 := by
  cases e <;> rfl

theorem mainRun_meaning : mainRunRows = mainRows.map (List.map Slot.meaning) := rfl
theorem cbRun_meaning : cbRunRows = cbRows.map (List.map exec) := rfl
theorem edRun_meaning : edRunRows = edRows.map (List.map Entry.meaning) := rfl
theorem ddRun_meaning : ddRunRows = ddRows.map (List.map Slot.meaning) := rfl
theorem fdRun_meaning : fdRunRows = fdRows.map (List.map Slot.meaning) := rfl
theorem ddcbRun_meaning : ddcbRunRows = ddcbRows.map (List.map (fun f d => exec (f d))) := rfl
theorem fdcbRun_meaning : fdcbRunRows = fdcbRows.map (List.map (fun f d => exec (f d))) := rfl

theorem runIndexed_exec (rows : List (List Slot)) (cbs : List (List (Byte → Instr))) (redundant ignored : Instr)
    (hr : exec redundant = fun s => .next s.skipPrefix) (hi : exec ignored = fun s => .next s.skipPrefix)
    (b1 b2 b3 : Byte) :
    runIndexed (rows.map (List.map Slot.meaning)) (cbs.map (List.map (fun f d => exec (f d)))) b1 b2 b3 =
      exec (indexed rows cbs redundant ignored b1 b2 b3).1 := by
  have h1 := cell_map Slot.meaning rows .cb b1
  have h2 := cell_map (fun (f : Byte → Instr) (d : Byte) => exec (f d)) cbs (fun _ => .nop) b3
  simp only [runIndexed, indexed]
  rw [show (RunSlot.cb) = Slot.meaning .cb from rfl, h1]
  cases cell rows .cb b1 with
  | ins e => exact meaning_run e b2 b3 2
  | cb => exact congrFun h2 b2
  | ed => exact hi.symm
  | dd => exact hr.symm
  | fd => exact hr.symm

/-- Running the bytes is `exec` of the instruction decoded from them. -/
theorem runWindow_exec (b0 b1 b2 b3 : Byte) : runWindow b0 b1 b2 b3 = exec (decodeWindow b0 b1 b2 b3).1 := by
  simp only [runWindow, decodeWindow, mainRun_meaning, cbRun_meaning, edRun_meaning, ddRun_meaning, fdRun_meaning,
    ddcbRun_meaning, fdcbRun_meaning]
  rw [show (RunSlot.cb) = Slot.meaning .cb from rfl, cell_map Slot.meaning mainRows .cb b0]
  cases cell mainRows .cb b0 with
  | ins e => exact meaning_run e b1 b2 1
  | cb => exact cell_map exec cbRows .nop b1
  | ed =>
    have h := cell_map Entry.meaning edRows (.i0 .nop) b1
    exact (congrArg (fun e => RunEntry.run e b2 b3) h).trans (meaning_run _ b2 b3 2)
  | dd => exact runIndexed_exec ddRows ddcbRows _ _ rfl rfl b1 b2 b3
  | fd => exact runIndexed_exec fdRows fdcbRows _ _ rfl rfl b1 b2 b3

/-- A property of the instruction of an entry, as a function of the bytes it takes. -/
def Entry.test (p : Instr → Bool) (e : Entry) : Byte → Byte → Bool := fun x y => p (e.take x y 0).1

/-- A property of the instruction of a slot; the bytes CB, ED, DD, FD have none. -/
def Slot.test (p : Instr → Bool) (sl : Slot) : Option (Byte → Byte → Bool) :=
  match sl with
  | .ins e => some (Entry.test p e)
  | .cb | .ed | .dd | .fd => none

theorem take_test (p : Instr → Bool) (e : Entry) (x y : Byte) (k : Nat) : p (e.take x y k).1 = Entry.test p e x y := by
  cases e <;> rfl

/-- Which opcodes are EI, in the unprefixed grid and in the grids after DD and FD; the bytes CB, DD, ED, FD are none. -/
def eiFlags : List (List (Option Bool)) :=
  let no := some false
  List.replicate 12 (List.replicate 16 no) ++
    [List.replicate 11 no ++ none :: List.replicate 4 no,
     List.replicate 13 no ++ [none, no, no],
     List.replicate 13 no ++ [none, no, no],
     List.replicate 11 no ++ [some true, no, none, no, no]]

/-- `eiFlags` as tests that hold of EI if `isEi` does, and of nothing else. -/
def eiCells (isEi : Bool) : List (List (Option (Byte → Byte → Bool))) :=
  eiFlags.map (List.map (Option.map (fun b _ _ => b && isEi)))

theorem main_ei : mainRows.map (List.map (Slot.test Instr.isEi)) = eiCells true := rfl
theorem dd_ei : ddRows.map (List.map (Slot.test Instr.isEi)) = eiCells true := rfl
theorem fd_ei : fdRows.map (List.map (Slot.test Instr.isEi)) = eiCells true := rfl
theorem main_chain : mainRows.map (List.map (Slot.test Instr.isChainByte)) = eiCells false := rfl
theorem dd_chain : ddRows.map (List.map (Slot.test Instr.isChainByte)) = eiCells false := rfl
theorem fd_chain : fdRows.map (List.map (Slot.test Instr.isChainByte)) = eiCells false := rfl
theorem cb_ei : cbRows.map (List.map Instr.isEi) = List.replicate 16 (List.replicate 16 false) := rfl
theorem cb_chain : cbRows.map (List.map Instr.isChainByte) = List.replicate 16 (List.replicate 16 false) := rfl
theorem ed_ei : edRows.map (List.map (Entry.test Instr.isEi)) = List.replicate 16 (List.replicate 16 fun _ _ => false) := rfl
theorem ed_chain :
    edRows.map (List.map (Entry.test Instr.isChainByte)) = List.replicate 16 (List.replicate 16 fun _ _ => false) := rfl
theorem ddcb_ei : ddcbRows.map (List.map (fun f d => Instr.isEi (f d))) = List.replicate 16 (List.replicate 16 fun _ => false) := rfl
theorem ddcb_chain :
    ddcbRows.map (List.map (fun f d => Instr.isChainByte (f d))) = List.replicate 16 (List.replicate 16 fun _ => false) := rfl
theorem fdcb_ei : fdcbRows.map (List.map (fun f d => Instr.isEi (f d))) = List.replicate 16 (List.replicate 16 fun _ => false) := rfl
theorem fdcb_chain :
    fdcbRows.map (List.map (fun f d => Instr.isChainByte (f d))) = List.replicate 16 (List.replicate 16 fun _ => false) := rfl

/-- A constant grid. -/
theorem cell_replicate {α : Type} (v : α) (op : Byte) : cell (List.replicate 16 (List.replicate 16 v)) v op = v := by
  have h1 : op.toNat / 16 < 16 := by have := op.isLt; omega
  have h2 : op.toNat % 16 < 16 := Nat.mod_lt _ (by decide)
  simp only [cell, List.getD_eq_getElem?_getD, List.getElem?_replicate, if_pos h1, if_pos h2, Option.getD_some]

theorem cell_eiFlags : ∀ op : Byte, cell eiFlags none op =
    if op = 0xCB ∨ op = 0xDD ∨ op = 0xED ∨ op = 0xFD then none else some (op == 0xFB) := by
  decide

theorem cell_eiCells (isEi : Bool) (op : Byte) :
    cell (eiCells isEi) none op =
      if op = 0xCB ∨ op = 0xDD ∨ op = 0xED ∨ op = 0xFD then none
      else some (fun _ _ => op == 0xFB && isEi) := by
  have h := cell_map (Option.map (fun (b : Bool) (_ _ : Byte) => b && isEi)) eiFlags none op
  rw [cell_eiFlags] at h
  refine h.trans ?_
  split <;> rfl

/-- Which slot an opcode byte has in a grid whose EI cells are those of `eiCells`. -/
theorem slot_of_test {p : Instr → Bool} {isEi : Bool} {rows : List (List Slot)}
    (hrows : rows.map (List.map (Slot.test p)) = eiCells isEi) (op : Byte) :
    Slot.test p (cell rows .cb op) =
      if op = 0xCB ∨ op = 0xDD ∨ op = 0xED ∨ op = 0xFD then none else some (fun _ _ => op == 0xFB && isEi) := by
  rw [← cell_eiCells, ← hrows]
  exact (cell_map (Slot.test p) rows .cb op).symm

/-- A grid whose four special cells are the bytes CB, DD, ED and FD. -/
abbrev Slot.Special (rows : List (List Slot)) : Prop :=
  cell rows .cb 0xCB = .cb ∧ cell rows .cb 0xDD = .dd ∧ cell rows .cb 0xED = .ed ∧ cell rows .cb 0xFD = .fd

/-- A property of the instructions after DD or FD, from their grids. -/
theorem indexed_test {p : Instr → Bool} {isEi chain : Bool} {rows : List (List Slot)} {cbs : List (List (Byte → Instr))}
    {redundant ignored : Instr} (hrows : rows.map (List.map (Slot.test p)) = eiCells isEi) (hs : Slot.Special rows)
    (hcbs : cbs.map (List.map (fun f d => p (f d))) = List.replicate 16 (List.replicate 16 fun _ => false))
    (hn : p .nop = false) (hr : p redundant = chain) (hi : p ignored = chain) (b1 b2 b3 : Byte) :
    p (indexed rows cbs redundant ignored b1 b2 b3).1 =
      ((b1 == 0xFB && isEi) || (chain && (isIndexByte b1 || b1 == 0xED))) := by
  have h1 := slot_of_test hrows b1
  simp only [indexed]
  by_cases hb : b1 = 0xCB ∨ b1 = 0xDD ∨ b1 = 0xED ∨ b1 = 0xFD
  · rcases hb with rfl | rfl | rfl | rfl
    · rw [hs.1]
      have h2 := cell_map (fun (f : Byte → Instr) (d : Byte) => p (f d)) cbs (fun _ => .nop) b3
      rw [hcbs] at h2
      have h3 : p (cell cbs (fun _ => Instr.nop) b3 b2) = false := by
        have h4 := congrFun h2 b2
        rw [show (fun _ : Byte => p Instr.nop) = fun _ => false from funext fun _ => hn, cell_replicate] at h4
        exact h4.symm
      simp only [h3]; cases isEi <;> cases chain <;> rfl
    · rw [hs.2.1]; simp only [hr]; cases isEi <;> cases chain <;> rfl
    · rw [hs.2.2.1]; simp only [hi]; cases isEi <;> cases chain <;> rfl
    · rw [hs.2.2.2]; simp only [hr]; cases isEi <;> cases chain <;> rfl
  · rw [if_neg hb] at h1
    have hx : (isIndexByte b1 || b1 == 0xED) = false := by
      simp only [not_or] at hb
      simp only [isIndexByte, beq_eq_false_iff_ne.mpr hb.2.1, beq_eq_false_iff_ne.mpr hb.2.2.1,
        beq_eq_false_iff_ne.mpr hb.2.2.2, Bool.or_self]
    rw [hx, Bool.and_false, Bool.or_false]
    generalize cell rows Slot.cb b1 = sl at h1
    cases sl with
    | ins e =>
      simp only [Slot.test, Option.some.injEq] at h1
      simp only [take_test]
      exact congrFun (congrFun h1 b2) b3
    | cb => cases h1
    | ed => cases h1
    | dd => cases h1
    | fd => cases h1

/-- A property of the instruction decoded, from the grids. -/
theorem window_test {p : Instr → Bool} {isEi chain : Bool}
    (hm : mainRows.map (List.map (Slot.test p)) = eiCells isEi)
    (hcb : cbRows.map (List.map p) = List.replicate 16 (List.replicate 16 false))
    (hed : edRows.map (List.map (Entry.test p)) = List.replicate 16 (List.replicate 16 fun _ _ => false))
    (hdd : ∀ b1 b2 b3, p (indexed ddRows ddcbRows .redundant_DD .ignored_DD_before_ED b1 b2 b3).1 =
      ((b1 == 0xFB && isEi) || (chain && (isIndexByte b1 || b1 == 0xED))))
    (hfd : ∀ b1 b2 b3, p (indexed fdRows fdcbRows .redundant_FD .ignored_FD_before_ED b1 b2 b3).1 =
      ((b1 == 0xFB && isEi) || (chain && (isIndexByte b1 || b1 == 0xED))))
    (hn : p .nop = false) (b0 b1 b2 b3 : Byte) :
    p (decodeWindow b0 b1 b2 b3).1 =
      ((b0 == 0xFB && isEi) || (isIndexByte b0 && ((b1 == 0xFB && isEi) || (chain && (isIndexByte b1 || b1 == 0xED))))) := by
  have h1 := slot_of_test hm b0
  simp only [decodeWindow]
  by_cases hb : b0 = 0xCB ∨ b0 = 0xDD ∨ b0 = 0xED ∨ b0 = 0xFD
  · rcases hb with rfl | rfl | rfl | rfl
    · rw [show cell mainRows .cb 0xCB = .cb from rfl]
      have h2 := cell_map p cbRows .nop b1
      rw [hcb, hn, cell_replicate] at h2
      simp only [← h2]; cases isEi <;> rfl
    · rw [show cell mainRows .cb 0xDD = .dd from rfl]
      simp only [hdd]
      rw [show ((0xDD : Byte) == 0xFB) = false from rfl, show isIndexByte 0xDD = true from rfl, Bool.false_and,
        Bool.false_or, Bool.true_and]
    · rw [show cell mainRows .cb 0xED = .ed from rfl]
      have h2 := cell_map (Entry.test p) edRows (.i0 .nop) b1
      rw [hed, show Entry.test p (.i0 .nop) = fun _ _ => false from funext fun _ => funext fun _ => hn,
        cell_replicate] at h2
      simp only [take_test, ← h2]; cases isEi <;> rfl
    · rw [show cell mainRows .cb 0xFD = .fd from rfl]
      simp only [hfd]
      rw [show ((0xFD : Byte) == 0xFB) = false from rfl, show isIndexByte 0xFD = true from rfl, Bool.false_and,
        Bool.false_or, Bool.true_and]
  · rw [if_neg hb] at h1
    have hx : isIndexByte b0 = false := by
      simp only [not_or] at hb
      simp only [isIndexByte, beq_eq_false_iff_ne.mpr hb.2.1, beq_eq_false_iff_ne.mpr hb.2.2.2, Bool.or_self]
    rw [hx, Bool.false_and, Bool.or_false]
    generalize cell mainRows Slot.cb b0 = sl at h1
    cases sl with
    | ins e =>
      simp only [Slot.test, Option.some.injEq] at h1
      simp only [take_test]
      exact congrFun (congrFun h1 b1) b2
    | cb => cases h1
    | ed => cases h1
    | dd => cases h1
    | fd => cases h1

theorem window_isEi (b0 b1 b2 b3 : Byte) :
    (decodeWindow b0 b1 b2 b3).1.isEi = (b0 == 0xFB || (isIndexByte b0 && b1 == 0xFB)) := by
  rw [window_test (isEi := true) (chain := false) main_ei cb_ei ed_ei
    (fun _ _ _ => indexed_test (redundant := .redundant_DD) (ignored := .ignored_DD_before_ED) dd_ei ⟨rfl, rfl, rfl, rfl⟩ ddcb_ei rfl rfl rfl _ _ _)
    (fun _ _ _ => indexed_test (redundant := .redundant_FD) (ignored := .ignored_FD_before_ED) fd_ei ⟨rfl, rfl, rfl, rfl⟩ fdcb_ei rfl rfl rfl _ _ _) rfl]
  simp

theorem window_isChainByte (b0 b1 b2 b3 : Byte) :
    (decodeWindow b0 b1 b2 b3).1.isChainByte = (isIndexByte b0 && (isIndexByte b1 || b1 == 0xED)) := by
  rw [window_test (isEi := false) (chain := true) main_chain cb_chain ed_chain
    (fun _ _ _ => indexed_test (redundant := .redundant_DD) (ignored := .ignored_DD_before_ED) dd_chain ⟨rfl, rfl, rfl, rfl⟩ ddcb_chain rfl rfl rfl _ _ _)
    (fun _ _ _ => indexed_test (redundant := .redundant_FD) (ignored := .ignored_FD_before_ED) fd_chain ⟨rfl, rfl, rfl, rfl⟩ fdcb_chain rfl rfl rfl _ _ _) rfl]
  simp

/-! ## What the compiler takes -/

@[csimp] theorem execNext_bytes : @State.execNext = @State.execNextBytes := by
  funext s
  exact (congrFun (runWindow_exec _ _ _ _) s).symm

@[csimp] theorem nextIsChain_bytes : @State.nextIsChain = @State.nextIsChainBytes := by
  funext s
  exact window_isChainByte _ _ _ _

@[csimp] theorem nextIsEi_bytes : @State.nextIsEi = @State.nextIsEiBytes := by
  funext s
  exact window_isEi _ _ _ _

end Sys2Proof.Machine
end

