-- ==== Sys2Proof/Machine/Cycle.lean ====
section
/-!
DEFINITION. What happens around an instruction (60_exceptions.md R500 to R503, R530): the DD/FD chain, the
halted cycle, the EI delay, the boundary and the interrupt scheduler C7. `step` (Machine/Step.lean) is `machineStep`.
-/

namespace Sys2Proof.Machine

/-- The EI delay at the end of an instruction: `delay` is `iff_delay` at the start of the step (R500, R502). -/
def State.retire (s : State) (delay : Fin 2) (eiDone : Bool) : State :=
  if eiDone then s else if delay = 0 then s else { s with iffDelay := delay - 1 }

/-- `HaltedCycle()` (R501): one R increment, 4 T-states, PC stays. -/
def State.haltedCycle (s : State) : State := s.fetched 0 1 4

/-- `DecodeExecute()` and the EI delay: DD and FD bytes before DD, FD or ED, then one instruction, all one step (R144,
R148). When DD and FD bytes stand at all 65536 addresses the step never ends (R614). -/
def runInstruction (delay : Fin 2) : Nat → State → Host.Outcome State Fault Refusal
  | 0, _ => .fault .endlessPrefixChain
  | fuel + 1, s =>
    match s.execNext with
    | .next s' =>
      if s.nextIsChain then runInstruction delay fuel s' else .next (s'.retire delay s.nextIsEi)
    | .fault e => .fault e
    | .refused e => .refused e

/-- One instruction or one halted cycle, with the EI delay (R500). -/
def State.instructionStep (s : State) : Host.Outcome State Fault Refusal :=
  if s.halted then .next (s.haltedCycle.retire s.iffDelay false) else runInstruction s.iffDelay 65536 s

/-- `C7()` (R530). It follows the rule's pseudocode: in a step that ends with IFF1 = 1, iff_delay = 0, the latch clear and
input queued C7 raises, the step of the handler's RETI among them. R531 draws from that that the step after RETI is the
first that may raise, and no ruling settles it. DEDUCED, unsafe (log entry 19). -/
def State.c7 (s : State) : State :=
  if !s.uses8251 then s
  else if !s.iff1 then { s with c7Latch := false }
  else if !s.queue.isEmpty && s.iffDelay == 0 && !s.c7Latch then { s.raiseInt 0xFF with c7Latch := true }
  else s

/-- What follows an instruction in its step: the boundary, then C7 (R500). -/
def State.endStep (s : State) : Host.Outcome State Fault Refusal :=
  match s.boundary with
  | .next s' => .next s'.c7
  | .fault e => .fault e
  | .refused e => .refused e

/-- `MachineStep()` (R500). -/
def machineStep (s : State) : Host.Outcome State Fault Refusal :=
  match s.instructionStep with
  | .next s' => s'.endStep
  | .fault e => .fault e
  | .refused e => .refused e

/-- Bytes placed by the loader from an address on, wrapping (20_memory.md R94). -/
def State.loadBytes (s : State) (a : Word) : List Byte → State
  | [] => s
  | b :: rest => State.loadBytes (s.loadByte a b) (a + 1) rest

/-- An opcode-table word stored at PC by the loader, and the CPU not halted, so that the next step runs it
(log entries 1, 13). -/
def placeTableWord (s : State) (nbits w : Nat) : State :=
  { s.loadBytes s.pc (tableBytes nbits w) with halted := false }

end Sys2Proof.Machine
end

