-- ==== Sys2Proof/Machine/Step.lean ====
section
/-! DEFINITION. One machine step (60_exceptions.md R500), and the placing of an instruction where it fetches. -/

namespace Sys2Proof.Machine

/-- One machine step: one instruction or halted cycle, one boundary, one run of C7 (R500). -/
def step (s : State) : Host.Outcome State Fault Refusal := machineStep s

/-- The state with an instruction stored where the next step fetches. -/
def State.withFetchWord (s : State) (nbits w : Nat) : State := placeTableWord s nbits w

end Sys2Proof.Machine
end

