-- ==== Sys2Proof/Machine/HostMoves.lean ====
section
/-!
DEFINITION. What the host does between steps (60_exceptions.md R580), CPU reset (70_reset_and_hazards.md R600, R601) and
the end of a run (R583). `raise_int` and `raise_nmi` are `State.raiseInt` and `State.raiseNmi` of Machine/Ops.lean. No step
calls these.
-/

namespace Sys2Proof.Machine

/-- What a host fixes before the first step (R580, 70_reset_and_hazards.md R605). -/
structure Load where
  /-- `ROM_IMAGE`: at most 65536 bytes, from address 0 on (20_memory.md R94). -/
  romImage   : List Byte
  romCeiling : Fin 65537
  /-- `MEM_INIT`: the bytes after the image, as far as they are known. -/
  memInit    : List Byte
  /-- `MEM_INIT`: the byte of every address after those, where it is known. -/
  rest       : Option Byte
  /-- `STORAGE`: the files. -/
  files      : FileStore
  /-- `STORAGE`: the answers of the backend, as far as they are known. -/
  policy     : StoragePolicy
  deriving DecidableEq, Repr

/-- Bytes placed from an address on, to the end of memory. -/
def Memory.placeAll (init : InitialMemory) (a : Nat) : List Byte → InitialMemory
  | [] => init
  | b :: bs => if a < 65536 then Memory.placeAll (Memory.place init a b) (a + 1) bs else init

/-- The initial memory of a load: the image from address 0 on, not stopped by the ceiling, and `MEM_INIT` after it. -/
def Load.initial (l : Load) : InitialMemory :=
  Memory.placeAll { listed := [], rest := l.rest } 0 (l.romImage ++ l.memInit)

/-- load: `ROM_IMAGE`, `ROM_CEILING`, `MEM_INIT` and `STORAGE` fixed before the first step (R580). -/
def hostLoad (s : State) (l : Load) : State :=
  { s with
    mem := [], files := Config.oneEntryPerName l.files
    params := { s.params with romCeiling := l.romCeiling, policy := l.policy, initial := l.initial } }

/-- `reset(cpu)`: the CPU's fields at their reset values (R600); memory, devices and parameters unchanged (R601). -/
def hostReset (s : State) : State :=
  { State.reset with
    mem := s.mem, queue := s.queue, sink := s.sink, uses8251 := s.uses8251, c7Latch := s.c7Latch
    aciaCtrl := s.aciaCtrl, sd := s.sd, files := s.files, params := s.params }

/-- A byte arrives at the input queue (R555). -/
def hostEnqueue (s : State) (b : Byte) : State := { s with queue := s.queue ++ [b] }

/-- The host reads and removes the first n bytes of the output sink (R556). -/
def hostDrain (s : State) (n : Nat) : List Byte × State := (s.sink.take n, { s with sink := s.sink.drop n })

/-- The end of a run, where the host makes no further move (R583). -/
def State.endOfRun (s : State) : Bool :=
  s.halted && !s.nmiPending &&
    (!s.iff1 || (!s.intPending && (!s.uses8251 || s.queue.isEmpty)))

end Sys2Proof.Machine
end

