-- ==== Sys2Proof/Safety.lean ====
section
/-!
DEFINITION. The terms that claims are stated in: the invariant that each step keeps, what a safe step is, and, read off the
bytes of an instruction, which addresses it stores to, which parts of the state it may write, whether it may set PC itself
and what its opcode fetches add to R.
-/

namespace Sys2Proof.Machine

/-! ## The invariant -/

/-- Each name of the store occurs once (60_exceptions.md R575: a finite map). -/
abbrev FileStore.wf (files : FileStore) : Prop := (FileStore.names files).Nodup

/-- The SD device's invariant: the name fits its buffer (10_state.md R56, R561), file and directory are not both open
(R560), an open listing has a byte left (R566, R571), and an open file is in the store with its position inside it or at
its end (R567, R569) and the mode of its opening (R565, R568). -/
structure State.SdInv (s : State) : Prop where
  name_fits   : s.sd.fname.length ≤ s.params.sd.fnameCap - 1
  one_open    : s.sd.file = none ∨ s.sd.dir = none
  dir_left    : s.sd.dir ≠ some []
  file_in     : ∀ h, s.sd.file = some h →
    FileStore.has s.files h.name = true ∧ h.position ≤ (FileStore.bytes s.files h.name).length ∧
      h.mode = Opening.mode h.handle.opening

/-- The invariant of the machine: memory and what is known of its initial bytes in canonical form, parameters that
00_scope.md R9 allows, a store that is a finite map, and the SD device's invariant. -/
structure State.Inv (s : State) : Prop where
  mem_wf   : Memory.wf s.params.initial s.mem = true
  initial  : Memory.initialWf s.params.initial = true
  params   : s.params.sd.legal
  files_wf : FileStore.wf s.files
  sd_inv   : s.SdInv

/-- A step that ends in a next state: the spec's machine never fails (60_exceptions.md R511). -/
def State.Steps (s : State) : Prop := ∃ s', step s = .next s'

/-! ## Instructions by their bytes -/

/-- The byte that selects an index register (30_encoding.md R139). -/
def XY.byte : XY → Byte
  | .ix => 0xDD
  | .iy => 0xFD

/-- The effective address `(XY + sext_8(d)) mod 2^16` (R158). -/
def State.ea (s : State) (xy : XY) (d : Byte) : Word := s.xy xy + sext8 d

/-- The opcodes that index mode changes (R140). -/
def indexAffected (op : Byte) : Bool :=
  let y := (opY op).toNat
  let z := (opZ op).toNat
  match (opX op).toNat with
  | 0 => op == 0x09 || op == 0x19 || op == 0x29 || op == 0x39 || op == 0x21 || op == 0x22 || op == 0x2A || op == 0x23 ||
      op == 0x2B || ((y == 4 || y == 5 || y == 6) && (z == 4 || z == 5 || z == 6))
  | 1 => op != 0x76 && ((y == 4 || y == 5 || y == 6) || (z == 4 || z == 5 || z == 6))
  | 2 => z == 4 || z == 5 || z == 6
  | _ => op == 0xE1 || op == 0xE3 || op == 0xE5 || op == 0xE9 || op == 0xF9

/-- The prefix bytes (R139). -/
def isPrefixByte (op : Byte) : Bool := op == 0xCB || op == 0xDD || op == 0xED || op == 0xFD

/-- What the opcode table selects an instruction from: the unprefixed, CB, ED, and, after DD or FD, the index and DDCB
tables, each with its opcode byte and the bytes after it (d of a DDCB form first); `alone` is a DD or FD before DD, FD or
ED. -/
inductive Form where
  | main (op n1 n2 : Byte)
  | cb (op : Byte)
  | ed (op n1 n2 : Byte)
  | index (xy : XY) (op n1 n2 : Byte)
  | indexCb (xy : XY) (d op : Byte)
  | alone
  deriving DecidableEq, Repr

/-- The form after DD or FD. -/
def indexForm (xy : XY) (b1 b2 b3 : Byte) : Form :=
  if b1 = 0xCB then .indexCb xy b2 b3
  else if b1 = 0xDD ∨ b1 = 0xFD ∨ b1 = 0xED then .alone
  else if indexAffected b1 then .index xy b1 b2 b3
  else .main b1 b2 b3

/-- The form of the instruction that starts with these bytes (R139 to R145). -/
def formOf (b0 b1 b2 b3 : Byte) : Form :=
  if b0 = 0xCB then .cb b1
  else if b0 = 0xED then .ed b1 b2 b3
  else if b0 = 0xDD then indexForm .ix b1 b2 b3
  else if b0 = 0xFD then indexForm .iy b1 b2 b3
  else .main b0 b1 b2

/-- The addresses of the two bytes a push stores (20_memory.md R97). -/
def State.pushedAt (s : State) : List Word := [s.sp - 1, s.sp - 2]

/-- The addresses an opcode of the unprefixed table stores to; `hlAddr` is the address of its `(HL)` or `(XY+d)` operand. -/
def mainStores (op n1 n2 : Byte) (hlAddr : Word) (s : State) : List Word :=
  let y := opY op
  let z := opZ op
  match (opX op).toNat with
  | 0 =>
    if op = 0x02 then [s.bc]
    else if op = 0x12 then [s.de]
    else if op = 0x22 then [pair n2 n1, pair n2 n1 + 1]
    else if op = 0x32 then [pair n2 n1]
    else if y = 6 ∧ (z = 4 ∨ z = 5 ∨ z = 6) then [hlAddr]
    else []
  | 1 => if y = 6 ∧ z ≠ 6 then [hlAddr] else []
  | 2 => []
  | _ =>
    if op = 0xE3 then [s.sp, s.sp + 1]
    else if op = 0xCD ∨ z = 7 ∨ (z = 5 ∧ opQ op = 0) ∨ (z = 4 ∧ (ccTable y).holds s.f = true) then s.pushedAt
    else []

/-- The addresses the instruction of a form may store to, computed from the state it starts in; a byte that falls under
the ROM ceiling is not stored. -/
def Form.stores (form : Form) (s : State) : List Word :=
  match form with
  | .main op n1 n2 => mainStores op n1 n2 s.hl s
  | .index xy op n1 n2 => mainStores op n1 n2 (s.ea xy n1) s
  | .cb op => if opX op ≠ 1 ∧ opZ op = 6 then [s.hl] else []
  | .indexCb xy d op => if opX op ≠ 1 then [s.ea xy d] else []
  | .ed op n1 n2 =>
    if op &&& 0xCF = 0x43 then [pair n2 n1, pair n2 n1 + 1]
    else if op = 0x67 ∨ op = 0x6F then [s.hl]
    else if op &&& 0xE7 = 0xA0 then [s.de]
    else if op &&& 0xE7 = 0xA2 then [s.hl]
    else []
  | .alone => []

/-- Whether an opcode of the unprefixed table writes a flag (10_state.md R39). -/
def mainWritesF (op : Byte) : Bool :=
  let z := (opZ op).toNat
  match (opX op).toNat with
  | 0 => op == 0x08 || z == 4 || z == 5 || z == 7 || (z == 1 && opQ op == 1)
  | 1 => false
  | 2 => true
  | _ => z == 6 || op == 0xF1

/-- Whether the instruction of a form writes a flag (R39). -/
def Form.writesF (form : Form) : Bool :=
  match form with
  | .main op _ _ => mainWritesF op
  | .index _ op _ _ => mainWritesF op
  | .cb op => opX op == 0 || opX op == 1
  | .indexCb _ _ op => opX op == 0 || opX op == 1
  | .ed op _ _ =>
    op == 0x57 || op == 0x5F || op == 0x67 || op == 0x6F ||
      (opX op == 1 && (opZ op == 0 || opZ op == 2 || opZ op == 4)) ||
      (opX op == 2 && decide (4 ≤ (opY op).toNat) && decide ((opZ op).toNat < 4))
  | .alone => false

/-- Whether the instruction of a form reads or writes a port (20_memory.md R99). -/
def Form.usesPort (form : Form) : Bool :=
  match form with
  | .main op _ _ => op == 0xDB || op == 0xD3
  | .ed op _ _ =>
    (opX op == 1 && (opZ op == 0 || opZ op == 1)) ||
      (opX op == 2 && decide (4 ≤ (opY op).toNat) && (opZ op == 2 || opZ op == 3))
  | .cb _ | .index _ _ _ _ | .indexCb _ _ _ | .alone => false

/-- Whether an opcode of the unprefixed table is a jump, a call, a return or a restart (45_control.md). -/
def mainTransfers (op : Byte) : Bool :=
  let y := (opY op).toNat
  let z := (opZ op).toNat
  match (opX op).toNat with
  | 0 => z == 0 && decide (2 ≤ y)
  | 3 => z == 0 || z == 2 || z == 4 || z == 7 || op == 0xC3 || op == 0xC9 || op == 0xCD || op == 0xE9
  | _ => false

/-- Whether the instruction of a form may set PC itself: those of 45_control.md, and the repeating block instructions
(46_block.md R400). -/
def Form.transfers (form : Form) : Bool :=
  match form with
  | .main op _ _ => mainTransfers op
  | .index _ op _ _ => op == 0xE9
  | .ed op _ _ => (opX op == 1 && opZ op == 5) || (opX op == 2 && decide (6 ≤ (opY op).toNat) && decide ((opZ op).toNat < 4))
  | .cb _ | .indexCb _ _ _ | .alone => false

/-- How many bytes of the instruction that starts with these bytes are opcode fetches (R147): a DD or FD before DD, FD or ED
alone is one, the opcode byte of a DDCB form is none. -/
def opcodeFetches (b0 b1 : Byte) : Nat :=
  if b0 = 0xCB ∨ b0 = 0xED then 2
  else if b0 = 0xDD ∨ b0 = 0xFD then (if b1 = 0xDD ∨ b1 = 0xFD ∨ b1 = 0xED then 1 else 2)
  else 1

/-! ## Runs of reads -/

/-- n reads of a port, one after the other: the bytes and the state after them. -/
def State.readPortTimes (p : Word) : Nat → State → List Byte × State
  | 0, s => ([], s)
  | n + 1, s =>
    let r := s.portIn p
    let rest := State.readPortTimes p n r.2
    (r.1 :: rest.1, rest.2)

end Sys2Proof.Machine
end

