-- ==== Sys2Proof/Certificates/Slice0/Obligations.lean ====
section
/-!
DEFINITION. The statements for the provers. `instrOf [b0, b1, …]` is the instruction that the decoder reads from these bytes,
so a statement about `exec (instrOf …)` says what the bytes do; its right side is the whole next state, so what it does not
name is unchanged. `s.fetched len m1 t` is the fetch: PC + len, m1 increments of R, t T-states.
-/

open Sys2Proof Sys2Proof.Machine

/-! ## 8-bit loads (40_load8.md) -/

/-- R200 to R204: `LD r,r'`, `LD r,n`, `LD r,(HL)`, `LD (HL),r`, `LD (HL),n`. -/
def Obligations.LoadRegisterAndAtHL : Prop :=
  ∀ (y z : BitVec 3) (n : Byte) (s : State),
    (y ≠ 6 → z ≠ 6 → exec (instrOf [opcode 1 y z]) s =
      .next ((s.fetched 1 1 4).writeLoc (rTable y) (s.readLoc (rTable z)))) ∧
    (y ≠ 6 → exec (instrOf [opcode 0 y 6, n]) s = .next ((s.fetched 2 1 7).writeLoc (rTable y) n)) ∧
    (y ≠ 6 → exec (instrOf [opcode 1 y 6]) s = .next ((s.fetched 1 1 7).writeLoc (rTable y) (s.readMem s.hl))) ∧
    (z ≠ 6 → exec (instrOf [opcode 1 6 z]) s = .next ((s.fetched 1 1 7).writeMem s.hl (s.readLoc (rTable z)))) ∧
    exec (instrOf [0x36, n]) s = .next ((s.fetched 2 1 10).writeMem s.hl n)

/-- R205 to R209: `LD r,(XY+d)`, `LD (XY+d),r`, `LD (XY+d),n` (r is the real H or L, WZ the effective address), and the loads
of the index halves. -/
def Obligations.IndexedLoads : Prop :=
  ∀ (xy : XY) (y z : BitVec 3) (d n : Byte) (s : State), y ≠ 6 → z ≠ 6 →
    exec (instrOf [xy.byte, opcode 1 y 6, d]) s =
      .next (((s.fetched 3 2 19).setWz (s.ea xy d)).writeLoc (rTable y) (s.readMem (s.ea xy d))) ∧
    exec (instrOf [xy.byte, opcode 1 6 z, d]) s =
      .next (((s.fetched 3 2 19).setWz (s.ea xy d)).writeMem (s.ea xy d) (s.readLoc (rTable z))) ∧
    exec (instrOf [xy.byte, 0x36, d, n]) s =
      .next (((s.fetched 4 2 19).setWz (s.ea xy d)).writeMem (s.ea xy d) n) ∧
    ((y = 4 ∨ y = 5 ∨ z = 4 ∨ z = 5) → exec (instrOf [xy.byte, opcode 1 y z]) s =
      .next ((s.fetched 2 2 8).writeLoc (rIndexTable xy d y) (s.readLoc (rIndexTable xy d z)))) ∧
    exec (instrOf [xy.byte, 0x26, n]) s = .next ((s.fetched 3 2 11).setReg8 xy.high n) ∧
    exec (instrOf [xy.byte, 0x2E, n]) s = .next ((s.fetched 3 2 11).setReg8 xy.low n)

/-- R210 to R213: A from and to (BC), (DE), (nn), and WZ, which is written even where the store is dropped. -/
def Obligations.AccumulatorIndirect : Prop :=
  ∀ (nn : Word) (s : State),
    exec (instrOf [0x0A]) s = .next (((s.fetched 1 1 7).setA (s.readMem s.bc)).setWz (s.bc + 1)) ∧
    exec (instrOf [0x1A]) s = .next (((s.fetched 1 1 7).setA (s.readMem s.de)).setWz (s.de + 1)) ∧
    exec (instrOf [0x3A, lo nn, hi nn]) s = .next (((s.fetched 3 1 13).setA (s.readMem nn)).setWz (nn + 1)) ∧
    exec (instrOf [0x02]) s = .next (((s.fetched 1 1 7).writeMem s.bc s.a).setWz (pair s.a (lo (s.bc + 1)))) ∧
    exec (instrOf [0x12]) s = .next (((s.fetched 1 1 7).writeMem s.de s.a).setWz (pair s.a (lo (s.de + 1)))) ∧
    exec (instrOf [0x32, lo nn, hi nn]) s =
      .next (((s.fetched 3 1 13).writeMem nn s.a).setWz (pair s.a (lo (nn + 1))))

/-- R216 to R219: the transfers of I and R; `LD A,R` reads R after its own two increments. That IFF2 is read without the
NMOS race (R216, R217) is the spec's decision D42. -/
def Obligations.InterruptAndRefreshTransfers : Prop :=
  ∀ s : State,
    exec (instrOf [0xED, 0x57]) s =
      .next (((s.fetched 2 2 9).setA s.i).setF (sz53 s.i ||| (if s.iff2 then 0x04 else 0) ||| (s.f &&& 0x01))) ∧
    exec (instrOf [0xED, 0x5F]) s =
      .next (((s.fetched 2 2 9).setA (bumpR s.r 2)).setF
        (sz53 (bumpR s.r 2) ||| (if s.iff2 then 0x04 else 0) ||| (s.f &&& 0x01))) ∧
    exec (instrOf [0xED, 0x47]) s = .next { s.fetched 2 2 9 with i := s.a } ∧
    exec (instrOf [0xED, 0x4F]) s = .next { s.fetched 2 2 9 with r := s.a }

/-! ## 16-bit loads, stack, exchange (41_load16_stack_exchange.md) -/

/-- R230 to R237: immediate pairs, SP from HL, IX or IY, and the loads and stores at a direct address, low byte at nn, high
byte at nn + 1. -/
def Obligations.PairLoads : Prop :=
  ∀ (p : BitVec 2) (xy : XY) (nn : Word) (s : State),
    let word := pair (s.readMem (nn + 1)) (s.readMem nn)
    let store := fun (t : State) (v : Word) => ((t.writeMem nn (lo v)).writeMem (nn + 1) (hi v)).setWz (nn + 1)
    exec (instrOf [opcode 0 (fieldY p 0) 1, lo nn, hi nn]) s = .next ((s.fetched 3 1 10).setReg16 (rpTable p) nn) ∧
    exec (instrOf [xy.byte, 0x21, lo nn, hi nn]) s = .next ((s.fetched 4 2 14).setReg16 xy.reg16 nn) ∧
    exec (instrOf [0xF9]) s = .next ((s.fetched 1 1 6).setSp s.hl) ∧
    exec (instrOf [xy.byte, 0xF9]) s = .next ((s.fetched 2 2 10).setSp (s.xy xy)) ∧
    exec (instrOf [0x22, lo nn, hi nn]) s = .next (store (s.fetched 3 1 16) s.hl) ∧
    exec (instrOf [0x2A, lo nn, hi nn]) s = .next (((s.fetched 3 1 16).setHl word).setWz (nn + 1)) ∧
    exec (instrOf [xy.byte, 0x22, lo nn, hi nn]) s = .next (store (s.fetched 4 2 20) (s.xy xy)) ∧
    exec (instrOf [xy.byte, 0x2A, lo nn, hi nn]) s =
      .next (((s.fetched 4 2 20).setReg16 xy.reg16 word).setWz (nn + 1)) ∧
    exec (instrOf [0xED, opcode 1 (fieldY p 0) 3, lo nn, hi nn]) s =
      .next (store (s.fetched 4 2 20) (s.reg16 (rpTable p))) ∧
    exec (instrOf [0xED, opcode 1 (fieldY p 1) 3, lo nn, hi nn]) s =
      .next (((s.fetched 4 2 20).setReg16 (rpTable p) word).setWz (nn + 1))

/-- R238 to R240 with 20_memory.md R97: PUSH and POP of BC, DE, HL, AF, IX and IY. -/
def Obligations.PushAndPop : Prop :=
  ∀ (p : BitVec 2) (xy : XY) (s : State),
    let top := pair (s.readMem (s.sp + 1)) (s.readMem s.sp)
    let pushed := fun (t : State) (v : Word) => ((t.writeMem (s.sp - 1) (hi v)).writeMem (s.sp - 2) (lo v)).setSp (s.sp - 2)
    exec (instrOf [opcode 3 (fieldY p 0) 5]) s = .next (pushed (s.fetched 1 1 11) (s.reg16 (rp2Table p))) ∧
    exec (instrOf [xy.byte, 0xE5]) s = .next (pushed (s.fetched 2 2 15) (s.xy xy)) ∧
    exec (instrOf [opcode 3 (fieldY p 0) 1]) s =
      .next (((s.fetched 1 1 10).setSp (s.sp + 2)).setReg16 (rp2Table p) top) ∧
    exec (instrOf [xy.byte, 0xE1]) s = .next (((s.fetched 2 2 14).setSp (s.sp + 2)).setReg16 xy.reg16 top)

/-- R241 to R243, R245, R246: the exchanges. R245's F' is the spec's decision D1. -/
def Obligations.Exchanges : Prop :=
  ∀ (xy : XY) (s : State),
    let word := pair (s.readMem (s.sp + 1)) (s.readMem s.sp)
    exec (instrOf [0xEB]) s = .next (((s.fetched 1 1 4).setDe s.hl).setHl s.de) ∧
    exec (instrOf [0xE3]) s =
      .next (((((s.fetched 1 1 19).writeMem s.sp (lo s.hl)).writeMem (s.sp + 1) (hi s.hl)).setHl word).setWz word) ∧
    exec (instrOf [xy.byte, 0xE3]) s =
      .next (((((s.fetched 2 2 23).writeMem s.sp (lo (s.xy xy))).writeMem (s.sp + 1) (hi (s.xy xy))).setReg16
        xy.reg16 word).setWz word) ∧
    exec (instrOf [0x08]) s =
      .next { s.fetched 1 1 4 with
        main := { s.main with a := s.shadow.a, f := s.shadow.f }
        shadow := { s.shadow with a := s.main.a, f := s.main.f } } ∧
    exec (instrOf [0xD9]) s =
      .next { s.fetched 1 1 4 with
        main := { s.shadow with a := s.main.a, f := s.main.f }
        shadow := { s.main with a := s.shadow.a, f := s.shadow.f } }

/-- R97: a push followed by a pop restores the register and SP where both stack bytes are RAM. -/
def Obligations.PushThenPopRestores : Prop :=
  ∀ (p q : BitVec 2) (s t u : State),
    s.inRom (s.sp - 1) = false → s.inRom (s.sp - 2) = false →
    exec (instrOf [opcode 3 (fieldY p 0) 5]) s = .next t → exec (instrOf [opcode 3 (fieldY q 0) 1]) t = .next u →
    u.reg16 (rp2Table q) = s.reg16 (rp2Table p) ∧ u.sp = s.sp

/-! ## 8-bit arithmetic and logic (42_alu8.md) -/

/-- R260: the forms of the accumulator operations: A and F become what `aluResult` gives for A, the source byte and F. -/
def Obligations.AccumulatorOperationForms : Prop :=
  ∀ (y z : BitVec 3) (n d : Byte) (xy : XY) (s : State),
    let result := fun v : Byte => aluResult (aluTable y) s.a v s.f
    let done := fun (t : State) (v : Byte) => (t.setA (result v).1).setF (result v).2
    (z ≠ 6 → exec (instrOf [opcode 2 y z]) s = .next (done (s.fetched 1 1 4) (s.readLoc (rTable z)))) ∧
    exec (instrOf [opcode 2 y 6]) s = .next (done (s.fetched 1 1 7) (s.readMem s.hl)) ∧
    exec (instrOf [opcode 3 y 6, n]) s = .next (done (s.fetched 2 1 7) n) ∧
    exec (instrOf [xy.byte, opcode 2 y 4]) s = .next (done (s.fetched 2 2 8) (hi (s.xy xy))) ∧
    exec (instrOf [xy.byte, opcode 2 y 5]) s = .next (done (s.fetched 2 2 8) (lo (s.xy xy))) ∧
    exec (instrOf [xy.byte, opcode 2 y 6, d]) s =
      .next (done ((s.fetched 3 2 19).setWz (s.ea xy d)) (s.readMem (s.ea xy d)))

/-- R262, R263 with R37: ADD and ADC on integers: C is the carry out of bit 7, H out of bit 3, P/V the signed overflow. -/
def Obligations.AddFlagsAreCarries : Prop :=
  ∀ (a v f : Byte),
    let add := aluResult .add a v f
    let adc := aluResult .adc a v f
    let c := if fC f then 1 else 0
    (add.1.toNat = (a.toNat + v.toNat) % 256 ∧
      fS add.2 = decide (add.1.toInt < 0) ∧ fZ add.2 = decide (add.1 = 0) ∧
      fY add.2 = add.1.getLsbD 5 ∧ fX add.2 = add.1.getLsbD 3 ∧
      fH add.2 = decide (15 < a.toNat % 16 + v.toNat % 16) ∧
      fP add.2 = decide (a.toInt + v.toInt < -128 ∨ 127 < a.toInt + v.toInt) ∧
      fN add.2 = false ∧ fC add.2 = decide (255 < a.toNat + v.toNat)) ∧
    (adc.1.toNat = (a.toNat + v.toNat + c) % 256 ∧
      fS adc.2 = decide (adc.1.toInt < 0) ∧ fZ adc.2 = decide (adc.1 = 0) ∧
      fY adc.2 = adc.1.getLsbD 5 ∧ fX adc.2 = adc.1.getLsbD 3 ∧
      fH adc.2 = decide (15 < a.toNat % 16 + v.toNat % 16 + c) ∧
      fP adc.2 = decide (a.toInt + v.toInt + (c : Int) < -128 ∨ 127 < a.toInt + v.toInt + (c : Int)) ∧
      fN adc.2 = false ∧ fC adc.2 = decide (255 < a.toNat + v.toNat + c))

/-- R264, R265, R269 with R37: SUB, SBC and CP on integers: C is the borrow, H the borrow into bit 4, P/V the signed
overflow; CP keeps A and takes Y and X from the operand. -/
def Obligations.SubtractFlagsAreBorrows : Prop :=
  ∀ (a v f : Byte),
    let sub := aluResult .sub a v f
    let sbc := aluResult .sbc a v f
    let cp := aluResult .cp a v f
    let c := if fC f then 1 else 0
    ((sub.1.toNat : Int) = ((a.toNat : Int) - v.toNat) % 256 ∧
      fS sub.2 = decide (sub.1.toInt < 0) ∧ fZ sub.2 = decide (a = v) ∧
      fY sub.2 = sub.1.getLsbD 5 ∧ fX sub.2 = sub.1.getLsbD 3 ∧
      fH sub.2 = decide (a.toNat % 16 < v.toNat % 16) ∧
      fP sub.2 = decide (a.toInt - v.toInt < -128 ∨ 127 < a.toInt - v.toInt) ∧
      fN sub.2 = true ∧ fC sub.2 = decide (a.toNat < v.toNat)) ∧
    ((sbc.1.toNat : Int) = ((a.toNat : Int) - v.toNat - (c : Nat)) % 256 ∧
      fS sbc.2 = decide (sbc.1.toInt < 0) ∧ fZ sbc.2 = decide (sbc.1 = 0) ∧
      fY sbc.2 = sbc.1.getLsbD 5 ∧ fX sbc.2 = sbc.1.getLsbD 3 ∧
      fH sbc.2 = decide (a.toNat % 16 < v.toNat % 16 + c) ∧
      fP sbc.2 = decide (a.toInt - v.toInt - (c : Nat) < -128 ∨ 127 < a.toInt - v.toInt - (c : Nat)) ∧
      fN sbc.2 = true ∧ fC sbc.2 = decide (a.toNat < v.toNat + c)) ∧
    (cp.1 = a ∧ fS cp.2 = fS sub.2 ∧ fZ cp.2 = fZ sub.2 ∧ fY cp.2 = v.getLsbD 5 ∧ fX cp.2 = v.getLsbD 3 ∧
      fH cp.2 = fH sub.2 ∧ fP cp.2 = fP sub.2 ∧ fN cp.2 = true ∧ fC cp.2 = fC sub.2)

/-- R266 to R268 with R13: AND, XOR and OR; P/V is 1 where the result has an even number of 1 bits. -/
def Obligations.LogicalOperations : Prop :=
  ∀ (a v f : Byte),
    let even := fun w : Byte => decide (((List.range 8).filter (fun k => w.getLsbD k)).length % 2 = 0)
    let flags := fun (w : Byte) (h : Bool) (g : Byte) =>
      fS g = w.getLsbD 7 ∧ fZ g = decide (w = 0) ∧ fY g = w.getLsbD 5 ∧ fH g = h ∧ fX g = w.getLsbD 3 ∧
        fP g = even w ∧ fN g = false ∧ fC g = false
    (aluResult .and a v f).1 = a &&& v ∧ flags (a &&& v) true (aluResult .and a v f).2 ∧
    (aluResult .xor a v f).1 = a ^^^ v ∧ flags (a ^^^ v) false (aluResult .xor a v f).2 ∧
    (aluResult .or a v f).1 = a ||| v ∧ flags (a ||| v) false (aluResult .or a v f).2

/-- R270, R272: INC and DEC of a register, (HL), an index half and (XY+d). -/
def Obligations.IncrementAndDecrementByte : Prop :=
  ∀ (k : BitVec 3) (d : Byte) (xy : XY) (s : State),
    let incF := fun v : Byte =>
      sz53 (v + 1) ||| (if v &&& 0x0F = 0x0F then 0x10 else 0) ||| (if v = 0x7F then 0x04 else 0) ||| (s.f &&& 0x01)
    let decF := fun v : Byte =>
      sz53 (v - 1) ||| (if v &&& 0x0F = 0 then 0x10 else 0) ||| (if v = 0x80 then 0x04 else 0) ||| 0x02 ||| (s.f &&& 0x01)
    let r := s.readLoc (rTable k)
    let m := s.readMem s.hl
    let x := s.readMem (s.ea xy d)
    (k ≠ 6 → exec (instrOf [opcode 0 k 4]) s = .next (((s.fetched 1 1 4).writeLoc (rTable k) (r + 1)).setF (incF r))) ∧
    (k ≠ 6 → exec (instrOf [opcode 0 k 5]) s = .next (((s.fetched 1 1 4).writeLoc (rTable k) (r - 1)).setF (decF r))) ∧
    exec (instrOf [0x34]) s = .next (((s.fetched 1 1 11).writeMem s.hl (m + 1)).setF (incF m)) ∧
    exec (instrOf [0x35]) s = .next (((s.fetched 1 1 11).writeMem s.hl (m - 1)).setF (decF m)) ∧
    exec (instrOf [xy.byte, 0x24]) s =
      .next (((s.fetched 2 2 8).setReg8 xy.high (hi (s.xy xy) + 1)).setF (incF (hi (s.xy xy)))) ∧
    exec (instrOf [xy.byte, 0x2C]) s =
      .next (((s.fetched 2 2 8).setReg8 xy.low (lo (s.xy xy) + 1)).setF (incF (lo (s.xy xy)))) ∧
    exec (instrOf [xy.byte, 0x25]) s =
      .next (((s.fetched 2 2 8).setReg8 xy.high (hi (s.xy xy) - 1)).setF (decF (hi (s.xy xy)))) ∧
    exec (instrOf [xy.byte, 0x2D]) s =
      .next (((s.fetched 2 2 8).setReg8 xy.low (lo (s.xy xy) - 1)).setF (decF (lo (s.xy xy)))) ∧
    exec (instrOf [xy.byte, 0x34, d]) s =
      .next ((((s.fetched 3 2 23).setWz (s.ea xy d)).writeMem (s.ea xy d) (x + 1)).setF (incF x)) ∧
    exec (instrOf [xy.byte, 0x35, d]) s =
      .next ((((s.fetched 3 2 23).setWz (s.ea xy d)).writeMem (s.ea xy d) (x - 1)).setF (decF x))

/-- R273 to R277: DAA, CPL, NEG (in every encoding), SCF, CCF. Y and X of SCF and CCF (R276, R277) are the spec's
decision D36. -/
def Obligations.AccumulatorAndFlagOperations : Prop :=
  ∀ (y : BitVec 3) (s : State),
    let low := fH s.f = true ∨ 9 < (s.a &&& 0x0F).toNat
    let high := fC s.f = true ∨ 0x99 < s.a.toNat
    let corr : Byte := if low then (if high then 0x66 else 0x06) else (if high then 0x60 else 0)
    let w : Byte := if fN s.f then s.a - corr else s.a + corr
    exec (instrOf [0x27]) s =
      .next (((s.fetched 1 1 4).setA w).setF
        (sz53P w ||| ((s.a ^^^ w) &&& 0x10) ||| (s.f &&& 0x02) ||| (if high then 0x01 else 0))) ∧
    exec (instrOf [0x2F]) s =
      .next (((s.fetched 1 1 4).setA (~~~s.a)).setF ((s.f &&& 0xC5) ||| 0x12 ||| (~~~s.a &&& 0x28))) ∧
    exec (instrOf [0xED, opcode 1 y 4]) s =
      .next (((s.fetched 2 2 8).setA (-s.a)).setF
        (sz53 (-s.a) ||| (if s.a &&& 0x0F ≠ 0 then 0x10 else 0) ||| (if s.a = 0x80 then 0x04 else 0) ||| 0x02 |||
          (if s.a ≠ 0 then 0x01 else 0))) ∧
    exec (instrOf [0x37]) s = .next ((s.fetched 1 1 4).setF ((s.f &&& 0xC4) ||| (s.a &&& 0x28) ||| 0x01)) ∧
    exec (instrOf [0x3F]) s =
      .next ((s.fetched 1 1 4).setF ((s.f &&& 0xC4) ||| (s.a &&& 0x28) ||| (if fC s.f then 0x10 else 0x01)))

/-- R273: DAA after ADD and after SUB on packed BCD digits gives the decimal sum and difference, with the decimal carry. -/
def Obligations.DecimalAdjustIsDecimal : Prop :=
  let bcd := fun n : Nat => BitVec.ofNat 8 (n / 10 * 16 + n % 10)
  ∀ x y : Nat, x < 100 → y < 100 → ∀ f : Byte,
    let sum := aluResult .add (bcd x) (bcd y) f
    let difference := aluResult .sub (bcd x) (bcd y) f
    (daaResult sum.1 sum.2).1 = bcd ((x + y) % 100) ∧ fC (daaResult sum.1 sum.2).2 = decide (100 ≤ x + y) ∧
    (daaResult difference.1 difference.2).1 = bcd ((100 + x - y) % 100) ∧
    fC (daaResult difference.1 difference.2).2 = decide (x < y)

/-! ## 16-bit arithmetic (43_alu16.md) -/

/-- R300, R301, R304: ADD HL,rr and ADD XY,rr; INC rr and DEC rr, which write no flag and no WZ. -/
def Obligations.PairArithmetic : Prop :=
  ∀ (p : BitVec 2) (xy : XY) (s : State),
    let flags := fun x v : Word =>
      (s.f &&& 0xC4) ||| (hi (x + v) &&& 0x28) ||| (if (x ^^^ v ^^^ (x + v)).getLsbD 12 then 0x10 else 0) |||
        (if 0xFFFF < x.toNat + v.toNat then 0x01 else 0)
    exec (instrOf [opcode 0 (fieldY p 1) 1]) s =
      .next ((((s.fetched 1 1 11).setHl (s.hl + s.reg16 (rpTable p))).setF (flags s.hl (s.reg16 (rpTable p)))).setWz
        (s.hl + 1)) ∧
    exec (instrOf [xy.byte, opcode 0 (fieldY p 1) 1]) s =
      .next ((((s.fetched 2 2 15).setReg16 xy.reg16 (s.xy xy + s.reg16 (rpIndexTable xy p))).setF
        (flags (s.xy xy) (s.reg16 (rpIndexTable xy p)))).setWz (s.xy xy + 1)) ∧
    exec (instrOf [opcode 0 (fieldY p 0) 3]) s =
      .next ((s.fetched 1 1 6).setReg16 (rpTable p) (s.reg16 (rpTable p) + 1)) ∧
    exec (instrOf [opcode 0 (fieldY p 1) 3]) s =
      .next ((s.fetched 1 1 6).setReg16 (rpTable p) (s.reg16 (rpTable p) - 1)) ∧
    exec (instrOf [xy.byte, 0x23]) s = .next ((s.fetched 2 2 10).setReg16 xy.reg16 (s.xy xy + 1)) ∧
    exec (instrOf [xy.byte, 0x2B]) s = .next ((s.fetched 2 2 10).setReg16 xy.reg16 (s.xy xy - 1))

/-- R302, R303: ADC HL,rr and SBC HL,rr. -/
def Obligations.AddAndSubtractPairsWithCarry : Prop :=
  ∀ (p : BitVec 2) (s : State),
    let x := s.hl
    let v := s.reg16 (rpTable p)
    let c : Nat := if fC s.f then 1 else 0
    let sum : Word := BitVec.ofNat 16 (x.toNat + v.toNat + c)
    let difference : Word := BitVec.ofInt 16 ((x.toNat : Int) - v.toNat - c)
    let common := fun w : Word =>
      (hi w &&& 0xA8) ||| (if w = 0 then 0x40 else 0) ||| (if (x ^^^ v ^^^ w).getLsbD 12 then (0x10 : Byte) else 0)
    exec (instrOf [0xED, opcode 1 (fieldY p 1) 2]) s =
      .next ((((s.fetched 2 2 15).setHl sum).setF
        (common sum ||| (if ((x ^^^ sum) &&& (v ^^^ sum) &&& 0x8000) ≠ 0 then 0x04 else 0) |||
          (if 0xFFFF < x.toNat + v.toNat + c then 0x01 else 0))).setWz (x + 1)) ∧
    exec (instrOf [0xED, opcode 1 (fieldY p 0) 2]) s =
      .next ((((s.fetched 2 2 15).setHl difference).setF
        (common difference ||| (if ((x ^^^ v) &&& (x ^^^ difference) &&& 0x8000) ≠ 0 then 0x04 else 0) ||| 0x02 |||
          (if x.toNat < v.toNat + c then 0x01 else 0))).setWz (x + 1))

/-- R300, R302, R303 with R37: H is the carry out of bit 11 (the borrow into bit 12), P/V of ADC and SBC the signed
overflow, C the carry out of bit 15 (the borrow). -/
def Obligations.PairFlagsAreCarries : Prop :=
  ∀ (x v : Word) (f : Byte),
    let c : Nat := if fC f then 1 else 0
    let add := addWords x v f
    let adc := adcWords x v f
    let sbc := sbcWords x v f
    (add.1 = x + v ∧ fH add.2 = decide (4095 < x.toNat % 4096 + v.toNat % 4096) ∧ fC add.2 = decide (65535 < x.toNat + v.toNat) ∧
      fN add.2 = false ∧ fS add.2 = fS f ∧ fZ add.2 = fZ f ∧ fP add.2 = fP f) ∧
    (adc.1.toNat = (x.toNat + v.toNat + c) % 65536 ∧ fS adc.2 = decide (adc.1.toInt < 0) ∧ fZ adc.2 = decide (adc.1 = 0) ∧
      fH adc.2 = decide (4095 < x.toNat % 4096 + v.toNat % 4096 + c) ∧ fC adc.2 = decide (65535 < x.toNat + v.toNat + c) ∧
      fP adc.2 = decide (x.toInt + v.toInt + (c : Int) < -32768 ∨ 32767 < x.toInt + v.toInt + (c : Int)) ∧ fN adc.2 = false) ∧
    ((sbc.1.toNat : Int) = ((x.toNat : Int) - v.toNat - c) % 65536 ∧ fS sbc.2 = decide (sbc.1.toInt < 0) ∧
      fZ sbc.2 = decide (sbc.1 = 0) ∧ fH sbc.2 = decide (x.toNat % 4096 < v.toNat % 4096 + c) ∧
      fC sbc.2 = decide (x.toNat < v.toNat + c) ∧
      fP sbc.2 = decide (x.toInt - v.toInt - (c : Int) < -32768 ∨ 32767 < x.toInt - v.toInt - (c : Int)) ∧ fN sbc.2 = true)

/-! ## Rotates, shifts and bits (44_rotate_shift_bit.md) -/

/-- R320 to R323: RLCA, RRCA, RLA, RRA; S, Z and P/V stay. -/
def Obligations.AccumulatorRotates : Prop :=
  ∀ s : State,
    let v := s.a
    let c : Byte := if fC s.f then 1 else 0
    let done := fun (w : Byte) (cout : Bool) =>
      ((s.fetched 1 1 4).setA w).setF ((s.f &&& 0xC4) ||| (w &&& 0x28) ||| (if cout then 0x01 else 0))
    exec (instrOf [0x07]) s = .next (done ((v <<< 1) ||| (v >>> 7)) (v.getLsbD 7)) ∧
    exec (instrOf [0x0F]) s = .next (done ((v >>> 1) ||| ((v &&& 1) <<< 7)) (v.getLsbD 0)) ∧
    exec (instrOf [0x17]) s = .next (done ((v <<< 1) ||| c) (v.getLsbD 7)) ∧
    exec (instrOf [0x1F]) s = .next (done ((v >>> 1) ||| (c <<< 7)) (v.getLsbD 0))

/-- R324 to R333: the CB rotates and shifts of a register and of (HL), with the eight operations of R325 written out; F is
written from the result even where the store is dropped. -/
def Obligations.RotateAndShift : Prop :=
  (∀ (v : Byte) (c : Bool),
    let bit := fun b : Bool => if b then (1 : Byte) else 0
    rotate (rotTable 0) v c = ((v <<< 1) ||| bit (v.getLsbD 7), v.getLsbD 7) ∧
    rotate (rotTable 1) v c = ((v >>> 1) ||| (bit (v.getLsbD 0) <<< 7), v.getLsbD 0) ∧
    rotate (rotTable 2) v c = ((v <<< 1) ||| bit c, v.getLsbD 7) ∧
    rotate (rotTable 3) v c = ((v >>> 1) ||| (bit c <<< 7), v.getLsbD 0) ∧
    rotate (rotTable 4) v c = (v <<< 1, v.getLsbD 7) ∧
    rotate (rotTable 5) v c = ((v >>> 1) ||| (v &&& 0x80), v.getLsbD 0) ∧
    rotate (rotTable 6) v c = ((v <<< 1) ||| 1, v.getLsbD 7) ∧
    rotate (rotTable 7) v c = (v >>> 1, v.getLsbD 0)) ∧
  ∀ (y z : BitVec 3) (s : State),
    let result := fun v : Byte => rotate (rotTable y) v (fC s.f)
    let flags := fun v : Byte => sz53P (result v).1 ||| (if (result v).2 then 0x01 else 0)
    (z ≠ 6 → exec (instrOf [0xCB, opcode 0 y z]) s =
      .next (((s.fetched 2 2 8).writeLoc (rTable z) (result (s.readLoc (rTable z))).1).setF
        (flags (s.readLoc (rTable z))))) ∧
    exec (instrOf [0xCB, opcode 0 y 6]) s =
      .next (((s.fetched 2 2 15).writeMem s.hl (result (s.readMem s.hl)).1).setF (flags (s.readMem s.hl)))

/-- R334, R335, R337, R338: BIT on a register takes Y and X from the register, on (HL) from the high byte of WZ; RES and SET
write one bit and no flag. -/
def Obligations.BitTestResetAndSet : Prop :=
  ∀ (b z : BitVec 3) (s : State),
    let flags := fun (v : Byte) (source : Byte) =>
      (if v.getLsbD b.toNat then (if b = 7 then 0x80 else 0) else 0x44) ||| 0x10 ||| (source &&& 0x28) ||| (s.f &&& 0x01)
    let cleared := fun v : Byte => v &&& ~~~(1#8 <<< b.toNat)
    let set := fun v : Byte => v ||| (1#8 <<< b.toNat)
    let r := s.readLoc (rTable z)
    let m := s.readMem s.hl
    (z ≠ 6 →
      exec (instrOf [0xCB, opcode 1 b z]) s = .next ((s.fetched 2 2 8).setF (flags r r)) ∧
      exec (instrOf [0xCB, opcode 2 b z]) s = .next ((s.fetched 2 2 8).writeLoc (rTable z) (cleared r)) ∧
      exec (instrOf [0xCB, opcode 3 b z]) s = .next ((s.fetched 2 2 8).writeLoc (rTable z) (set r))) ∧
    exec (instrOf [0xCB, opcode 1 b 6]) s = .next ((s.fetched 2 2 12).setF (flags m (hi s.wz))) ∧
    exec (instrOf [0xCB, opcode 2 b 6]) s = .next ((s.fetched 2 2 15).writeMem s.hl (cleared m)) ∧
    exec (instrOf [0xCB, opcode 3 b 6]) s = .next ((s.fetched 2 2 15).writeMem s.hl (set m))

/-- R336, R339, R340: the DDCB and FDCB forms: the byte at XY + d, WZ the effective address, and, but for BIT, a copy to
the register z names, which is written even where the store is dropped; z = 6 names none. That BIT with z ≠ 6 copies
nothing (R336) is the spec's decision D51. -/
def Obligations.IndexedBitOperations : Prop :=
  ∀ (xy : XY) (d : Byte) (y z : BitVec 3) (s : State),
    let ea := s.ea xy d
    let v := s.readMem ea
    let copy := fun (t : State) (w : Byte) => if z = 6 then t else t.writeLoc (rTable z) w
    let w := rotate (rotTable y) v (fC s.f)
    exec (instrOf [xy.byte, 0xCB, d, opcode 0 y z]) s =
      .next ((copy (((s.fetched 4 2 23).setWz ea).writeMem ea w.1) w.1).setF (sz53P w.1 ||| (if w.2 then 0x01 else 0))) ∧
    exec (instrOf [xy.byte, 0xCB, d, opcode 1 y z]) s =
      .next (((s.fetched 4 2 20).setWz ea).setF
        ((if v.getLsbD y.toNat then (if y = 7 then 0x80 else 0) else 0x44) ||| 0x10 ||| (hi ea &&& 0x28) ||| (s.f &&& 0x01))) ∧
    exec (instrOf [xy.byte, 0xCB, d, opcode 2 y z]) s =
      .next (copy (((s.fetched 4 2 23).setWz ea).writeMem ea (v &&& ~~~(1#8 <<< y.toNat))) (v &&& ~~~(1#8 <<< y.toNat))) ∧
    exec (instrOf [xy.byte, 0xCB, d, opcode 3 y z]) s =
      .next (copy (((s.fetched 4 2 23).setWz ea).writeMem ea (v ||| (1#8 <<< y.toNat))) (v ||| (1#8 <<< y.toNat)))

/-- R341, R342: RLD and RRD. -/
def Obligations.DigitRotates : Prop :=
  ∀ s : State,
    let t := s.readMem s.hl
    let done := fun (m a : Byte) =>
      ((((s.fetched 2 2 18).writeMem s.hl m).setA a).setF (sz53P a ||| (s.f &&& 0x01))).setWz (s.hl + 1)
    exec (instrOf [0xED, 0x6F]) s = .next (done ((t <<< 4) ||| (s.a &&& 0x0F)) ((s.a &&& 0xF0) ||| (t >>> 4))) ∧
    exec (instrOf [0xED, 0x67]) s = .next (done ((s.a <<< 4) ||| (t >>> 4)) ((s.a &&& 0xF0) ||| (t &&& 0x0F)))

/-! ## Control (45_control.md) -/

/-- R360 to R366: JP nn, JP cc,nn (WZ written taken or not), JP (HL), JP (XY), and JR, JR cc and DJNZ, whose target is
relative to the address after the instruction and whose WZ is written only when taken. -/
def Obligations.Jumps : Prop :=
  ∀ (y : BitVec 3) (xy : XY) (nn : Word) (e : Byte) (s : State),
    let target := s.pc + 2 + sext8 e
    let b := s.main.b - 1
    exec (instrOf [0xC3, lo nn, hi nn]) s = .next (((s.fetched 3 1 10).setWz nn).setPc nn) ∧
    exec (instrOf [opcode 3 y 2, lo nn, hi nn]) s =
      .next (((s.fetched 3 1 10).setWz nn).setPc (if (ccTable y).holds s.f then nn else s.pc + 3)) ∧
    exec (instrOf [0xE9]) s = .next ((s.fetched 1 1 4).setPc s.hl) ∧
    exec (instrOf [xy.byte, 0xE9]) s = .next ((s.fetched 2 2 8).setPc (s.xy xy)) ∧
    exec (instrOf [0x18, e]) s = .next (((s.fetched 2 1 12).setPc target).setWz target) ∧
    (4 ≤ y.toNat → exec (instrOf [opcode 0 y 0, e]) s =
      .next (if (ccTable (y - 4)).holds s.f then ((s.fetched 2 1 12).setPc target).setWz target else s.fetched 2 1 7)) ∧
    exec (instrOf [0x10, e]) s =
      .next (if b ≠ 0 then (((s.fetched 2 1 13).setB b).setPc target).setWz target else (s.fetched 2 1 8).setB b)

/-- R367, R368, R373 with R97: CALL, CALL cc and RST push the address after the instruction. -/
def Obligations.Calls : Prop :=
  ∀ (y : BitVec 3) (nn : Word) (s : State),
    let enter := fun (t : State) (back target : Word) =>
      ((((t.writeMem (s.sp - 1) (hi back)).writeMem (s.sp - 2) (lo back)).setSp (s.sp - 2)).setWz target).setPc target
    exec (instrOf [0xCD, lo nn, hi nn]) s = .next (enter (s.fetched 3 1 17) (s.pc + 3) nn) ∧
    exec (instrOf [opcode 3 y 4, lo nn, hi nn]) s =
      .next (if (ccTable y).holds s.f then enter (s.fetched 3 1 17) (s.pc + 3) nn else (s.fetched 3 1 10).setWz nn) ∧
    exec (instrOf [opcode 3 y 7]) s = .next (enter (s.fetched 1 1 11) (s.pc + 1) (BitVec.ofNat 16 (8 * y.toNat)))

/-- R369 to R372 with R97: RET, RET cc, RETI, and RETN in every encoding; RETI and RETN copy IFF2 into IFF1. -/
def Obligations.Returns : Prop :=
  ∀ (y : BitVec 3) (s : State),
    let back := pair (s.readMem (s.sp + 1)) (s.readMem s.sp)
    let leave := fun t : State => ((t.setSp (s.sp + 2)).setPc back).setWz back
    exec (instrOf [0xC9]) s = .next (leave (s.fetched 1 1 10)) ∧
    exec (instrOf [opcode 3 y 0]) s =
      .next (if (ccTable y).holds s.f then leave (s.fetched 1 1 11) else s.fetched 1 1 5) ∧
    exec (instrOf [0xED, opcode 1 y 5]) s = .next { leave (s.fetched 2 2 14) with iff1 := s.iff2 }

/-! ## Block instructions (46_block.md) -/

/-- R400 to R405: LDI, LDD, LDIR, LDDR, one iteration a step. The repeating form goes back to its own ED byte while BC
is not 0, at 21 T-states. The flags of a repeating iteration (R404) are the spec's decision D37. -/
def Obligations.BlockTransfers : Prop :=
  ∀ (down : Bool) (s : State),
    let y : BitVec 3 := if down then 5 else 4
    let step1 : Word := if down then -1 else 1
    let t := s.readMem s.hl
    let n := t + s.a
    let bc := s.bc - 1
    let moved := ((((((s.fetched 2 2 16).writeMem s.de t).setHl (s.hl + step1)).setDe (s.de + step1)).setBc bc).setF
      ((s.f &&& 0xC1) ||| (if n.getLsbD 1 then 0x20 else 0) ||| (if n.getLsbD 3 then 0x08 else 0) |||
        (if bc ≠ 0 then 0x04 else 0)))
    exec (instrOf [0xED, opcode 2 y 0]) s = .next moved ∧
    exec (instrOf [0xED, opcode 2 (y + 2) 0]) s =
      .next (if bc ≠ 0 then ((moved.setPc s.pc).addCyc 5).setWz (s.pc + 1) else moved)

/-- R400, R401, R406 to R409: CPI, CPD, CPIR, CPDR; the repeat ends at BC = 0 or at a byte equal to A. The flags of a
repeating iteration (R408) are the spec's decision D37. -/
def Obligations.BlockCompares : Prop :=
  ∀ (down : Bool) (s : State),
    let y : BitVec 3 := if down then 5 else 4
    let step1 : Word := if down then -1 else 1
    let t := s.readMem s.hl
    let r := s.a - t
    let h := (s.a ^^^ t ^^^ r).getLsbD 4
    let n := r - (if h then 1 else 0)
    let bc := s.bc - 1
    let compared := (((((s.fetched 2 2 16).setHl (s.hl + step1)).setBc bc).setWz (s.wz + step1)).setF
      ((r &&& 0x80) ||| (if r = 0 then 0x40 else 0) ||| (if n.getLsbD 1 then 0x20 else 0) ||| (if h then 0x10 else 0) |||
        (if n.getLsbD 3 then 0x08 else 0) ||| (if bc ≠ 0 then 0x04 else 0) ||| 0x02 ||| (s.f &&& 0x01)))
    exec (instrOf [0xED, opcode 2 y 1]) s = .next compared ∧
    exec (instrOf [0xED, opcode 2 (y + 2) 1]) s =
      .next (if bc ≠ 0 ∧ r ≠ 0 then ((compared.setPc s.pc).addCyc 5).setWz (s.pc + 1) else compared)

/-- R400, R401, R410 to R413: INI, IND, INIR, INDR: the port address uses B before the decrement. The flags of a
repeating iteration (R412) are the spec's decision D37. -/
def Obligations.BlockInputs : Prop :=
  ∀ (down : Bool) (s : State),
    let y : BitVec 3 := if down then 5 else 4
    let step1 : Word := if down then -1 else 1
    let step8 : Byte := if down then -1 else 1
    let t := ((s.fetched 2 2 16).portIn s.bc).1
    let b := s.main.b - 1
    let k := t.toNat + (s.main.c + step8).toNat
    let taken := (((((((s.fetched 2 2 16).portIn s.bc).2.setWz (s.bc + step1)).writeMem s.hl t).setB b).setHl (s.hl + step1)).setF
      (sz53 b ||| (if t.getLsbD 7 then 0x02 else 0) ||| (if 0xFF < k then 0x11 else 0) |||
        (if par (BitVec.ofNat 8 (k % 8) ^^^ b) then 0x04 else 0)))
    exec (instrOf [0xED, opcode 2 y 2]) s = .next taken ∧
    exec (instrOf [0xED, opcode 2 (y + 2) 2]) s = .next (if b ≠ 0 then (taken.setPc s.pc).addCyc 5 else taken)

/-- R400, R401, R414 to R417: OUTI, OUTD, OTIR, OTDR: the port address and WZ use B after the decrement, the flags L
after the step. The flags of a repeating iteration (R416) are the spec's decision D37. -/
def Obligations.BlockOutputs : Prop :=
  ∀ (down : Bool) (s : State),
    let y : BitVec 3 := if down then 5 else 4
    let step1 : Word := if down then -1 else 1
    let t := s.readMem s.hl
    let b := s.main.b - 1
    let k := t.toNat + (lo (s.hl + step1)).toNat
    let sent := ((((((s.fetched 2 2 16).setB b).portOut (pair b s.main.c) t).setWz (pair b s.main.c + step1)).setHl
      (s.hl + step1)).setF
      (sz53 b ||| (if t.getLsbD 7 then 0x02 else 0) ||| (if 0xFF < k then 0x11 else 0) |||
        (if par (BitVec.ofNat 8 (k % 8) ^^^ b) then 0x04 else 0)))
    exec (instrOf [0xED, opcode 2 y 3]) s = .next sent ∧
    exec (instrOf [0xED, opcode 2 (y + 2) 3]) s = .next (if b ≠ 0 then (sent.setPc s.pc).addCyc 5 else sent)

/-! ## Input and output (47_io.md) and CPU control (48_cpu_control.md) -/

/-- R440 to R445: the single-byte I/O instructions; `IN (C)` writes no register, `OUT (C),0` sends 0. That `IN (C)`
writes no register and `OUT (C),0` sends 0 (R443, R445) is the spec's decision D52. -/
def Obligations.InputAndOutput : Prop :=
  ∀ (n : Byte) (y : BitVec 3) (s : State),
    let viaA := (s.fetched 2 1 11).portIn (pair s.a n)
    let viaC := (s.fetched 2 2 12).portIn s.bc
    let flags := sz53P viaC.1 ||| (s.f &&& 0x01)
    exec (instrOf [0xDB, n]) s = .next ((viaA.2.setA viaA.1).setWz (pair s.a n + 1)) ∧
    exec (instrOf [0xD3, n]) s =
      .next (((s.fetched 2 1 11).portOut (pair s.a n) s.a).setWz (pair s.a (n + 1))) ∧
    (y ≠ 6 → exec (instrOf [0xED, opcode 1 y 0]) s =
      .next (((viaC.2.writeLoc (rTable y) viaC.1).setWz (s.bc + 1)).setF flags)) ∧
    exec (instrOf [0xED, 0x70]) s = .next ((viaC.2.setWz (s.bc + 1)).setF flags) ∧
    (y ≠ 6 → exec (instrOf [0xED, opcode 1 y 1]) s =
      .next (((s.fetched 2 2 12).portOut s.bc (s.readLoc (rTable y))).setWz (s.bc + 1))) ∧
    exec (instrOf [0xED, 0x71]) s = .next (((s.fetched 2 2 12).portOut s.bc 0).setWz (s.bc + 1))

/-- R460 to R467: NOP, HALT, DI, EI, IM in every encoding, and the ED codes that are two-byte no-operations of 8
T-states, which do not consume the byte after them. HALT's PC (R461) is the spec's decision D38, `ED 4E` and `ED 6E` as
IM 0 (R464) D17; the list of codes of R467 is derived there. -/
def Obligations.CpuControl : Prop :=
  ∀ (y : BitVec 3) (op n : Byte) (s : State),
    exec (instrOf [0x00]) s = .next (s.fetched 1 1 4) ∧
    exec (instrOf [0x76]) s = .next { s.fetched 1 1 4 with halted := true } ∧
    exec (instrOf [0xF3]) s = .next { s.fetched 1 1 4 with iff1 := false, iff2 := false } ∧
    exec (instrOf [0xFB]) s = .next { s.fetched 1 1 4 with iff1 := true, iff2 := true, iffDelay := 1 } ∧
    exec (instrOf [0xED, opcode 1 y 6]) s =
      .next { s.fetched 2 2 8 with
        im := if y = 2 ∨ y = 6 then .im1 else if y = 3 ∨ y = 7 then .im2 else .im0 } ∧
    ((op.toNat < 0x40 ∨ op = 0x77 ∨ op = 0x7F ∨ (0x80 ≤ op.toNat ∧ op.toNat < 0xA0) ∨
        (0xA4 ≤ op.toNat ∧ op.toNat < 0xA8) ∨ (0xAC ≤ op.toNat ∧ op.toNat < 0xB0) ∨
        (0xB4 ≤ op.toNat ∧ op.toNat < 0xB8) ∨ 0xBC ≤ op.toNat) →
      exec (instrOf [0xED, op, n]) s = .next (s.fetched 2 2 8))

/-! ## Prefixes (30_encoding.md) -/

/-- R145: a DD or FD before an opcode outside the affected set (R140) and other than a prefix byte: the opcode executes as
unprefixed, one byte, one R increment and 4 T-states later. -/
def Obligations.IgnoredIndexPrefix : Prop :=
  ∀ (xy : XY) (op n1 n2 : Byte) (s : State), indexAffected op = false → isPrefixByte op = false →
    ∃ t, exec (instrOf [op, n1, n2]) (s.fetched 1 1 4) = .next t ∧ exec (instrOf [xy.byte, op, n1, n2]) s = .next t

/-- R144: a DD or FD before DD, FD or ED costs 4 T-states, one R increment and one byte, and the step goes on with the
next byte: no boundary comes between. The spec's decisions D35 and D47; log entry 10, and for a repeating block instruction
after it log entry 9. -/
def Obligations.PrefixChainIsOneStep : Prop :=
  ∀ (xy : XY) (b n1 n2 : Byte), (b = 0xDD ∨ b = 0xFD ∨ b = 0xED) →
    (∀ s : State, exec (instrOf [xy.byte, b, n1, n2]) s = .next (s.fetched 1 1 4)) ∧
    (∀ s : State, s.halted = false → s.readMem s.pc = xy.byte → s.readMem (s.pc + 1) = b →
      step s = step (s.fetched 1 1 4))

/-- R150 with R144: the bytes that the decoder consumes are those of the length rule, for every instruction after every
chain; and the instruction moves PC by them, unless it is a jump, call, return, restart or repeating block instruction
(`Form.transfers`, whose PC the statements about them give) or a DD or FD before DD, FD or ED, which moves it by 1 and is
one of the bytes of the step (`PrefixChainIsOneStep`; the spec's decisions D35 and D47, log entry 10). -/
def Obligations.LengthRule : Prop :=
  (∀ (chain : List Byte) (b0 b1 b2 b3 : Byte), (∀ b ∈ chain, b = 0xDD ∨ b = 0xFD) → b0 ≠ 0xDD → b0 ≠ 0xFD →
    consumed (chain ++ [b0, b1, b2, b3]) = lengthRule (chain ++ [b0, b1, b2, b3])) ∧
  (∀ (b0 b1 b2 b3 : Byte) (s : State),
    let form := formOf b0 b1 b2 b3
    ∃ t, exec (instrOf [b0, b1, b2, b3]) s = .next t ∧
      (form = .alone → t.pc = s.pc + 1) ∧
      (form ≠ .alone → form.transfers = false → t.pc = s.pc + BitVec.ofNat 16 (lengthRule [b0, b1, b2, b3])))

/-- R130, R149 to R155: the decoder reads back what the encoder writes, and leaves the bytes after it. The byte after a lone
DD or FD must be one that makes it an instruction of its own (R144, decisions D35 and D47, log entry 10). -/
def Obligations.DecodeReadsEncode : Prop :=
  ∀ (i : Instr) (next : Byte) (rest : List Byte), i.wellFormed = true → i.mayPrecede next = true →
    decode (encode i ++ next :: rest) = .ok (i, next :: rest)

/-- R131 to R155: some words of each family, written from the spec's encodings, decode to their instructions. That a word's
first byte is its highest, as `decodeTableWord` lays it out, is the model's choice (log entry 1, DEDUCED). -/
def Obligations.SampleWordsDecode : Prop :=
  decodeTableWord 8 0x78 = some .ld_A_B ∧ decodeTableWord 16 0x3E55 = some (.ld_A_n 0x55) ∧
  decodeTableWord 24 0x213412 = some (.ld_HL_nn 0x1234) ∧ decodeTableWord 8 0x76 = some .halt ∧
  decodeTableWord 8 0xBE = some .cp_mHL ∧ decodeTableWord 16 0xCB7E = some .bit_7_mHL ∧
  decodeTableWord 16 0xED4D = some .reti ∧ decodeTableWord 16 0xEDB0 = some .ldir ∧
  decodeTableWord 32 0xDD3602AB = some (.ld_mIXd_n 0x02 0xAB) ∧
  decodeTableWord 32 0xFDCBFF87 = some (.res_0_mIYd_A 0xFF) ∧ decodeTableWord 16 0xDD65 = some .ld_IXH_IXL ∧
  decodeTableWord 16 0xDDEB = some .dd_ex_DE_HL

/-! ## Memory (20_memory.md) -/

/-- R91, R92, R93: a byte written is read back, every other byte is unchanged, and a write below the ROM ceiling changes
nothing. -/
def Obligations.MemoryWrite : Prop :=
  ∀ (s : State) (a b : Word) (v : Byte),
    (s.params.romCeiling.val ≤ a.toNat → (s.writeMem a v).readMem b = if b = a then v else s.readMem b) ∧
    (a.toNat < s.params.romCeiling.val → s.writeMem a v = s)

/-! ## What every instruction leaves unchanged -/

/-- Every instruction of every form answers a next state, and every byte of memory outside the addresses that `Form.stores`
computes reads as before; none at all changes where the form stores nothing. -/
def Obligations.MemoryFrame : Prop :=
  ∀ (b0 b1 b2 b3 : Byte) (s : State),
    ∃ t, exec (instrOf [b0, b1, b2, b3]) s = .next t ∧
      ∀ a : Word, a ∉ (formOf b0 b1 b2 b3).stores s → t.readMem a = s.readMem a

/-- R39: an instruction outside its list leaves all of F unchanged. -/
def Obligations.FlagFrame : Prop :=
  ∀ (b0 b1 b2 b3 : Byte) (s t : State), (formOf b0 b1 b2 b3).writesF = false →
    exec (instrOf [b0, b1, b2, b3]) s = .next t → t.f = s.f

/-- R32, R41, R42, R44 to R47, R469: which instruction can change each register of the CPU's control state. The request
latches, the C7 latch and the parameters are changed by none. F' in the shadow bank is the spec's decision D1. -/
def Obligations.ControlStateFrame : Prop :=
  ∀ (b0 b1 b2 b3 : Byte) (s t : State), exec (instrOf [b0, b1, b2, b3]) s = .next t →
    let form := formOf b0 b1 b2 b3
    let main := fun op : Byte => ∃ n1 n2, form = .main op n1 n2
    let ed := fun op : Byte => ∃ n1 n2, form = .ed op n1 n2
    (t.i ≠ s.i → ed 0x47) ∧ (t.r.getLsbD 7 ≠ s.r.getLsbD 7 → ed 0x4F) ∧
    (t.iff1 ≠ s.iff1 → main 0xF3 ∨ main 0xFB ∨ ∃ y, ed (opcode 1 y 5)) ∧
    (t.iff2 ≠ s.iff2 → main 0xF3 ∨ main 0xFB) ∧
    (t.im ≠ s.im → ∃ y, ed (opcode 1 y 6)) ∧
    (t.halted ≠ s.halted → main 0x76) ∧ (t.iffDelay ≠ s.iffDelay → main 0xFB) ∧
    (t.shadow ≠ s.shadow → main 0x08 ∨ main 0xD9) ∧
    t.intPending = s.intPending ∧ t.intVector = s.intVector ∧ t.nmiPending = s.nmiPending ∧ t.c7Latch = s.c7Latch ∧
    t.params = s.params

/-- R99, R107: only the I/O instructions reach a device, the output sink only grows at its end, the input queue only loses
its head, and uses_8251 is never cleared. -/
def Obligations.DeviceFrame : Prop :=
  ∀ (b0 b1 b2 b3 : Byte) (s t : State), exec (instrOf [b0, b1, b2, b3]) s = .next t →
    ((formOf b0 b1 b2 b3).usesPort = false →
      t.queue = s.queue ∧ t.sink = s.sink ∧ t.uses8251 = s.uses8251 ∧ t.aciaCtrl = s.aciaCtrl ∧ t.sd = s.sd ∧
        t.files = s.files) ∧
    (t.sink = s.sink ∨ ∃ v, t.sink = s.sink ++ [v]) ∧ (t.queue = s.queue ∨ t.queue = s.queue.tail) ∧
    (s.uses8251 = true → t.uses8251 = true)

/-! ## Steps and interrupts (60_exceptions.md) -/

/-- R500: when the bytes at PC are an instruction of their own, a step of a CPU that is not halted is that instruction,
then the EI delay, then the boundary and C7. The place of the boundary is the spec's decision D8. -/
def Obligations.StepRunsTheInstructionAtPc : Prop :=
  ∀ (s t : State), s.halted = false →
    let i := instrOf [s.readMem s.pc, s.readMem (s.pc + 1), s.readMem (s.pc + 2), s.readMem (s.pc + 3)]
    i.isChainByte = false → exec i s = .next t →
    step s = (if i.isEi ∨ s.iffDelay = 0 then t else { t with iffDelay := s.iffDelay - 1 }).endStep

/-- R501: a halted step fetches nothing, adds 4 to cyc and one to R, and goes on to the boundary. The increment of R is
the spec's decision D15. -/
def Obligations.HaltedStep : Prop :=
  ∀ s : State, s.halted = true →
    step s = ({ s with r := bumpR s.r 1, cyc := s.cyc + 4, iffDelay := 0 } : State).endStep

/-- R502, R503, R463: the step of an EI accepts no maskable interrupt; iff_delay is 1 at the end of EI, and 0 at the end of
every other instruction and of a halted cycle, so that the delay lasts over one instruction; a DD or FD before DD, FD or ED
is no instruction of its own here and hands the delay on (R144); and a boundary with iff_delay 1 takes no maskable
interrupt. That nothing else writes iff_delay is the spec's decision D9; that a DD or FD before DD, FD or ED and what follows
it are one step rests on its decisions D35 and D47 and on log entry 10 (DEDUCED); that an NMI is not delayed is D10. -/
def Obligations.EiDelayLastsOneInstruction : Prop :=
  (∀ s t : State, s.halted = false → s.readMem s.pc = 0xFB → s.nmiPending = false → step s = .next t →
    t.pc = s.pc + 1 ∧ t.sp = s.sp ∧ t.mem = s.mem ∧ t.iff1 = true ∧ t.iff2 = true ∧ t.iffDelay = 1) ∧
  (∀ s t : State, s.halted = false → s.nextIsChain = false → s.nextIsEi = false → s.instructionStep = .next t →
    t.iffDelay = 0) ∧
  (∀ s t : State, s.halted = false → s.nextIsEi = true → s.instructionStep = .next t →
    t.iffDelay = 1 ∧ t.iff1 = true ∧ t.iff2 = true) ∧
  (∀ s : State, s.halted = false → s.nextIsChain = true → s.instructionStep = (s.fetched 1 1 4).instructionStep) ∧
  (∀ s t : State, s.halted = true → s.instructionStep = .next t → t.iffDelay = 0) ∧
  (∀ s : State, s.iffDelay = 1 → s.nmiPending = false → s.boundary = .next s)

/-- R503, R504, R513: a pending NMI is taken first, whatever IFF1 and the EI delay. The spec's decisions D10 and D15. -/
def Obligations.NmiAcceptance : Prop :=
  ∀ s : State, s.nmiPending = true →
    s.boundary = .next
      { ((s.writeMem (s.sp - 1) (hi s.pc)).writeMem (s.sp - 2) (lo s.pc)).setSp (s.sp - 2) with
        nmiPending := false, halted := false, iff1 := false, r := bumpR s.r 1, pc := 0x0066, wz := 0x0066
        cyc := s.cyc + 11 }

/-- R503, R505 to R508: a maskable request is taken where IFF1 = 1 and iff_delay = 0, else it stays; modes 1 and 2, and
mode 0 with an RST byte, push PC and enter; mode 0 with another byte is refused (decision D11, log entry 12). The
T-states are decision D12, the increment of R D15, the byte order of mode 2's table entry D49. -/
def Obligations.MaskableAcceptance : Prop :=
  ∀ s : State, s.nmiPending = false →
    let enter := fun (target : Word) (t : Nat) =>
      ({ ((s.writeMem (s.sp - 1) (hi s.pc)).writeMem (s.sp - 2) (lo s.pc)).setSp (s.sp - 2) with
        intPending := false, halted := false, iff1 := false, iff2 := false, r := bumpR s.r 1, pc := target, wz := target
        cyc := s.cyc + t } : State)
    let entry := pair s.i (s.intVector &&& 0xFE)
    ((s.intPending = false ∨ s.iff1 = false ∨ s.iffDelay = 1) → s.boundary = .next s) ∧
    (s.intPending = true → s.iff1 = true → s.iffDelay = 0 →
      (s.im = .im1 → s.boundary = .next (enter 0x0038 13)) ∧
      (s.im = .im2 → s.boundary = .next (enter (pair (s.readMem (entry + 1)) (s.readMem entry)) 19)) ∧
      (s.im = .im0 → s.intVector &&& 0xC7 = 0xC7 →
        s.boundary = .next (enter (pair 0 (s.intVector &&& 0x38)) 13)) ∧
      (s.im = .im0 → s.intVector &&& 0xC7 ≠ 0xC7 → s.boundary = .refused (.im0DataBusByte s.intVector)))

/-- R504, R372, R515: RETN after an NMI acceptance restores PC, SP and the enable that held before it, where the two stack
bytes are RAM and IFF2 held that enable. -/
def Obligations.RetnUndoesAnNmi : Prop :=
  ∀ (s t u : State) (y : BitVec 3), s.inRom (s.sp - 1) = false → s.inRom (s.sp - 2) = false →
    s.nmiPending = true → s.iff2 = s.iff1 → y ≠ 1 → s.boundary = .next t → exec (instrOf [0xED, opcode 1 y 5]) t = .next u →
    u.pc = s.pc ∧ u.sp = s.sp ∧ u.iff1 = s.iff1 ∧ u.iff2 = s.iff2 ∧ u.main = s.main

/-- R509, R510, R530: the requests, and C7 after each step. The spec's decisions D13, D14 and D22. That C7 raises wherever
IFF1 = 1, iff_delay = 0, the latch is clear and input waits, after the RETI of a handler too, is the model's choice of R530
where R531 differs (log entry 19, DEDUCED). -/
def Obligations.SchedulerAndRequests : Prop :=
  ∀ (s : State) (v : Byte),
    s.raiseInt v = (if s.intPending then s else { s with intPending := true, intVector := v }) ∧
    s.raiseNmi = { s with nmiPending := true } ∧
    (s.uses8251 = false → s.c7 = s) ∧
    (s.uses8251 = true → s.iff1 = false → s.c7 = { s with c7Latch := false }) ∧
    (s.uses8251 = true → s.iff1 = true → s.queue ≠ [] → s.iffDelay = 0 → s.c7Latch = false →
      s.c7 = { s.raiseInt 0xFF with c7Latch := true }) ∧
    (s.uses8251 = true → s.iff1 = true → (s.queue = [] ∨ s.iffDelay = 1 ∨ s.c7Latch = true) → s.c7 = s)

/-- R511, R506, R614: a step fails in two cases only, neither of them an instruction: an endless DD/FD chain, and a
maskable acceptance in mode 0 of a byte that is no RST opcode. The spec's decisions D35 and D11; log entries 10 and 12.
-/
def Obligations.StepFailsOnlyOutsideInstructions : Prop :=
  ∀ s : State,
    (∃ t, step s = .next t) ∨
    (step s = .fault .endlessPrefixChain ∧ ∀ a : Word, s.readMem a = 0xDD ∨ s.readMem a = 0xFD) ∨
    (∃ v, step s = .refused (.im0DataBusByte v) ∧ v &&& 0xC7 ≠ 0xC7 ∧ s.intPending = true ∧ v = s.intVector)

/-! ## Devices (60_exceptions.md) -/

/-- R540 to R554: the UART ports at every port address with their low byte, and the unowned and one-way ports. The
status bits, the decoding of the low byte, the upper-casing's range and the one-way ports are the spec's decisions D20,
D21, D6, D44, D27, D53. -/
def Obligations.UartAndUnownedPorts : Prop :=
  ∀ (h v : Byte) (s : State),
    let queued : Byte := if s.queue = [] then 0 else 1
    let head := s.queue.headD 0
    let taken : State := { s with queue := s.queue.tail }
    let used : State := { s with uses8251 := true }
    s.portIn (pair h 0x80) = (0x02 ||| queued, s) ∧ s.portIn (pair h 0x81) = (head, taken) ∧
    s.portOut (pair h 0x80) v = { s with aciaCtrl := v } ∧ s.portOut (pair h 0x81) v = { s with sink := s.sink ++ [v] } ∧
    s.portIn (pair h 0x01) = (0x85 ||| (queued <<< 1), used) ∧
    s.portIn (pair h 0x00) =
      (if 0x61 ≤ head.toNat ∧ head.toNat ≤ 0x7A then head - 0x20 else head, { used with queue := s.queue.tail }) ∧
    s.portOut (pair h 0x00) v = { used with sink := s.sink ++ [v] } ∧ s.portOut (pair h 0x01) v = used ∧
    s.portOut (pair h 0x11) v = s ∧
    (∀ p : Byte, p = 0x10 ∨ p = 0x13 ∨ p = 0x14 ∨ p = 0x15 → s.portIn (pair h p) = (0xFF, s)) ∧
    (∀ p : Byte, p ∉ [0x00, 0x01, 0x10, 0x11, 0x12, 0x13, 0x14, 0x15, 0x80, 0x81] →
      s.portIn (pair h p) = (0xFF, s) ∧ s.portOut (pair h p) v = s)

/-- R561 to R563: the SD filename, seek and status ports. The spec's decisions D25, D26, D29, D31; the parameters are
free (log entry 5). -/
def Obligations.SdLatchesAndStatus : Prop :=
  ∀ (h v : Byte) (s : State),
    let p := s.params.sd
    let available := (∃ f, s.sd.file = some f ∧ f.mode ≠ .write ∧ f.position < (FileStore.bytes s.files f.name).length) ∨
      (∃ b rest, s.sd.dir = some (b :: rest))
    s.portOut (pair h 0x13) 0 = { s with sd := { s.sd with fnameFinal := true } } ∧
    (v ≠ 0 → s.portOut (pair h 0x13) v =
      let name := if s.sd.fnameFinal then [] else s.sd.fname
      { s with sd := { s.sd with
          fname := if name.length < p.fnameCap - 1 then name ++ [v] else name, fnameFinal := false } }) ∧
    s.portOut (pair h 0x14) v = { s with sd := { s.sd with seekLo := v } } ∧
    s.portOut (pair h 0x15) v = { s with sd := { s.sd with seekHi := v } } ∧
    (p.legal → (s.portIn (pair h 0x11)).2 = s ∧ ∀ k : Fin 8,
      ((s.portIn (pair h 0x11)).1.getLsbD k = true ↔
        k = p.readyBit ∨ (k = p.errorBit ∧ s.sd.error = true) ∨ (k = p.availBit ∧ available)))

/-- R564, R565, R568 to R570, R572: the file commands: what is open after them, at which position, the store and the error
bit. An open-for-read or open-for-read-write of a missing name fails, create leaves an empty file, open-for-append keeps an
existing file and creates a missing one empty, and a seek beyond the file's length fails; any open or seek fails where the
backend refuses it. The spec's decisions D23 (every open closes both), D24, D30, D32, D33; the backend is a parameter (D55),
and what its answers depend on and what a handle is are the model's form of it (log entry 6). -/
def Obligations.SdFileCommands : Prop :=
  ∀ (h : Byte) (s : State), s.params.sd.legal →
    let codes := s.params.sd.codes
    let name := s.sd.fname
    let present := FileStore.has s.files name = true
    let allowed := fun op : StorageOp => s.params.policy.refuses s.files op = false
    let run := fun v : Byte => s.portOut (pair h 0x10) v
    let opened := fun (files : FileStore) (opening : Opening) (mode : FileMode) (position : Nat) =>
      ({ s with files := files, sd := { s.sd with
          file := some { handle := { name := name, opening := opening, store := s.files }, mode := mode, position := position }
          dir := none, error := false } } : State)
    let emptied := FileStore.put s.files name []
    let failed : State := { s with sd := { s.sd with file := none, dir := none, error := true } }
    run codes.openRead = (if present ∧ allowed (.openRead name) then opened s.files .read .read 0 else failed) ∧
    run codes.openReadWrite =
      (if present ∧ allowed (.openReadWrite name) then opened s.files .readWrite .readWrite 0 else failed) ∧
    run codes.create = (if allowed (.openWriteTrunc name) then opened emptied .writeTrunc .write 0 else failed) ∧
    run codes.openAppend =
      (if ¬ allowed (.openAppend name) then failed
        else if present then opened s.files .append .write (FileStore.bytes s.files name).length
        else opened emptied .append .write 0) ∧
    run codes.close = { s with sd := { s.sd with file := none, dir := none } } ∧
    (∀ v, v ∉ codes.toList → run v = s) ∧
    (∀ v offset, (v = codes.seekToStart ∧ offset = 0) ∨
        (v = codes.seekToByte ∧ offset = 256 * s.sd.seekHi.toNat + s.sd.seekLo.toNat) →
      run v = match s.sd.file with
        | none => { s with sd := { s.sd with error := true } }
        | some f =>
          if offset ≤ (FileStore.bytes s.files f.name).length ∧ allowed (.seek f.handle f.position offset) then
            { s with sd := { s.sd with file := some { f with position := offset }, error := false } }
          else { s with sd := { s.sd with file := none, error := true } })

/-- R566, R567: the SD data port. The spec's decisions D28, D29, D33; log entries 6 and 8. -/
def Obligations.SdDataPort : Prop :=
  ∀ (h v : Byte) (s : State) (f : OpenFile),
    let read := s.portIn (pair h 0x12)
    let written := s.portOut (pair h 0x12) v
    let moved : Sd := { s.sd with file := some { f with position := f.position + 1 } }
    (s.sd.file = some f → f.mode ≠ .write → ∀ b, (FileStore.bytes s.files f.name)[f.position]? = some b →
      read = (b, { s with sd := moved })) ∧
    (s.sd.file = some f → (f.mode = .write ∨ (FileStore.bytes s.files f.name).length ≤ f.position) →
      read = (0, { s with sd := { s.sd with file := none } })) ∧
    (s.sd.file = none → s.sd.dir = none → read = (0, s)) ∧
    (s.sd.file = some f → f.mode ≠ .read →
      s.params.policy.refuses s.files (.writeByte f.handle f.position v) = false →
      (f.position < (FileStore.bytes s.files f.name).length → written =
        { s with sd := moved, files := FileStore.put s.files f.name ((FileStore.bytes s.files f.name).set f.position v) }) ∧
      (f.position = (FileStore.bytes s.files f.name).length → written =
        { s with sd := moved, files := FileStore.put s.files f.name (FileStore.bytes s.files f.name ++ [v]) })) ∧
    ((s.sd.file = none ∨ (s.sd.file = some f ∧ f.mode = .read)) → written = s)

/-- R566, R571, R575: list-directory opens the listing of the backend's names but "." and "..", each followed by CR LF, or
nothing where that is empty; reading the data port once for each byte gives the listing in order and closes it with its
last byte. And the store behind it: a file put in it has the bytes given and every other name has what it had, a name is
in the store when it is one of its names, and the backend lists those names, each once, in some order. The spec's decisions
D23, D28, D33, D48, D55; log entries 6 and 7. -/
def Obligations.SdDirectoryListing : Prop :=
  (∀ (h : Byte) (s : State), s.params.sd.legal →
    let names := (Storage.list s.params.policy s.files).filter (fun n => decide (n ≠ [0x2E] ∧ n ≠ [0x2E, 0x2E]))
    let bytes := (names.map (fun n => n ++ [0x0D, 0x0A])).flatten
    s.portOut (pair h 0x10) s.params.sd.codes.listDirectory =
      { s with sd := { s.sd with file := none, dir := if bytes = [] then none else some bytes, error := false } }) ∧
  (∀ (h : Byte) (s : State) (bytes : List Byte), bytes ≠ [] → s.sd.file = none → s.sd.dir = some bytes →
    State.readPortTimes (pair h 0x12) bytes.length s = (bytes, { s with sd := { s.sd with dir := none } })) ∧
  (∀ (files : FileStore) (name other : FileName) (bs : List Byte),
    let after := FileStore.put files name bs
    FileStore.bytes after name = bs ∧ FileStore.has after name = true ∧
    (other ≠ name → FileStore.bytes after other = FileStore.bytes files other ∧
      FileStore.has after other = FileStore.has files other)) ∧
  (∀ (files : FileStore) (name : FileName), FileStore.has files name = true ↔ name ∈ FileStore.names files) ∧
  (∀ (policy : StoragePolicy) (files : FileStore), (Storage.list policy files).Perm (FileStore.names files))

/-! ## Reset (70_reset_and_hazards.md) -/

/-- R600, R601, R602, R603: the values after power-on, and what a CPU reset changes and keeps; R94, R580: what the load
fixes: the image from address 0 on, `MEM_INIT` after it, a byte that the load does not give being the free one (log entry
2), the ROM ceiling, the files and the backend's answers. The ROM ceiling, the files and the parameters that power-on
leaves are the model's choices (log entries 3 to 7) and not part of this. F', IX, IY, WZ and the requests are the spec's
decisions D1 to D3, the devices its D46 (log entries 14, 15); that `MEM_INIT` is open is its D7, the ceiling's range D40. -/
def Obligations.ResetValues : Prop :=
  let z : Bank := { a := 0, f := 0, b := 0, c := 0, d := 0, e := 0, h := 0, l := 0 }
  let cpu := fun s : State =>
    s.main = z ∧ s.shadow = z ∧ s.ix = 0 ∧ s.iy = 0 ∧ s.wz = 0 ∧ s.sp = 0 ∧ s.pc = 0 ∧ s.i = 0 ∧ s.r = 0 ∧
      s.iff1 = false ∧ s.iff2 = false ∧ s.im = .im0 ∧ s.halted = false ∧ s.iffDelay = 0 ∧ s.cyc = 0 ∧
      s.intPending = false ∧ s.intVector = 0 ∧ s.nmiPending = false
  (cpu State.reset ∧ State.reset.queue = [] ∧ State.reset.sink = [] ∧ State.reset.uses8251 = false ∧
    State.reset.c7Latch = false ∧ State.reset.aciaCtrl = 0 ∧
    State.reset.sd = { fname := [], fnameFinal := false, seekLo := 0, seekHi := 0, error := false, file := none, dir := none }) ∧
  (∀ s : State, cpu (hostReset s) ∧ (hostReset s).mem = s.mem ∧ (hostReset s).params = s.params ∧
    (hostReset s).queue = s.queue ∧ (hostReset s).sink = s.sink ∧ (hostReset s).uses8251 = s.uses8251 ∧
    (hostReset s).c7Latch = s.c7Latch ∧ (hostReset s).aciaCtrl = s.aciaCtrl ∧ (hostReset s).sd = s.sd ∧
    (hostReset s).files = s.files) ∧
  (∀ (s : State) (l : Load), let t := hostLoad s l
    t = { s with mem := t.mem, files := t.files, params := t.params } ∧
    t.params.romCeiling = l.romCeiling ∧ t.params.policy = l.policy ∧ t.params.sd = s.params.sd ∧
    (∀ name, FileStore.has t.files name = FileStore.has l.files name ∧
      FileStore.bytes t.files name = FileStore.bytes l.files name) ∧
    ∀ a : Word, t.readMem a =
      ((l.romImage ++ l.memInit)[a.toNat]?).getD (l.rest.getD (Config.memInit a.toNat)))

/-! ## Invariants -/

/-- The machine after power-on has the invariant. The parameters, the files and the bytes of memory are free values (log
entries 2, 5, 6). -/
def Obligations.ResetHasTheInvariant : Prop := State.reset.Inv

/-- From every state with the invariant a step gives one with it: memory stays in canonical form, the store a finite
map, the file name within its buffer (R56, R561), at most one of file and directory open (R560), an open listing
non-empty (R566), and an open file in the store with its position at most at its end (R567, R569) and the mode of its
opening (R565, R568). That every open closes both is the spec's decision D23, that a listing closes with its last byte D28,
that a seek stays within the file's length D30, the buffer's capacity and its latch D26 and D31; the file store and its
handles are the model's form of the backend (log entry 6). -/
def Obligations.StepKeepsTheInvariant : Prop :=
  ∀ s t : State, s.Inv → step s = .next t → t.Inv

/-- R92, R93, R57: no step changes a byte below the ROM ceiling, nor the ceiling or any other parameter. -/
def Obligations.RomNeverChanges : Prop :=
  ∀ s t : State, step s = .next t →
    t.params = s.params ∧ ∀ a : Word, a.toNat < s.params.romCeiling.val → t.readMem a = s.readMem a

/-- R48, R620: cyc never decreases across a step, and grows by at least 4 (that it has no bound is the model's choice after
the spec's decision D34: log entry 16). R42, R147: an instruction other than LD R,A adds the number of its opcode fetches to
bits 6..0 of R modulo 128 and keeps bit 7 (the spec's decision D15); what a halted cycle and an acceptance add is in
`HaltedStep`, `NmiAcceptance` and `MaskableAcceptance`. -/
def Obligations.CountersGrow : Prop :=
  (∀ s t : State, step s = .next t → s.cyc + 4 ≤ t.cyc) ∧
  (∀ (r : Byte) (n : Nat), (bumpR r n).getLsbD 7 = r.getLsbD 7 ∧ (bumpR r n).toNat % 128 = (r.toNat + n) % 128) ∧
  (∀ (b0 b1 b2 b3 : Byte) (s : State), (∀ n1 n2, formOf b0 b1 b2 b3 ≠ .ed 0x4F n1 n2) →
    ∃ t, exec (instrOf [b0, b1, b2, b3]) s = .next t ∧ t.r = bumpR s.r (opcodeFetches b0 b1))
end

