-- ==== Sys2Proof/Laws/State.lean ====
section
/-! SUPPORT. One lemma per field of `State` and per update, so that no proof unfolds a record update. -/

namespace Sys2Proof.Machine

variable (s : State)

/-! `setPc` -/
@[simp] theorem State.setPc_main (v : Word) : (s.setPc v).main = s.main := rfl
@[simp] theorem State.setPc_shadow (v : Word) : (s.setPc v).shadow = s.shadow := rfl
@[simp] theorem State.setPc_ix (v : Word) : (s.setPc v).ix = s.ix := rfl
@[simp] theorem State.setPc_iy (v : Word) : (s.setPc v).iy = s.iy := rfl
@[simp] theorem State.setPc_sp (v : Word) : (s.setPc v).sp = s.sp := rfl
@[simp] theorem State.setPc_pc (v : Word) : (s.setPc v).pc = v := rfl
@[simp] theorem State.setPc_wz (v : Word) : (s.setPc v).wz = s.wz := rfl
@[simp] theorem State.setPc_i (v : Word) : (s.setPc v).i = s.i := rfl
@[simp] theorem State.setPc_r (v : Word) : (s.setPc v).r = s.r := rfl
@[simp] theorem State.setPc_iff1 (v : Word) : (s.setPc v).iff1 = s.iff1 := rfl
@[simp] theorem State.setPc_iff2 (v : Word) : (s.setPc v).iff2 = s.iff2 := rfl
@[simp] theorem State.setPc_im (v : Word) : (s.setPc v).im = s.im := rfl
@[simp] theorem State.setPc_halted (v : Word) : (s.setPc v).halted = s.halted := rfl
@[simp] theorem State.setPc_iffDelay (v : Word) : (s.setPc v).iffDelay = s.iffDelay := rfl
@[simp] theorem State.setPc_cyc (v : Word) : (s.setPc v).cyc = s.cyc := rfl
@[simp] theorem State.setPc_intPending (v : Word) : (s.setPc v).intPending = s.intPending := rfl
@[simp] theorem State.setPc_intVector (v : Word) : (s.setPc v).intVector = s.intVector := rfl
@[simp] theorem State.setPc_nmiPending (v : Word) : (s.setPc v).nmiPending = s.nmiPending := rfl
@[simp] theorem State.setPc_mem (v : Word) : (s.setPc v).mem = s.mem := rfl
@[simp] theorem State.setPc_queue (v : Word) : (s.setPc v).queue = s.queue := rfl
@[simp] theorem State.setPc_sink (v : Word) : (s.setPc v).sink = s.sink := rfl
@[simp] theorem State.setPc_uses8251 (v : Word) : (s.setPc v).uses8251 = s.uses8251 := rfl
@[simp] theorem State.setPc_c7Latch (v : Word) : (s.setPc v).c7Latch = s.c7Latch := rfl
@[simp] theorem State.setPc_aciaCtrl (v : Word) : (s.setPc v).aciaCtrl = s.aciaCtrl := rfl
@[simp] theorem State.setPc_sd (v : Word) : (s.setPc v).sd = s.sd := rfl
@[simp] theorem State.setPc_files (v : Word) : (s.setPc v).files = s.files := rfl
@[simp] theorem State.setPc_params (v : Word) : (s.setPc v).params = s.params := rfl

/-! `setSp` -/
@[simp] theorem State.setSp_main (v : Word) : (s.setSp v).main = s.main := rfl
@[simp] theorem State.setSp_shadow (v : Word) : (s.setSp v).shadow = s.shadow := rfl
@[simp] theorem State.setSp_ix (v : Word) : (s.setSp v).ix = s.ix := rfl
@[simp] theorem State.setSp_iy (v : Word) : (s.setSp v).iy = s.iy := rfl
@[simp] theorem State.setSp_sp (v : Word) : (s.setSp v).sp = v := rfl
@[simp] theorem State.setSp_pc (v : Word) : (s.setSp v).pc = s.pc := rfl
@[simp] theorem State.setSp_wz (v : Word) : (s.setSp v).wz = s.wz := rfl
@[simp] theorem State.setSp_i (v : Word) : (s.setSp v).i = s.i := rfl
@[simp] theorem State.setSp_r (v : Word) : (s.setSp v).r = s.r := rfl
@[simp] theorem State.setSp_iff1 (v : Word) : (s.setSp v).iff1 = s.iff1 := rfl
@[simp] theorem State.setSp_iff2 (v : Word) : (s.setSp v).iff2 = s.iff2 := rfl
@[simp] theorem State.setSp_im (v : Word) : (s.setSp v).im = s.im := rfl
@[simp] theorem State.setSp_halted (v : Word) : (s.setSp v).halted = s.halted := rfl
@[simp] theorem State.setSp_iffDelay (v : Word) : (s.setSp v).iffDelay = s.iffDelay := rfl
@[simp] theorem State.setSp_cyc (v : Word) : (s.setSp v).cyc = s.cyc := rfl
@[simp] theorem State.setSp_intPending (v : Word) : (s.setSp v).intPending = s.intPending := rfl
@[simp] theorem State.setSp_intVector (v : Word) : (s.setSp v).intVector = s.intVector := rfl
@[simp] theorem State.setSp_nmiPending (v : Word) : (s.setSp v).nmiPending = s.nmiPending := rfl
@[simp] theorem State.setSp_mem (v : Word) : (s.setSp v).mem = s.mem := rfl
@[simp] theorem State.setSp_queue (v : Word) : (s.setSp v).queue = s.queue := rfl
@[simp] theorem State.setSp_sink (v : Word) : (s.setSp v).sink = s.sink := rfl
@[simp] theorem State.setSp_uses8251 (v : Word) : (s.setSp v).uses8251 = s.uses8251 := rfl
@[simp] theorem State.setSp_c7Latch (v : Word) : (s.setSp v).c7Latch = s.c7Latch := rfl
@[simp] theorem State.setSp_aciaCtrl (v : Word) : (s.setSp v).aciaCtrl = s.aciaCtrl := rfl
@[simp] theorem State.setSp_sd (v : Word) : (s.setSp v).sd = s.sd := rfl
@[simp] theorem State.setSp_files (v : Word) : (s.setSp v).files = s.files := rfl
@[simp] theorem State.setSp_params (v : Word) : (s.setSp v).params = s.params := rfl

/-! `setWz` -/
@[simp] theorem State.setWz_main (v : Word) : (s.setWz v).main = s.main := rfl
@[simp] theorem State.setWz_shadow (v : Word) : (s.setWz v).shadow = s.shadow := rfl
@[simp] theorem State.setWz_ix (v : Word) : (s.setWz v).ix = s.ix := rfl
@[simp] theorem State.setWz_iy (v : Word) : (s.setWz v).iy = s.iy := rfl
@[simp] theorem State.setWz_sp (v : Word) : (s.setWz v).sp = s.sp := rfl
@[simp] theorem State.setWz_pc (v : Word) : (s.setWz v).pc = s.pc := rfl
@[simp] theorem State.setWz_wz (v : Word) : (s.setWz v).wz = v := rfl
@[simp] theorem State.setWz_i (v : Word) : (s.setWz v).i = s.i := rfl
@[simp] theorem State.setWz_r (v : Word) : (s.setWz v).r = s.r := rfl
@[simp] theorem State.setWz_iff1 (v : Word) : (s.setWz v).iff1 = s.iff1 := rfl
@[simp] theorem State.setWz_iff2 (v : Word) : (s.setWz v).iff2 = s.iff2 := rfl
@[simp] theorem State.setWz_im (v : Word) : (s.setWz v).im = s.im := rfl
@[simp] theorem State.setWz_halted (v : Word) : (s.setWz v).halted = s.halted := rfl
@[simp] theorem State.setWz_iffDelay (v : Word) : (s.setWz v).iffDelay = s.iffDelay := rfl
@[simp] theorem State.setWz_cyc (v : Word) : (s.setWz v).cyc = s.cyc := rfl
@[simp] theorem State.setWz_intPending (v : Word) : (s.setWz v).intPending = s.intPending := rfl
@[simp] theorem State.setWz_intVector (v : Word) : (s.setWz v).intVector = s.intVector := rfl
@[simp] theorem State.setWz_nmiPending (v : Word) : (s.setWz v).nmiPending = s.nmiPending := rfl
@[simp] theorem State.setWz_mem (v : Word) : (s.setWz v).mem = s.mem := rfl
@[simp] theorem State.setWz_queue (v : Word) : (s.setWz v).queue = s.queue := rfl
@[simp] theorem State.setWz_sink (v : Word) : (s.setWz v).sink = s.sink := rfl
@[simp] theorem State.setWz_uses8251 (v : Word) : (s.setWz v).uses8251 = s.uses8251 := rfl
@[simp] theorem State.setWz_c7Latch (v : Word) : (s.setWz v).c7Latch = s.c7Latch := rfl
@[simp] theorem State.setWz_aciaCtrl (v : Word) : (s.setWz v).aciaCtrl = s.aciaCtrl := rfl
@[simp] theorem State.setWz_sd (v : Word) : (s.setWz v).sd = s.sd := rfl
@[simp] theorem State.setWz_files (v : Word) : (s.setWz v).files = s.files := rfl
@[simp] theorem State.setWz_params (v : Word) : (s.setWz v).params = s.params := rfl

/-! `addCyc` -/
@[simp] theorem State.addCyc_main (t : Nat) : (s.addCyc t).main = s.main := rfl
@[simp] theorem State.addCyc_shadow (t : Nat) : (s.addCyc t).shadow = s.shadow := rfl
@[simp] theorem State.addCyc_ix (t : Nat) : (s.addCyc t).ix = s.ix := rfl
@[simp] theorem State.addCyc_iy (t : Nat) : (s.addCyc t).iy = s.iy := rfl
@[simp] theorem State.addCyc_sp (t : Nat) : (s.addCyc t).sp = s.sp := rfl
@[simp] theorem State.addCyc_pc (t : Nat) : (s.addCyc t).pc = s.pc := rfl
@[simp] theorem State.addCyc_wz (t : Nat) : (s.addCyc t).wz = s.wz := rfl
@[simp] theorem State.addCyc_i (t : Nat) : (s.addCyc t).i = s.i := rfl
@[simp] theorem State.addCyc_r (t : Nat) : (s.addCyc t).r = s.r := rfl
@[simp] theorem State.addCyc_iff1 (t : Nat) : (s.addCyc t).iff1 = s.iff1 := rfl
@[simp] theorem State.addCyc_iff2 (t : Nat) : (s.addCyc t).iff2 = s.iff2 := rfl
@[simp] theorem State.addCyc_im (t : Nat) : (s.addCyc t).im = s.im := rfl
@[simp] theorem State.addCyc_halted (t : Nat) : (s.addCyc t).halted = s.halted := rfl
@[simp] theorem State.addCyc_iffDelay (t : Nat) : (s.addCyc t).iffDelay = s.iffDelay := rfl
@[simp] theorem State.addCyc_cyc (t : Nat) : (s.addCyc t).cyc = s.cyc + t := rfl
@[simp] theorem State.addCyc_intPending (t : Nat) : (s.addCyc t).intPending = s.intPending := rfl
@[simp] theorem State.addCyc_intVector (t : Nat) : (s.addCyc t).intVector = s.intVector := rfl
@[simp] theorem State.addCyc_nmiPending (t : Nat) : (s.addCyc t).nmiPending = s.nmiPending := rfl
@[simp] theorem State.addCyc_mem (t : Nat) : (s.addCyc t).mem = s.mem := rfl
@[simp] theorem State.addCyc_queue (t : Nat) : (s.addCyc t).queue = s.queue := rfl
@[simp] theorem State.addCyc_sink (t : Nat) : (s.addCyc t).sink = s.sink := rfl
@[simp] theorem State.addCyc_uses8251 (t : Nat) : (s.addCyc t).uses8251 = s.uses8251 := rfl
@[simp] theorem State.addCyc_c7Latch (t : Nat) : (s.addCyc t).c7Latch = s.c7Latch := rfl
@[simp] theorem State.addCyc_aciaCtrl (t : Nat) : (s.addCyc t).aciaCtrl = s.aciaCtrl := rfl
@[simp] theorem State.addCyc_sd (t : Nat) : (s.addCyc t).sd = s.sd := rfl
@[simp] theorem State.addCyc_files (t : Nat) : (s.addCyc t).files = s.files := rfl
@[simp] theorem State.addCyc_params (t : Nat) : (s.addCyc t).params = s.params := rfl

/-! `setIff` -/
@[simp] theorem State.setIff_main (v1 v2 : Bool) : (s.setIff v1 v2).main = s.main := rfl
@[simp] theorem State.setIff_shadow (v1 v2 : Bool) : (s.setIff v1 v2).shadow = s.shadow := rfl
@[simp] theorem State.setIff_ix (v1 v2 : Bool) : (s.setIff v1 v2).ix = s.ix := rfl
@[simp] theorem State.setIff_iy (v1 v2 : Bool) : (s.setIff v1 v2).iy = s.iy := rfl
@[simp] theorem State.setIff_sp (v1 v2 : Bool) : (s.setIff v1 v2).sp = s.sp := rfl
@[simp] theorem State.setIff_pc (v1 v2 : Bool) : (s.setIff v1 v2).pc = s.pc := rfl
@[simp] theorem State.setIff_wz (v1 v2 : Bool) : (s.setIff v1 v2).wz = s.wz := rfl
@[simp] theorem State.setIff_i (v1 v2 : Bool) : (s.setIff v1 v2).i = s.i := rfl
@[simp] theorem State.setIff_r (v1 v2 : Bool) : (s.setIff v1 v2).r = s.r := rfl
@[simp] theorem State.setIff_iff1 (v1 v2 : Bool) : (s.setIff v1 v2).iff1 = v1 := rfl
@[simp] theorem State.setIff_iff2 (v1 v2 : Bool) : (s.setIff v1 v2).iff2 = v2 := rfl
@[simp] theorem State.setIff_im (v1 v2 : Bool) : (s.setIff v1 v2).im = s.im := rfl
@[simp] theorem State.setIff_halted (v1 v2 : Bool) : (s.setIff v1 v2).halted = s.halted := rfl
@[simp] theorem State.setIff_iffDelay (v1 v2 : Bool) : (s.setIff v1 v2).iffDelay = s.iffDelay := rfl
@[simp] theorem State.setIff_cyc (v1 v2 : Bool) : (s.setIff v1 v2).cyc = s.cyc := rfl
@[simp] theorem State.setIff_intPending (v1 v2 : Bool) : (s.setIff v1 v2).intPending = s.intPending := rfl
@[simp] theorem State.setIff_intVector (v1 v2 : Bool) : (s.setIff v1 v2).intVector = s.intVector := rfl
@[simp] theorem State.setIff_nmiPending (v1 v2 : Bool) : (s.setIff v1 v2).nmiPending = s.nmiPending := rfl
@[simp] theorem State.setIff_mem (v1 v2 : Bool) : (s.setIff v1 v2).mem = s.mem := rfl
@[simp] theorem State.setIff_queue (v1 v2 : Bool) : (s.setIff v1 v2).queue = s.queue := rfl
@[simp] theorem State.setIff_sink (v1 v2 : Bool) : (s.setIff v1 v2).sink = s.sink := rfl
@[simp] theorem State.setIff_uses8251 (v1 v2 : Bool) : (s.setIff v1 v2).uses8251 = s.uses8251 := rfl
@[simp] theorem State.setIff_c7Latch (v1 v2 : Bool) : (s.setIff v1 v2).c7Latch = s.c7Latch := rfl
@[simp] theorem State.setIff_aciaCtrl (v1 v2 : Bool) : (s.setIff v1 v2).aciaCtrl = s.aciaCtrl := rfl
@[simp] theorem State.setIff_sd (v1 v2 : Bool) : (s.setIff v1 v2).sd = s.sd := rfl
@[simp] theorem State.setIff_files (v1 v2 : Bool) : (s.setIff v1 v2).files = s.files := rfl
@[simp] theorem State.setIff_params (v1 v2 : Bool) : (s.setIff v1 v2).params = s.params := rfl

/-! `fetched` -/
@[simp] theorem State.fetched_main (len m1 t : Nat) : (s.fetched len m1 t).main = s.main := rfl
@[simp] theorem State.fetched_shadow (len m1 t : Nat) : (s.fetched len m1 t).shadow = s.shadow := rfl
@[simp] theorem State.fetched_ix (len m1 t : Nat) : (s.fetched len m1 t).ix = s.ix := rfl
@[simp] theorem State.fetched_iy (len m1 t : Nat) : (s.fetched len m1 t).iy = s.iy := rfl
@[simp] theorem State.fetched_sp (len m1 t : Nat) : (s.fetched len m1 t).sp = s.sp := rfl
@[simp] theorem State.fetched_pc (len m1 t : Nat) : (s.fetched len m1 t).pc = s.pc + BitVec.ofNat 16 len := rfl
@[simp] theorem State.fetched_wz (len m1 t : Nat) : (s.fetched len m1 t).wz = s.wz := rfl
@[simp] theorem State.fetched_i (len m1 t : Nat) : (s.fetched len m1 t).i = s.i := rfl
@[simp] theorem State.fetched_r (len m1 t : Nat) : (s.fetched len m1 t).r = bumpR s.r m1 := rfl
@[simp] theorem State.fetched_iff1 (len m1 t : Nat) : (s.fetched len m1 t).iff1 = s.iff1 := rfl
@[simp] theorem State.fetched_iff2 (len m1 t : Nat) : (s.fetched len m1 t).iff2 = s.iff2 := rfl
@[simp] theorem State.fetched_im (len m1 t : Nat) : (s.fetched len m1 t).im = s.im := rfl
@[simp] theorem State.fetched_halted (len m1 t : Nat) : (s.fetched len m1 t).halted = s.halted := rfl
@[simp] theorem State.fetched_iffDelay (len m1 t : Nat) : (s.fetched len m1 t).iffDelay = s.iffDelay := rfl
@[simp] theorem State.fetched_cyc (len m1 t : Nat) : (s.fetched len m1 t).cyc = s.cyc + t := rfl
@[simp] theorem State.fetched_intPending (len m1 t : Nat) : (s.fetched len m1 t).intPending = s.intPending := rfl
@[simp] theorem State.fetched_intVector (len m1 t : Nat) : (s.fetched len m1 t).intVector = s.intVector := rfl
@[simp] theorem State.fetched_nmiPending (len m1 t : Nat) : (s.fetched len m1 t).nmiPending = s.nmiPending := rfl
@[simp] theorem State.fetched_mem (len m1 t : Nat) : (s.fetched len m1 t).mem = s.mem := rfl
@[simp] theorem State.fetched_queue (len m1 t : Nat) : (s.fetched len m1 t).queue = s.queue := rfl
@[simp] theorem State.fetched_sink (len m1 t : Nat) : (s.fetched len m1 t).sink = s.sink := rfl
@[simp] theorem State.fetched_uses8251 (len m1 t : Nat) : (s.fetched len m1 t).uses8251 = s.uses8251 := rfl
@[simp] theorem State.fetched_c7Latch (len m1 t : Nat) : (s.fetched len m1 t).c7Latch = s.c7Latch := rfl
@[simp] theorem State.fetched_aciaCtrl (len m1 t : Nat) : (s.fetched len m1 t).aciaCtrl = s.aciaCtrl := rfl
@[simp] theorem State.fetched_sd (len m1 t : Nat) : (s.fetched len m1 t).sd = s.sd := rfl
@[simp] theorem State.fetched_files (len m1 t : Nat) : (s.fetched len m1 t).files = s.files := rfl
@[simp] theorem State.fetched_params (len m1 t : Nat) : (s.fetched len m1 t).params = s.params := rfl

/-! `skipPrefix` -/
@[simp] theorem State.skipPrefix_main : (s.skipPrefix).main = s.main := rfl
@[simp] theorem State.skipPrefix_shadow : (s.skipPrefix).shadow = s.shadow := rfl
@[simp] theorem State.skipPrefix_ix : (s.skipPrefix).ix = s.ix := rfl
@[simp] theorem State.skipPrefix_iy : (s.skipPrefix).iy = s.iy := rfl
@[simp] theorem State.skipPrefix_sp : (s.skipPrefix).sp = s.sp := rfl
@[simp] theorem State.skipPrefix_pc : (s.skipPrefix).pc = s.pc + 1 := rfl
@[simp] theorem State.skipPrefix_wz : (s.skipPrefix).wz = s.wz := rfl
@[simp] theorem State.skipPrefix_i : (s.skipPrefix).i = s.i := rfl
@[simp] theorem State.skipPrefix_r : (s.skipPrefix).r = bumpR s.r 1 := rfl
@[simp] theorem State.skipPrefix_iff1 : (s.skipPrefix).iff1 = s.iff1 := rfl
@[simp] theorem State.skipPrefix_iff2 : (s.skipPrefix).iff2 = s.iff2 := rfl
@[simp] theorem State.skipPrefix_im : (s.skipPrefix).im = s.im := rfl
@[simp] theorem State.skipPrefix_halted : (s.skipPrefix).halted = s.halted := rfl
@[simp] theorem State.skipPrefix_iffDelay : (s.skipPrefix).iffDelay = s.iffDelay := rfl
@[simp] theorem State.skipPrefix_cyc : (s.skipPrefix).cyc = s.cyc + 4 := rfl
@[simp] theorem State.skipPrefix_intPending : (s.skipPrefix).intPending = s.intPending := rfl
@[simp] theorem State.skipPrefix_intVector : (s.skipPrefix).intVector = s.intVector := rfl
@[simp] theorem State.skipPrefix_nmiPending : (s.skipPrefix).nmiPending = s.nmiPending := rfl
@[simp] theorem State.skipPrefix_mem : (s.skipPrefix).mem = s.mem := rfl
@[simp] theorem State.skipPrefix_queue : (s.skipPrefix).queue = s.queue := rfl
@[simp] theorem State.skipPrefix_sink : (s.skipPrefix).sink = s.sink := rfl
@[simp] theorem State.skipPrefix_uses8251 : (s.skipPrefix).uses8251 = s.uses8251 := rfl
@[simp] theorem State.skipPrefix_c7Latch : (s.skipPrefix).c7Latch = s.c7Latch := rfl
@[simp] theorem State.skipPrefix_aciaCtrl : (s.skipPrefix).aciaCtrl = s.aciaCtrl := rfl
@[simp] theorem State.skipPrefix_sd : (s.skipPrefix).sd = s.sd := rfl
@[simp] theorem State.skipPrefix_files : (s.skipPrefix).files = s.files := rfl
@[simp] theorem State.skipPrefix_params : (s.skipPrefix).params = s.params := rfl

/-! `wake` -/
@[simp] theorem State.wake_main : (s.wake).main = s.main := rfl
@[simp] theorem State.wake_shadow : (s.wake).shadow = s.shadow := rfl
@[simp] theorem State.wake_ix : (s.wake).ix = s.ix := rfl
@[simp] theorem State.wake_iy : (s.wake).iy = s.iy := rfl
@[simp] theorem State.wake_sp : (s.wake).sp = s.sp := rfl
@[simp] theorem State.wake_pc : (s.wake).pc = s.pc := rfl
@[simp] theorem State.wake_wz : (s.wake).wz = s.wz := rfl
@[simp] theorem State.wake_i : (s.wake).i = s.i := rfl
@[simp] theorem State.wake_r : (s.wake).r = bumpR s.r 1 := rfl
@[simp] theorem State.wake_iff1 : (s.wake).iff1 = s.iff1 := rfl
@[simp] theorem State.wake_iff2 : (s.wake).iff2 = s.iff2 := rfl
@[simp] theorem State.wake_im : (s.wake).im = s.im := rfl
@[simp] theorem State.wake_halted : (s.wake).halted = false := rfl
@[simp] theorem State.wake_iffDelay : (s.wake).iffDelay = s.iffDelay := rfl
@[simp] theorem State.wake_cyc : (s.wake).cyc = s.cyc := rfl
@[simp] theorem State.wake_intPending : (s.wake).intPending = s.intPending := rfl
@[simp] theorem State.wake_intVector : (s.wake).intVector = s.intVector := rfl
@[simp] theorem State.wake_nmiPending : (s.wake).nmiPending = s.nmiPending := rfl
@[simp] theorem State.wake_mem : (s.wake).mem = s.mem := rfl
@[simp] theorem State.wake_queue : (s.wake).queue = s.queue := rfl
@[simp] theorem State.wake_sink : (s.wake).sink = s.sink := rfl
@[simp] theorem State.wake_uses8251 : (s.wake).uses8251 = s.uses8251 := rfl
@[simp] theorem State.wake_c7Latch : (s.wake).c7Latch = s.c7Latch := rfl
@[simp] theorem State.wake_aciaCtrl : (s.wake).aciaCtrl = s.aciaCtrl := rfl
@[simp] theorem State.wake_sd : (s.wake).sd = s.sd := rfl
@[simp] theorem State.wake_files : (s.wake).files = s.files := rfl
@[simp] theorem State.wake_params : (s.wake).params = s.params := rfl

/-! `loadByte` -/
@[simp] theorem State.loadByte_main (a : Word) (v : Byte) : (s.loadByte a v).main = s.main := rfl
@[simp] theorem State.loadByte_shadow (a : Word) (v : Byte) : (s.loadByte a v).shadow = s.shadow := rfl
@[simp] theorem State.loadByte_ix (a : Word) (v : Byte) : (s.loadByte a v).ix = s.ix := rfl
@[simp] theorem State.loadByte_iy (a : Word) (v : Byte) : (s.loadByte a v).iy = s.iy := rfl
@[simp] theorem State.loadByte_sp (a : Word) (v : Byte) : (s.loadByte a v).sp = s.sp := rfl
@[simp] theorem State.loadByte_pc (a : Word) (v : Byte) : (s.loadByte a v).pc = s.pc := rfl
@[simp] theorem State.loadByte_wz (a : Word) (v : Byte) : (s.loadByte a v).wz = s.wz := rfl
@[simp] theorem State.loadByte_i (a : Word) (v : Byte) : (s.loadByte a v).i = s.i := rfl
@[simp] theorem State.loadByte_r (a : Word) (v : Byte) : (s.loadByte a v).r = s.r := rfl
@[simp] theorem State.loadByte_iff1 (a : Word) (v : Byte) : (s.loadByte a v).iff1 = s.iff1 := rfl
@[simp] theorem State.loadByte_iff2 (a : Word) (v : Byte) : (s.loadByte a v).iff2 = s.iff2 := rfl
@[simp] theorem State.loadByte_im (a : Word) (v : Byte) : (s.loadByte a v).im = s.im := rfl
@[simp] theorem State.loadByte_halted (a : Word) (v : Byte) : (s.loadByte a v).halted = s.halted := rfl
@[simp] theorem State.loadByte_iffDelay (a : Word) (v : Byte) : (s.loadByte a v).iffDelay = s.iffDelay := rfl
@[simp] theorem State.loadByte_cyc (a : Word) (v : Byte) : (s.loadByte a v).cyc = s.cyc := rfl
@[simp] theorem State.loadByte_intPending (a : Word) (v : Byte) : (s.loadByte a v).intPending = s.intPending := rfl
@[simp] theorem State.loadByte_intVector (a : Word) (v : Byte) : (s.loadByte a v).intVector = s.intVector := rfl
@[simp] theorem State.loadByte_nmiPending (a : Word) (v : Byte) : (s.loadByte a v).nmiPending = s.nmiPending := rfl
@[simp] theorem State.loadByte_mem (a : Word) (v : Byte) : (s.loadByte a v).mem = Memory.remove s.mem a.toNat := rfl
@[simp] theorem State.loadByte_queue (a : Word) (v : Byte) : (s.loadByte a v).queue = s.queue := rfl
@[simp] theorem State.loadByte_sink (a : Word) (v : Byte) : (s.loadByte a v).sink = s.sink := rfl
@[simp] theorem State.loadByte_uses8251 (a : Word) (v : Byte) : (s.loadByte a v).uses8251 = s.uses8251 := rfl
@[simp] theorem State.loadByte_c7Latch (a : Word) (v : Byte) : (s.loadByte a v).c7Latch = s.c7Latch := rfl
@[simp] theorem State.loadByte_aciaCtrl (a : Word) (v : Byte) : (s.loadByte a v).aciaCtrl = s.aciaCtrl := rfl
@[simp] theorem State.loadByte_sd (a : Word) (v : Byte) : (s.loadByte a v).sd = s.sd := rfl
@[simp] theorem State.loadByte_files (a : Word) (v : Byte) : (s.loadByte a v).files = s.files := rfl
@[simp] theorem State.loadByte_params (a : Word) (v : Byte) : (s.loadByte a v).params = { s.params with initial := Memory.place s.params.initial a.toNat v } := rfl

/-! `setSd` -/
@[simp] theorem State.setSd_main (d : Sd) : (s.setSd d).main = s.main := rfl
@[simp] theorem State.setSd_shadow (d : Sd) : (s.setSd d).shadow = s.shadow := rfl
@[simp] theorem State.setSd_ix (d : Sd) : (s.setSd d).ix = s.ix := rfl
@[simp] theorem State.setSd_iy (d : Sd) : (s.setSd d).iy = s.iy := rfl
@[simp] theorem State.setSd_sp (d : Sd) : (s.setSd d).sp = s.sp := rfl
@[simp] theorem State.setSd_pc (d : Sd) : (s.setSd d).pc = s.pc := rfl
@[simp] theorem State.setSd_wz (d : Sd) : (s.setSd d).wz = s.wz := rfl
@[simp] theorem State.setSd_i (d : Sd) : (s.setSd d).i = s.i := rfl
@[simp] theorem State.setSd_r (d : Sd) : (s.setSd d).r = s.r := rfl
@[simp] theorem State.setSd_iff1 (d : Sd) : (s.setSd d).iff1 = s.iff1 := rfl
@[simp] theorem State.setSd_iff2 (d : Sd) : (s.setSd d).iff2 = s.iff2 := rfl
@[simp] theorem State.setSd_im (d : Sd) : (s.setSd d).im = s.im := rfl
@[simp] theorem State.setSd_halted (d : Sd) : (s.setSd d).halted = s.halted := rfl
@[simp] theorem State.setSd_iffDelay (d : Sd) : (s.setSd d).iffDelay = s.iffDelay := rfl
@[simp] theorem State.setSd_cyc (d : Sd) : (s.setSd d).cyc = s.cyc := rfl
@[simp] theorem State.setSd_intPending (d : Sd) : (s.setSd d).intPending = s.intPending := rfl
@[simp] theorem State.setSd_intVector (d : Sd) : (s.setSd d).intVector = s.intVector := rfl
@[simp] theorem State.setSd_nmiPending (d : Sd) : (s.setSd d).nmiPending = s.nmiPending := rfl
@[simp] theorem State.setSd_mem (d : Sd) : (s.setSd d).mem = s.mem := rfl
@[simp] theorem State.setSd_queue (d : Sd) : (s.setSd d).queue = s.queue := rfl
@[simp] theorem State.setSd_sink (d : Sd) : (s.setSd d).sink = s.sink := rfl
@[simp] theorem State.setSd_uses8251 (d : Sd) : (s.setSd d).uses8251 = s.uses8251 := rfl
@[simp] theorem State.setSd_c7Latch (d : Sd) : (s.setSd d).c7Latch = s.c7Latch := rfl
@[simp] theorem State.setSd_aciaCtrl (d : Sd) : (s.setSd d).aciaCtrl = s.aciaCtrl := rfl
@[simp] theorem State.setSd_sd (d : Sd) : (s.setSd d).sd = d := rfl
@[simp] theorem State.setSd_files (d : Sd) : (s.setSd d).files = s.files := rfl
@[simp] theorem State.setSd_params (d : Sd) : (s.setSd d).params = s.params := rfl

/-! `emit` -/
@[simp] theorem State.emit_main (v : Byte) : (s.emit v).main = s.main := rfl
@[simp] theorem State.emit_shadow (v : Byte) : (s.emit v).shadow = s.shadow := rfl
@[simp] theorem State.emit_ix (v : Byte) : (s.emit v).ix = s.ix := rfl
@[simp] theorem State.emit_iy (v : Byte) : (s.emit v).iy = s.iy := rfl
@[simp] theorem State.emit_sp (v : Byte) : (s.emit v).sp = s.sp := rfl
@[simp] theorem State.emit_pc (v : Byte) : (s.emit v).pc = s.pc := rfl
@[simp] theorem State.emit_wz (v : Byte) : (s.emit v).wz = s.wz := rfl
@[simp] theorem State.emit_i (v : Byte) : (s.emit v).i = s.i := rfl
@[simp] theorem State.emit_r (v : Byte) : (s.emit v).r = s.r := rfl
@[simp] theorem State.emit_iff1 (v : Byte) : (s.emit v).iff1 = s.iff1 := rfl
@[simp] theorem State.emit_iff2 (v : Byte) : (s.emit v).iff2 = s.iff2 := rfl
@[simp] theorem State.emit_im (v : Byte) : (s.emit v).im = s.im := rfl
@[simp] theorem State.emit_halted (v : Byte) : (s.emit v).halted = s.halted := rfl
@[simp] theorem State.emit_iffDelay (v : Byte) : (s.emit v).iffDelay = s.iffDelay := rfl
@[simp] theorem State.emit_cyc (v : Byte) : (s.emit v).cyc = s.cyc := rfl
@[simp] theorem State.emit_intPending (v : Byte) : (s.emit v).intPending = s.intPending := rfl
@[simp] theorem State.emit_intVector (v : Byte) : (s.emit v).intVector = s.intVector := rfl
@[simp] theorem State.emit_nmiPending (v : Byte) : (s.emit v).nmiPending = s.nmiPending := rfl
@[simp] theorem State.emit_mem (v : Byte) : (s.emit v).mem = s.mem := rfl
@[simp] theorem State.emit_queue (v : Byte) : (s.emit v).queue = s.queue := rfl
@[simp] theorem State.emit_sink (v : Byte) : (s.emit v).sink = s.sink ++ [v] := rfl
@[simp] theorem State.emit_uses8251 (v : Byte) : (s.emit v).uses8251 = s.uses8251 := rfl
@[simp] theorem State.emit_c7Latch (v : Byte) : (s.emit v).c7Latch = s.c7Latch := rfl
@[simp] theorem State.emit_aciaCtrl (v : Byte) : (s.emit v).aciaCtrl = s.aciaCtrl := rfl
@[simp] theorem State.emit_sd (v : Byte) : (s.emit v).sd = s.sd := rfl
@[simp] theorem State.emit_files (v : Byte) : (s.emit v).files = s.files := rfl
@[simp] theorem State.emit_params (v : Byte) : (s.emit v).params = s.params := rfl

/-! `touchUsart` -/
@[simp] theorem State.touchUsart_main : (s.touchUsart).main = s.main := rfl
@[simp] theorem State.touchUsart_shadow : (s.touchUsart).shadow = s.shadow := rfl
@[simp] theorem State.touchUsart_ix : (s.touchUsart).ix = s.ix := rfl
@[simp] theorem State.touchUsart_iy : (s.touchUsart).iy = s.iy := rfl
@[simp] theorem State.touchUsart_sp : (s.touchUsart).sp = s.sp := rfl
@[simp] theorem State.touchUsart_pc : (s.touchUsart).pc = s.pc := rfl
@[simp] theorem State.touchUsart_wz : (s.touchUsart).wz = s.wz := rfl
@[simp] theorem State.touchUsart_i : (s.touchUsart).i = s.i := rfl
@[simp] theorem State.touchUsart_r : (s.touchUsart).r = s.r := rfl
@[simp] theorem State.touchUsart_iff1 : (s.touchUsart).iff1 = s.iff1 := rfl
@[simp] theorem State.touchUsart_iff2 : (s.touchUsart).iff2 = s.iff2 := rfl
@[simp] theorem State.touchUsart_im : (s.touchUsart).im = s.im := rfl
@[simp] theorem State.touchUsart_halted : (s.touchUsart).halted = s.halted := rfl
@[simp] theorem State.touchUsart_iffDelay : (s.touchUsart).iffDelay = s.iffDelay := rfl
@[simp] theorem State.touchUsart_cyc : (s.touchUsart).cyc = s.cyc := rfl
@[simp] theorem State.touchUsart_intPending : (s.touchUsart).intPending = s.intPending := rfl
@[simp] theorem State.touchUsart_intVector : (s.touchUsart).intVector = s.intVector := rfl
@[simp] theorem State.touchUsart_nmiPending : (s.touchUsart).nmiPending = s.nmiPending := rfl
@[simp] theorem State.touchUsart_mem : (s.touchUsart).mem = s.mem := rfl
@[simp] theorem State.touchUsart_queue : (s.touchUsart).queue = s.queue := rfl
@[simp] theorem State.touchUsart_sink : (s.touchUsart).sink = s.sink := rfl
@[simp] theorem State.touchUsart_uses8251 : (s.touchUsart).uses8251 = true := rfl
@[simp] theorem State.touchUsart_c7Latch : (s.touchUsart).c7Latch = s.c7Latch := rfl
@[simp] theorem State.touchUsart_aciaCtrl : (s.touchUsart).aciaCtrl = s.aciaCtrl := rfl
@[simp] theorem State.touchUsart_sd : (s.touchUsart).sd = s.sd := rfl
@[simp] theorem State.touchUsart_files : (s.touchUsart).files = s.files := rfl
@[simp] theorem State.touchUsart_params : (s.touchUsart).params = s.params := rfl

/-! `setAciaCtrl` -/
@[simp] theorem State.setAciaCtrl_main (v : Byte) : (s.setAciaCtrl v).main = s.main := rfl
@[simp] theorem State.setAciaCtrl_shadow (v : Byte) : (s.setAciaCtrl v).shadow = s.shadow := rfl
@[simp] theorem State.setAciaCtrl_ix (v : Byte) : (s.setAciaCtrl v).ix = s.ix := rfl
@[simp] theorem State.setAciaCtrl_iy (v : Byte) : (s.setAciaCtrl v).iy = s.iy := rfl
@[simp] theorem State.setAciaCtrl_sp (v : Byte) : (s.setAciaCtrl v).sp = s.sp := rfl
@[simp] theorem State.setAciaCtrl_pc (v : Byte) : (s.setAciaCtrl v).pc = s.pc := rfl
@[simp] theorem State.setAciaCtrl_wz (v : Byte) : (s.setAciaCtrl v).wz = s.wz := rfl
@[simp] theorem State.setAciaCtrl_i (v : Byte) : (s.setAciaCtrl v).i = s.i := rfl
@[simp] theorem State.setAciaCtrl_r (v : Byte) : (s.setAciaCtrl v).r = s.r := rfl
@[simp] theorem State.setAciaCtrl_iff1 (v : Byte) : (s.setAciaCtrl v).iff1 = s.iff1 := rfl
@[simp] theorem State.setAciaCtrl_iff2 (v : Byte) : (s.setAciaCtrl v).iff2 = s.iff2 := rfl
@[simp] theorem State.setAciaCtrl_im (v : Byte) : (s.setAciaCtrl v).im = s.im := rfl
@[simp] theorem State.setAciaCtrl_halted (v : Byte) : (s.setAciaCtrl v).halted = s.halted := rfl
@[simp] theorem State.setAciaCtrl_iffDelay (v : Byte) : (s.setAciaCtrl v).iffDelay = s.iffDelay := rfl
@[simp] theorem State.setAciaCtrl_cyc (v : Byte) : (s.setAciaCtrl v).cyc = s.cyc := rfl
@[simp] theorem State.setAciaCtrl_intPending (v : Byte) : (s.setAciaCtrl v).intPending = s.intPending := rfl
@[simp] theorem State.setAciaCtrl_intVector (v : Byte) : (s.setAciaCtrl v).intVector = s.intVector := rfl
@[simp] theorem State.setAciaCtrl_nmiPending (v : Byte) : (s.setAciaCtrl v).nmiPending = s.nmiPending := rfl
@[simp] theorem State.setAciaCtrl_mem (v : Byte) : (s.setAciaCtrl v).mem = s.mem := rfl
@[simp] theorem State.setAciaCtrl_queue (v : Byte) : (s.setAciaCtrl v).queue = s.queue := rfl
@[simp] theorem State.setAciaCtrl_sink (v : Byte) : (s.setAciaCtrl v).sink = s.sink := rfl
@[simp] theorem State.setAciaCtrl_uses8251 (v : Byte) : (s.setAciaCtrl v).uses8251 = s.uses8251 := rfl
@[simp] theorem State.setAciaCtrl_c7Latch (v : Byte) : (s.setAciaCtrl v).c7Latch = s.c7Latch := rfl
@[simp] theorem State.setAciaCtrl_aciaCtrl (v : Byte) : (s.setAciaCtrl v).aciaCtrl = v := rfl
@[simp] theorem State.setAciaCtrl_sd (v : Byte) : (s.setAciaCtrl v).sd = s.sd := rfl
@[simp] theorem State.setAciaCtrl_files (v : Byte) : (s.setAciaCtrl v).files = s.files := rfl
@[simp] theorem State.setAciaCtrl_params (v : Byte) : (s.setAciaCtrl v).params = s.params := rfl

/-! `raiseNmi` -/
@[simp] theorem State.raiseNmi_main : (s.raiseNmi).main = s.main := rfl
@[simp] theorem State.raiseNmi_shadow : (s.raiseNmi).shadow = s.shadow := rfl
@[simp] theorem State.raiseNmi_ix : (s.raiseNmi).ix = s.ix := rfl
@[simp] theorem State.raiseNmi_iy : (s.raiseNmi).iy = s.iy := rfl
@[simp] theorem State.raiseNmi_sp : (s.raiseNmi).sp = s.sp := rfl
@[simp] theorem State.raiseNmi_pc : (s.raiseNmi).pc = s.pc := rfl
@[simp] theorem State.raiseNmi_wz : (s.raiseNmi).wz = s.wz := rfl
@[simp] theorem State.raiseNmi_i : (s.raiseNmi).i = s.i := rfl
@[simp] theorem State.raiseNmi_r : (s.raiseNmi).r = s.r := rfl
@[simp] theorem State.raiseNmi_iff1 : (s.raiseNmi).iff1 = s.iff1 := rfl
@[simp] theorem State.raiseNmi_iff2 : (s.raiseNmi).iff2 = s.iff2 := rfl
@[simp] theorem State.raiseNmi_im : (s.raiseNmi).im = s.im := rfl
@[simp] theorem State.raiseNmi_halted : (s.raiseNmi).halted = s.halted := rfl
@[simp] theorem State.raiseNmi_iffDelay : (s.raiseNmi).iffDelay = s.iffDelay := rfl
@[simp] theorem State.raiseNmi_cyc : (s.raiseNmi).cyc = s.cyc := rfl
@[simp] theorem State.raiseNmi_intPending : (s.raiseNmi).intPending = s.intPending := rfl
@[simp] theorem State.raiseNmi_intVector : (s.raiseNmi).intVector = s.intVector := rfl
@[simp] theorem State.raiseNmi_nmiPending : (s.raiseNmi).nmiPending = true := rfl
@[simp] theorem State.raiseNmi_mem : (s.raiseNmi).mem = s.mem := rfl
@[simp] theorem State.raiseNmi_queue : (s.raiseNmi).queue = s.queue := rfl
@[simp] theorem State.raiseNmi_sink : (s.raiseNmi).sink = s.sink := rfl
@[simp] theorem State.raiseNmi_uses8251 : (s.raiseNmi).uses8251 = s.uses8251 := rfl
@[simp] theorem State.raiseNmi_c7Latch : (s.raiseNmi).c7Latch = s.c7Latch := rfl
@[simp] theorem State.raiseNmi_aciaCtrl : (s.raiseNmi).aciaCtrl = s.aciaCtrl := rfl
@[simp] theorem State.raiseNmi_sd : (s.raiseNmi).sd = s.sd := rfl
@[simp] theorem State.raiseNmi_files : (s.raiseNmi).files = s.files := rfl
@[simp] theorem State.raiseNmi_params : (s.raiseNmi).params = s.params := rfl

/-! `repeatBlock` -/
@[simp] theorem State.repeatBlock_main : (s.repeatBlock).main = s.main := rfl
@[simp] theorem State.repeatBlock_shadow : (s.repeatBlock).shadow = s.shadow := rfl
@[simp] theorem State.repeatBlock_ix : (s.repeatBlock).ix = s.ix := rfl
@[simp] theorem State.repeatBlock_iy : (s.repeatBlock).iy = s.iy := rfl
@[simp] theorem State.repeatBlock_sp : (s.repeatBlock).sp = s.sp := rfl
@[simp] theorem State.repeatBlock_pc : (s.repeatBlock).pc = s.pc - 2 := rfl
@[simp] theorem State.repeatBlock_wz : (s.repeatBlock).wz = s.wz := rfl
@[simp] theorem State.repeatBlock_i : (s.repeatBlock).i = s.i := rfl
@[simp] theorem State.repeatBlock_r : (s.repeatBlock).r = s.r := rfl
@[simp] theorem State.repeatBlock_iff1 : (s.repeatBlock).iff1 = s.iff1 := rfl
@[simp] theorem State.repeatBlock_iff2 : (s.repeatBlock).iff2 = s.iff2 := rfl
@[simp] theorem State.repeatBlock_im : (s.repeatBlock).im = s.im := rfl
@[simp] theorem State.repeatBlock_halted : (s.repeatBlock).halted = s.halted := rfl
@[simp] theorem State.repeatBlock_iffDelay : (s.repeatBlock).iffDelay = s.iffDelay := rfl
@[simp] theorem State.repeatBlock_cyc : (s.repeatBlock).cyc = s.cyc + 5 := rfl
@[simp] theorem State.repeatBlock_intPending : (s.repeatBlock).intPending = s.intPending := rfl
@[simp] theorem State.repeatBlock_intVector : (s.repeatBlock).intVector = s.intVector := rfl
@[simp] theorem State.repeatBlock_nmiPending : (s.repeatBlock).nmiPending = s.nmiPending := rfl
@[simp] theorem State.repeatBlock_mem : (s.repeatBlock).mem = s.mem := rfl
@[simp] theorem State.repeatBlock_queue : (s.repeatBlock).queue = s.queue := rfl
@[simp] theorem State.repeatBlock_sink : (s.repeatBlock).sink = s.sink := rfl
@[simp] theorem State.repeatBlock_uses8251 : (s.repeatBlock).uses8251 = s.uses8251 := rfl
@[simp] theorem State.repeatBlock_c7Latch : (s.repeatBlock).c7Latch = s.c7Latch := rfl
@[simp] theorem State.repeatBlock_aciaCtrl : (s.repeatBlock).aciaCtrl = s.aciaCtrl := rfl
@[simp] theorem State.repeatBlock_sd : (s.repeatBlock).sd = s.sd := rfl
@[simp] theorem State.repeatBlock_files : (s.repeatBlock).files = s.files := rfl
@[simp] theorem State.repeatBlock_params : (s.repeatBlock).params = s.params := rfl

/-! `setF` -/
@[simp] theorem State.setF_main_a (v : Byte) : (s.setF v).main.a = s.main.a := rfl
@[simp] theorem State.setF_main_f (v : Byte) : (s.setF v).main.f = v := rfl
@[simp] theorem State.setF_main_b (v : Byte) : (s.setF v).main.b = s.main.b := rfl
@[simp] theorem State.setF_main_c (v : Byte) : (s.setF v).main.c = s.main.c := rfl
@[simp] theorem State.setF_main_d (v : Byte) : (s.setF v).main.d = s.main.d := rfl
@[simp] theorem State.setF_main_e (v : Byte) : (s.setF v).main.e = s.main.e := rfl
@[simp] theorem State.setF_main_h (v : Byte) : (s.setF v).main.h = s.main.h := rfl
@[simp] theorem State.setF_main_l (v : Byte) : (s.setF v).main.l = s.main.l := rfl
@[simp] theorem State.setF_shadow (v : Byte) : (s.setF v).shadow = s.shadow := rfl
@[simp] theorem State.setF_ix (v : Byte) : (s.setF v).ix = s.ix := rfl
@[simp] theorem State.setF_iy (v : Byte) : (s.setF v).iy = s.iy := rfl
@[simp] theorem State.setF_sp (v : Byte) : (s.setF v).sp = s.sp := rfl
@[simp] theorem State.setF_pc (v : Byte) : (s.setF v).pc = s.pc := rfl
@[simp] theorem State.setF_wz (v : Byte) : (s.setF v).wz = s.wz := rfl
@[simp] theorem State.setF_i (v : Byte) : (s.setF v).i = s.i := rfl
@[simp] theorem State.setF_r (v : Byte) : (s.setF v).r = s.r := rfl
@[simp] theorem State.setF_iff1 (v : Byte) : (s.setF v).iff1 = s.iff1 := rfl
@[simp] theorem State.setF_iff2 (v : Byte) : (s.setF v).iff2 = s.iff2 := rfl
@[simp] theorem State.setF_im (v : Byte) : (s.setF v).im = s.im := rfl
@[simp] theorem State.setF_halted (v : Byte) : (s.setF v).halted = s.halted := rfl
@[simp] theorem State.setF_iffDelay (v : Byte) : (s.setF v).iffDelay = s.iffDelay := rfl
@[simp] theorem State.setF_cyc (v : Byte) : (s.setF v).cyc = s.cyc := rfl
@[simp] theorem State.setF_intPending (v : Byte) : (s.setF v).intPending = s.intPending := rfl
@[simp] theorem State.setF_intVector (v : Byte) : (s.setF v).intVector = s.intVector := rfl
@[simp] theorem State.setF_nmiPending (v : Byte) : (s.setF v).nmiPending = s.nmiPending := rfl
@[simp] theorem State.setF_mem (v : Byte) : (s.setF v).mem = s.mem := rfl
@[simp] theorem State.setF_queue (v : Byte) : (s.setF v).queue = s.queue := rfl
@[simp] theorem State.setF_sink (v : Byte) : (s.setF v).sink = s.sink := rfl
@[simp] theorem State.setF_uses8251 (v : Byte) : (s.setF v).uses8251 = s.uses8251 := rfl
@[simp] theorem State.setF_c7Latch (v : Byte) : (s.setF v).c7Latch = s.c7Latch := rfl
@[simp] theorem State.setF_aciaCtrl (v : Byte) : (s.setF v).aciaCtrl = s.aciaCtrl := rfl
@[simp] theorem State.setF_sd (v : Byte) : (s.setF v).sd = s.sd := rfl
@[simp] theorem State.setF_files (v : Byte) : (s.setF v).files = s.files := rfl
@[simp] theorem State.setF_params (v : Byte) : (s.setF v).params = s.params := rfl

/-! `setA` -/
@[simp] theorem State.setA_main_a (v : Byte) : (s.setA v).main.a = v := rfl
@[simp] theorem State.setA_main_f (v : Byte) : (s.setA v).main.f = s.main.f := rfl
@[simp] theorem State.setA_main_b (v : Byte) : (s.setA v).main.b = s.main.b := rfl
@[simp] theorem State.setA_main_c (v : Byte) : (s.setA v).main.c = s.main.c := rfl
@[simp] theorem State.setA_main_d (v : Byte) : (s.setA v).main.d = s.main.d := rfl
@[simp] theorem State.setA_main_e (v : Byte) : (s.setA v).main.e = s.main.e := rfl
@[simp] theorem State.setA_main_h (v : Byte) : (s.setA v).main.h = s.main.h := rfl
@[simp] theorem State.setA_main_l (v : Byte) : (s.setA v).main.l = s.main.l := rfl
@[simp] theorem State.setA_shadow (v : Byte) : (s.setA v).shadow = s.shadow := rfl
@[simp] theorem State.setA_ix (v : Byte) : (s.setA v).ix = s.ix := rfl
@[simp] theorem State.setA_iy (v : Byte) : (s.setA v).iy = s.iy := rfl
@[simp] theorem State.setA_sp (v : Byte) : (s.setA v).sp = s.sp := rfl
@[simp] theorem State.setA_pc (v : Byte) : (s.setA v).pc = s.pc := rfl
@[simp] theorem State.setA_wz (v : Byte) : (s.setA v).wz = s.wz := rfl
@[simp] theorem State.setA_i (v : Byte) : (s.setA v).i = s.i := rfl
@[simp] theorem State.setA_r (v : Byte) : (s.setA v).r = s.r := rfl
@[simp] theorem State.setA_iff1 (v : Byte) : (s.setA v).iff1 = s.iff1 := rfl
@[simp] theorem State.setA_iff2 (v : Byte) : (s.setA v).iff2 = s.iff2 := rfl
@[simp] theorem State.setA_im (v : Byte) : (s.setA v).im = s.im := rfl
@[simp] theorem State.setA_halted (v : Byte) : (s.setA v).halted = s.halted := rfl
@[simp] theorem State.setA_iffDelay (v : Byte) : (s.setA v).iffDelay = s.iffDelay := rfl
@[simp] theorem State.setA_cyc (v : Byte) : (s.setA v).cyc = s.cyc := rfl
@[simp] theorem State.setA_intPending (v : Byte) : (s.setA v).intPending = s.intPending := rfl
@[simp] theorem State.setA_intVector (v : Byte) : (s.setA v).intVector = s.intVector := rfl
@[simp] theorem State.setA_nmiPending (v : Byte) : (s.setA v).nmiPending = s.nmiPending := rfl
@[simp] theorem State.setA_mem (v : Byte) : (s.setA v).mem = s.mem := rfl
@[simp] theorem State.setA_queue (v : Byte) : (s.setA v).queue = s.queue := rfl
@[simp] theorem State.setA_sink (v : Byte) : (s.setA v).sink = s.sink := rfl
@[simp] theorem State.setA_uses8251 (v : Byte) : (s.setA v).uses8251 = s.uses8251 := rfl
@[simp] theorem State.setA_c7Latch (v : Byte) : (s.setA v).c7Latch = s.c7Latch := rfl
@[simp] theorem State.setA_aciaCtrl (v : Byte) : (s.setA v).aciaCtrl = s.aciaCtrl := rfl
@[simp] theorem State.setA_sd (v : Byte) : (s.setA v).sd = s.sd := rfl
@[simp] theorem State.setA_files (v : Byte) : (s.setA v).files = s.files := rfl
@[simp] theorem State.setA_params (v : Byte) : (s.setA v).params = s.params := rfl

/-! `setB` -/
@[simp] theorem State.setB_main_a (v : Byte) : (s.setB v).main.a = s.main.a := rfl
@[simp] theorem State.setB_main_f (v : Byte) : (s.setB v).main.f = s.main.f := rfl
@[simp] theorem State.setB_main_b (v : Byte) : (s.setB v).main.b = v := rfl
@[simp] theorem State.setB_main_c (v : Byte) : (s.setB v).main.c = s.main.c := rfl
@[simp] theorem State.setB_main_d (v : Byte) : (s.setB v).main.d = s.main.d := rfl
@[simp] theorem State.setB_main_e (v : Byte) : (s.setB v).main.e = s.main.e := rfl
@[simp] theorem State.setB_main_h (v : Byte) : (s.setB v).main.h = s.main.h := rfl
@[simp] theorem State.setB_main_l (v : Byte) : (s.setB v).main.l = s.main.l := rfl
@[simp] theorem State.setB_shadow (v : Byte) : (s.setB v).shadow = s.shadow := rfl
@[simp] theorem State.setB_ix (v : Byte) : (s.setB v).ix = s.ix := rfl
@[simp] theorem State.setB_iy (v : Byte) : (s.setB v).iy = s.iy := rfl
@[simp] theorem State.setB_sp (v : Byte) : (s.setB v).sp = s.sp := rfl
@[simp] theorem State.setB_pc (v : Byte) : (s.setB v).pc = s.pc := rfl
@[simp] theorem State.setB_wz (v : Byte) : (s.setB v).wz = s.wz := rfl
@[simp] theorem State.setB_i (v : Byte) : (s.setB v).i = s.i := rfl
@[simp] theorem State.setB_r (v : Byte) : (s.setB v).r = s.r := rfl
@[simp] theorem State.setB_iff1 (v : Byte) : (s.setB v).iff1 = s.iff1 := rfl
@[simp] theorem State.setB_iff2 (v : Byte) : (s.setB v).iff2 = s.iff2 := rfl
@[simp] theorem State.setB_im (v : Byte) : (s.setB v).im = s.im := rfl
@[simp] theorem State.setB_halted (v : Byte) : (s.setB v).halted = s.halted := rfl
@[simp] theorem State.setB_iffDelay (v : Byte) : (s.setB v).iffDelay = s.iffDelay := rfl
@[simp] theorem State.setB_cyc (v : Byte) : (s.setB v).cyc = s.cyc := rfl
@[simp] theorem State.setB_intPending (v : Byte) : (s.setB v).intPending = s.intPending := rfl
@[simp] theorem State.setB_intVector (v : Byte) : (s.setB v).intVector = s.intVector := rfl
@[simp] theorem State.setB_nmiPending (v : Byte) : (s.setB v).nmiPending = s.nmiPending := rfl
@[simp] theorem State.setB_mem (v : Byte) : (s.setB v).mem = s.mem := rfl
@[simp] theorem State.setB_queue (v : Byte) : (s.setB v).queue = s.queue := rfl
@[simp] theorem State.setB_sink (v : Byte) : (s.setB v).sink = s.sink := rfl
@[simp] theorem State.setB_uses8251 (v : Byte) : (s.setB v).uses8251 = s.uses8251 := rfl
@[simp] theorem State.setB_c7Latch (v : Byte) : (s.setB v).c7Latch = s.c7Latch := rfl
@[simp] theorem State.setB_aciaCtrl (v : Byte) : (s.setB v).aciaCtrl = s.aciaCtrl := rfl
@[simp] theorem State.setB_sd (v : Byte) : (s.setB v).sd = s.sd := rfl
@[simp] theorem State.setB_files (v : Byte) : (s.setB v).files = s.files := rfl
@[simp] theorem State.setB_params (v : Byte) : (s.setB v).params = s.params := rfl

/-! `setBc` -/
@[simp] theorem State.setBc_main_a (v : Word) : (s.setBc v).main.a = s.main.a := rfl
@[simp] theorem State.setBc_main_f (v : Word) : (s.setBc v).main.f = s.main.f := rfl
@[simp] theorem State.setBc_main_b (v : Word) : (s.setBc v).main.b = hi v := rfl
@[simp] theorem State.setBc_main_c (v : Word) : (s.setBc v).main.c = lo v := rfl
@[simp] theorem State.setBc_main_d (v : Word) : (s.setBc v).main.d = s.main.d := rfl
@[simp] theorem State.setBc_main_e (v : Word) : (s.setBc v).main.e = s.main.e := rfl
@[simp] theorem State.setBc_main_h (v : Word) : (s.setBc v).main.h = s.main.h := rfl
@[simp] theorem State.setBc_main_l (v : Word) : (s.setBc v).main.l = s.main.l := rfl
@[simp] theorem State.setBc_shadow (v : Word) : (s.setBc v).shadow = s.shadow := rfl
@[simp] theorem State.setBc_ix (v : Word) : (s.setBc v).ix = s.ix := rfl
@[simp] theorem State.setBc_iy (v : Word) : (s.setBc v).iy = s.iy := rfl
@[simp] theorem State.setBc_sp (v : Word) : (s.setBc v).sp = s.sp := rfl
@[simp] theorem State.setBc_pc (v : Word) : (s.setBc v).pc = s.pc := rfl
@[simp] theorem State.setBc_wz (v : Word) : (s.setBc v).wz = s.wz := rfl
@[simp] theorem State.setBc_i (v : Word) : (s.setBc v).i = s.i := rfl
@[simp] theorem State.setBc_r (v : Word) : (s.setBc v).r = s.r := rfl
@[simp] theorem State.setBc_iff1 (v : Word) : (s.setBc v).iff1 = s.iff1 := rfl
@[simp] theorem State.setBc_iff2 (v : Word) : (s.setBc v).iff2 = s.iff2 := rfl
@[simp] theorem State.setBc_im (v : Word) : (s.setBc v).im = s.im := rfl
@[simp] theorem State.setBc_halted (v : Word) : (s.setBc v).halted = s.halted := rfl
@[simp] theorem State.setBc_iffDelay (v : Word) : (s.setBc v).iffDelay = s.iffDelay := rfl
@[simp] theorem State.setBc_cyc (v : Word) : (s.setBc v).cyc = s.cyc := rfl
@[simp] theorem State.setBc_intPending (v : Word) : (s.setBc v).intPending = s.intPending := rfl
@[simp] theorem State.setBc_intVector (v : Word) : (s.setBc v).intVector = s.intVector := rfl
@[simp] theorem State.setBc_nmiPending (v : Word) : (s.setBc v).nmiPending = s.nmiPending := rfl
@[simp] theorem State.setBc_mem (v : Word) : (s.setBc v).mem = s.mem := rfl
@[simp] theorem State.setBc_queue (v : Word) : (s.setBc v).queue = s.queue := rfl
@[simp] theorem State.setBc_sink (v : Word) : (s.setBc v).sink = s.sink := rfl
@[simp] theorem State.setBc_uses8251 (v : Word) : (s.setBc v).uses8251 = s.uses8251 := rfl
@[simp] theorem State.setBc_c7Latch (v : Word) : (s.setBc v).c7Latch = s.c7Latch := rfl
@[simp] theorem State.setBc_aciaCtrl (v : Word) : (s.setBc v).aciaCtrl = s.aciaCtrl := rfl
@[simp] theorem State.setBc_sd (v : Word) : (s.setBc v).sd = s.sd := rfl
@[simp] theorem State.setBc_files (v : Word) : (s.setBc v).files = s.files := rfl
@[simp] theorem State.setBc_params (v : Word) : (s.setBc v).params = s.params := rfl

/-! `setDe` -/
@[simp] theorem State.setDe_main_a (v : Word) : (s.setDe v).main.a = s.main.a := rfl
@[simp] theorem State.setDe_main_f (v : Word) : (s.setDe v).main.f = s.main.f := rfl
@[simp] theorem State.setDe_main_b (v : Word) : (s.setDe v).main.b = s.main.b := rfl
@[simp] theorem State.setDe_main_c (v : Word) : (s.setDe v).main.c = s.main.c := rfl
@[simp] theorem State.setDe_main_d (v : Word) : (s.setDe v).main.d = hi v := rfl
@[simp] theorem State.setDe_main_e (v : Word) : (s.setDe v).main.e = lo v := rfl
@[simp] theorem State.setDe_main_h (v : Word) : (s.setDe v).main.h = s.main.h := rfl
@[simp] theorem State.setDe_main_l (v : Word) : (s.setDe v).main.l = s.main.l := rfl
@[simp] theorem State.setDe_shadow (v : Word) : (s.setDe v).shadow = s.shadow := rfl
@[simp] theorem State.setDe_ix (v : Word) : (s.setDe v).ix = s.ix := rfl
@[simp] theorem State.setDe_iy (v : Word) : (s.setDe v).iy = s.iy := rfl
@[simp] theorem State.setDe_sp (v : Word) : (s.setDe v).sp = s.sp := rfl
@[simp] theorem State.setDe_pc (v : Word) : (s.setDe v).pc = s.pc := rfl
@[simp] theorem State.setDe_wz (v : Word) : (s.setDe v).wz = s.wz := rfl
@[simp] theorem State.setDe_i (v : Word) : (s.setDe v).i = s.i := rfl
@[simp] theorem State.setDe_r (v : Word) : (s.setDe v).r = s.r := rfl
@[simp] theorem State.setDe_iff1 (v : Word) : (s.setDe v).iff1 = s.iff1 := rfl
@[simp] theorem State.setDe_iff2 (v : Word) : (s.setDe v).iff2 = s.iff2 := rfl
@[simp] theorem State.setDe_im (v : Word) : (s.setDe v).im = s.im := rfl
@[simp] theorem State.setDe_halted (v : Word) : (s.setDe v).halted = s.halted := rfl
@[simp] theorem State.setDe_iffDelay (v : Word) : (s.setDe v).iffDelay = s.iffDelay := rfl
@[simp] theorem State.setDe_cyc (v : Word) : (s.setDe v).cyc = s.cyc := rfl
@[simp] theorem State.setDe_intPending (v : Word) : (s.setDe v).intPending = s.intPending := rfl
@[simp] theorem State.setDe_intVector (v : Word) : (s.setDe v).intVector = s.intVector := rfl
@[simp] theorem State.setDe_nmiPending (v : Word) : (s.setDe v).nmiPending = s.nmiPending := rfl
@[simp] theorem State.setDe_mem (v : Word) : (s.setDe v).mem = s.mem := rfl
@[simp] theorem State.setDe_queue (v : Word) : (s.setDe v).queue = s.queue := rfl
@[simp] theorem State.setDe_sink (v : Word) : (s.setDe v).sink = s.sink := rfl
@[simp] theorem State.setDe_uses8251 (v : Word) : (s.setDe v).uses8251 = s.uses8251 := rfl
@[simp] theorem State.setDe_c7Latch (v : Word) : (s.setDe v).c7Latch = s.c7Latch := rfl
@[simp] theorem State.setDe_aciaCtrl (v : Word) : (s.setDe v).aciaCtrl = s.aciaCtrl := rfl
@[simp] theorem State.setDe_sd (v : Word) : (s.setDe v).sd = s.sd := rfl
@[simp] theorem State.setDe_files (v : Word) : (s.setDe v).files = s.files := rfl
@[simp] theorem State.setDe_params (v : Word) : (s.setDe v).params = s.params := rfl

/-! `setHl` -/
@[simp] theorem State.setHl_main_a (v : Word) : (s.setHl v).main.a = s.main.a := rfl
@[simp] theorem State.setHl_main_f (v : Word) : (s.setHl v).main.f = s.main.f := rfl
@[simp] theorem State.setHl_main_b (v : Word) : (s.setHl v).main.b = s.main.b := rfl
@[simp] theorem State.setHl_main_c (v : Word) : (s.setHl v).main.c = s.main.c := rfl
@[simp] theorem State.setHl_main_d (v : Word) : (s.setHl v).main.d = s.main.d := rfl
@[simp] theorem State.setHl_main_e (v : Word) : (s.setHl v).main.e = s.main.e := rfl
@[simp] theorem State.setHl_main_h (v : Word) : (s.setHl v).main.h = hi v := rfl
@[simp] theorem State.setHl_main_l (v : Word) : (s.setHl v).main.l = lo v := rfl
@[simp] theorem State.setHl_shadow (v : Word) : (s.setHl v).shadow = s.shadow := rfl
@[simp] theorem State.setHl_ix (v : Word) : (s.setHl v).ix = s.ix := rfl
@[simp] theorem State.setHl_iy (v : Word) : (s.setHl v).iy = s.iy := rfl
@[simp] theorem State.setHl_sp (v : Word) : (s.setHl v).sp = s.sp := rfl
@[simp] theorem State.setHl_pc (v : Word) : (s.setHl v).pc = s.pc := rfl
@[simp] theorem State.setHl_wz (v : Word) : (s.setHl v).wz = s.wz := rfl
@[simp] theorem State.setHl_i (v : Word) : (s.setHl v).i = s.i := rfl
@[simp] theorem State.setHl_r (v : Word) : (s.setHl v).r = s.r := rfl
@[simp] theorem State.setHl_iff1 (v : Word) : (s.setHl v).iff1 = s.iff1 := rfl
@[simp] theorem State.setHl_iff2 (v : Word) : (s.setHl v).iff2 = s.iff2 := rfl
@[simp] theorem State.setHl_im (v : Word) : (s.setHl v).im = s.im := rfl
@[simp] theorem State.setHl_halted (v : Word) : (s.setHl v).halted = s.halted := rfl
@[simp] theorem State.setHl_iffDelay (v : Word) : (s.setHl v).iffDelay = s.iffDelay := rfl
@[simp] theorem State.setHl_cyc (v : Word) : (s.setHl v).cyc = s.cyc := rfl
@[simp] theorem State.setHl_intPending (v : Word) : (s.setHl v).intPending = s.intPending := rfl
@[simp] theorem State.setHl_intVector (v : Word) : (s.setHl v).intVector = s.intVector := rfl
@[simp] theorem State.setHl_nmiPending (v : Word) : (s.setHl v).nmiPending = s.nmiPending := rfl
@[simp] theorem State.setHl_mem (v : Word) : (s.setHl v).mem = s.mem := rfl
@[simp] theorem State.setHl_queue (v : Word) : (s.setHl v).queue = s.queue := rfl
@[simp] theorem State.setHl_sink (v : Word) : (s.setHl v).sink = s.sink := rfl
@[simp] theorem State.setHl_uses8251 (v : Word) : (s.setHl v).uses8251 = s.uses8251 := rfl
@[simp] theorem State.setHl_c7Latch (v : Word) : (s.setHl v).c7Latch = s.c7Latch := rfl
@[simp] theorem State.setHl_aciaCtrl (v : Word) : (s.setHl v).aciaCtrl = s.aciaCtrl := rfl
@[simp] theorem State.setHl_sd (v : Word) : (s.setHl v).sd = s.sd := rfl
@[simp] theorem State.setHl_files (v : Word) : (s.setHl v).files = s.files := rfl
@[simp] theorem State.setHl_params (v : Word) : (s.setHl v).params = s.params := rfl

/-! `setAf` -/
@[simp] theorem State.setAf_main_a (v : Word) : (s.setAf v).main.a = hi v := rfl
@[simp] theorem State.setAf_main_f (v : Word) : (s.setAf v).main.f = lo v := rfl
@[simp] theorem State.setAf_main_b (v : Word) : (s.setAf v).main.b = s.main.b := rfl
@[simp] theorem State.setAf_main_c (v : Word) : (s.setAf v).main.c = s.main.c := rfl
@[simp] theorem State.setAf_main_d (v : Word) : (s.setAf v).main.d = s.main.d := rfl
@[simp] theorem State.setAf_main_e (v : Word) : (s.setAf v).main.e = s.main.e := rfl
@[simp] theorem State.setAf_main_h (v : Word) : (s.setAf v).main.h = s.main.h := rfl
@[simp] theorem State.setAf_main_l (v : Word) : (s.setAf v).main.l = s.main.l := rfl
@[simp] theorem State.setAf_shadow (v : Word) : (s.setAf v).shadow = s.shadow := rfl
@[simp] theorem State.setAf_ix (v : Word) : (s.setAf v).ix = s.ix := rfl
@[simp] theorem State.setAf_iy (v : Word) : (s.setAf v).iy = s.iy := rfl
@[simp] theorem State.setAf_sp (v : Word) : (s.setAf v).sp = s.sp := rfl
@[simp] theorem State.setAf_pc (v : Word) : (s.setAf v).pc = s.pc := rfl
@[simp] theorem State.setAf_wz (v : Word) : (s.setAf v).wz = s.wz := rfl
@[simp] theorem State.setAf_i (v : Word) : (s.setAf v).i = s.i := rfl
@[simp] theorem State.setAf_r (v : Word) : (s.setAf v).r = s.r := rfl
@[simp] theorem State.setAf_iff1 (v : Word) : (s.setAf v).iff1 = s.iff1 := rfl
@[simp] theorem State.setAf_iff2 (v : Word) : (s.setAf v).iff2 = s.iff2 := rfl
@[simp] theorem State.setAf_im (v : Word) : (s.setAf v).im = s.im := rfl
@[simp] theorem State.setAf_halted (v : Word) : (s.setAf v).halted = s.halted := rfl
@[simp] theorem State.setAf_iffDelay (v : Word) : (s.setAf v).iffDelay = s.iffDelay := rfl
@[simp] theorem State.setAf_cyc (v : Word) : (s.setAf v).cyc = s.cyc := rfl
@[simp] theorem State.setAf_intPending (v : Word) : (s.setAf v).intPending = s.intPending := rfl
@[simp] theorem State.setAf_intVector (v : Word) : (s.setAf v).intVector = s.intVector := rfl
@[simp] theorem State.setAf_nmiPending (v : Word) : (s.setAf v).nmiPending = s.nmiPending := rfl
@[simp] theorem State.setAf_mem (v : Word) : (s.setAf v).mem = s.mem := rfl
@[simp] theorem State.setAf_queue (v : Word) : (s.setAf v).queue = s.queue := rfl
@[simp] theorem State.setAf_sink (v : Word) : (s.setAf v).sink = s.sink := rfl
@[simp] theorem State.setAf_uses8251 (v : Word) : (s.setAf v).uses8251 = s.uses8251 := rfl
@[simp] theorem State.setAf_c7Latch (v : Word) : (s.setAf v).c7Latch = s.c7Latch := rfl
@[simp] theorem State.setAf_aciaCtrl (v : Word) : (s.setAf v).aciaCtrl = s.aciaCtrl := rfl
@[simp] theorem State.setAf_sd (v : Word) : (s.setAf v).sd = s.sd := rfl
@[simp] theorem State.setAf_files (v : Word) : (s.setAf v).files = s.files := rfl
@[simp] theorem State.setAf_params (v : Word) : (s.setAf v).params = s.params := rfl

/-! `writeMem`, `writeMem16`: only memory changes. -/
@[simp] theorem State.writeMem_main (a : Word) (v : Byte) : (s.writeMem a v).main = s.main := by
  unfold State.writeMem; split <;> rfl
@[simp] theorem State.writeMem_shadow (a : Word) (v : Byte) : (s.writeMem a v).shadow = s.shadow := by
  unfold State.writeMem; split <;> rfl
@[simp] theorem State.writeMem_ix (a : Word) (v : Byte) : (s.writeMem a v).ix = s.ix := by
  unfold State.writeMem; split <;> rfl
@[simp] theorem State.writeMem_iy (a : Word) (v : Byte) : (s.writeMem a v).iy = s.iy := by
  unfold State.writeMem; split <;> rfl
@[simp] theorem State.writeMem_sp (a : Word) (v : Byte) : (s.writeMem a v).sp = s.sp := by
  unfold State.writeMem; split <;> rfl
@[simp] theorem State.writeMem_pc (a : Word) (v : Byte) : (s.writeMem a v).pc = s.pc := by
  unfold State.writeMem; split <;> rfl
@[simp] theorem State.writeMem_wz (a : Word) (v : Byte) : (s.writeMem a v).wz = s.wz := by
  unfold State.writeMem; split <;> rfl
@[simp] theorem State.writeMem_i (a : Word) (v : Byte) : (s.writeMem a v).i = s.i := by
  unfold State.writeMem; split <;> rfl
@[simp] theorem State.writeMem_r (a : Word) (v : Byte) : (s.writeMem a v).r = s.r := by
  unfold State.writeMem; split <;> rfl
@[simp] theorem State.writeMem_iff1 (a : Word) (v : Byte) : (s.writeMem a v).iff1 = s.iff1 := by
  unfold State.writeMem; split <;> rfl
@[simp] theorem State.writeMem_iff2 (a : Word) (v : Byte) : (s.writeMem a v).iff2 = s.iff2 := by
  unfold State.writeMem; split <;> rfl
@[simp] theorem State.writeMem_im (a : Word) (v : Byte) : (s.writeMem a v).im = s.im := by
  unfold State.writeMem; split <;> rfl
@[simp] theorem State.writeMem_halted (a : Word) (v : Byte) : (s.writeMem a v).halted = s.halted := by
  unfold State.writeMem; split <;> rfl
@[simp] theorem State.writeMem_iffDelay (a : Word) (v : Byte) : (s.writeMem a v).iffDelay = s.iffDelay := by
  unfold State.writeMem; split <;> rfl
@[simp] theorem State.writeMem_cyc (a : Word) (v : Byte) : (s.writeMem a v).cyc = s.cyc := by
  unfold State.writeMem; split <;> rfl
@[simp] theorem State.writeMem_intPending (a : Word) (v : Byte) : (s.writeMem a v).intPending = s.intPending := by
  unfold State.writeMem; split <;> rfl
@[simp] theorem State.writeMem_intVector (a : Word) (v : Byte) : (s.writeMem a v).intVector = s.intVector := by
  unfold State.writeMem; split <;> rfl
@[simp] theorem State.writeMem_nmiPending (a : Word) (v : Byte) : (s.writeMem a v).nmiPending = s.nmiPending := by
  unfold State.writeMem; split <;> rfl
@[simp] theorem State.writeMem_queue (a : Word) (v : Byte) : (s.writeMem a v).queue = s.queue := by
  unfold State.writeMem; split <;> rfl
@[simp] theorem State.writeMem_sink (a : Word) (v : Byte) : (s.writeMem a v).sink = s.sink := by
  unfold State.writeMem; split <;> rfl
@[simp] theorem State.writeMem_uses8251 (a : Word) (v : Byte) : (s.writeMem a v).uses8251 = s.uses8251 := by
  unfold State.writeMem; split <;> rfl
@[simp] theorem State.writeMem_c7Latch (a : Word) (v : Byte) : (s.writeMem a v).c7Latch = s.c7Latch := by
  unfold State.writeMem; split <;> rfl
@[simp] theorem State.writeMem_aciaCtrl (a : Word) (v : Byte) : (s.writeMem a v).aciaCtrl = s.aciaCtrl := by
  unfold State.writeMem; split <;> rfl
@[simp] theorem State.writeMem_sd (a : Word) (v : Byte) : (s.writeMem a v).sd = s.sd := by
  unfold State.writeMem; split <;> rfl
@[simp] theorem State.writeMem_files (a : Word) (v : Byte) : (s.writeMem a v).files = s.files := by
  unfold State.writeMem; split <;> rfl
@[simp] theorem State.writeMem_params (a : Word) (v : Byte) : (s.writeMem a v).params = s.params := by
  unfold State.writeMem; split <;> rfl
@[simp] theorem State.writeMem16_main (a v : Word) : (s.writeMem16 a v).main = s.main := by simp [State.writeMem16]
@[simp] theorem State.writeMem16_shadow (a v : Word) : (s.writeMem16 a v).shadow = s.shadow := by simp [State.writeMem16]
@[simp] theorem State.writeMem16_ix (a v : Word) : (s.writeMem16 a v).ix = s.ix := by simp [State.writeMem16]
@[simp] theorem State.writeMem16_iy (a v : Word) : (s.writeMem16 a v).iy = s.iy := by simp [State.writeMem16]
@[simp] theorem State.writeMem16_sp (a v : Word) : (s.writeMem16 a v).sp = s.sp := by simp [State.writeMem16]
@[simp] theorem State.writeMem16_pc (a v : Word) : (s.writeMem16 a v).pc = s.pc := by simp [State.writeMem16]
@[simp] theorem State.writeMem16_wz (a v : Word) : (s.writeMem16 a v).wz = s.wz := by simp [State.writeMem16]
@[simp] theorem State.writeMem16_i (a v : Word) : (s.writeMem16 a v).i = s.i := by simp [State.writeMem16]
@[simp] theorem State.writeMem16_r (a v : Word) : (s.writeMem16 a v).r = s.r := by simp [State.writeMem16]
@[simp] theorem State.writeMem16_iff1 (a v : Word) : (s.writeMem16 a v).iff1 = s.iff1 := by simp [State.writeMem16]
@[simp] theorem State.writeMem16_iff2 (a v : Word) : (s.writeMem16 a v).iff2 = s.iff2 := by simp [State.writeMem16]
@[simp] theorem State.writeMem16_im (a v : Word) : (s.writeMem16 a v).im = s.im := by simp [State.writeMem16]
@[simp] theorem State.writeMem16_halted (a v : Word) : (s.writeMem16 a v).halted = s.halted := by simp [State.writeMem16]
@[simp] theorem State.writeMem16_iffDelay (a v : Word) : (s.writeMem16 a v).iffDelay = s.iffDelay := by simp [State.writeMem16]
@[simp] theorem State.writeMem16_cyc (a v : Word) : (s.writeMem16 a v).cyc = s.cyc := by simp [State.writeMem16]
@[simp] theorem State.writeMem16_intPending (a v : Word) : (s.writeMem16 a v).intPending = s.intPending := by simp [State.writeMem16]
@[simp] theorem State.writeMem16_intVector (a v : Word) : (s.writeMem16 a v).intVector = s.intVector := by simp [State.writeMem16]
@[simp] theorem State.writeMem16_nmiPending (a v : Word) : (s.writeMem16 a v).nmiPending = s.nmiPending := by simp [State.writeMem16]
@[simp] theorem State.writeMem16_queue (a v : Word) : (s.writeMem16 a v).queue = s.queue := by simp [State.writeMem16]
@[simp] theorem State.writeMem16_sink (a v : Word) : (s.writeMem16 a v).sink = s.sink := by simp [State.writeMem16]
@[simp] theorem State.writeMem16_uses8251 (a v : Word) : (s.writeMem16 a v).uses8251 = s.uses8251 := by simp [State.writeMem16]
@[simp] theorem State.writeMem16_c7Latch (a v : Word) : (s.writeMem16 a v).c7Latch = s.c7Latch := by simp [State.writeMem16]
@[simp] theorem State.writeMem16_aciaCtrl (a v : Word) : (s.writeMem16 a v).aciaCtrl = s.aciaCtrl := by simp [State.writeMem16]
@[simp] theorem State.writeMem16_sd (a v : Word) : (s.writeMem16 a v).sd = s.sd := by simp [State.writeMem16]
@[simp] theorem State.writeMem16_files (a v : Word) : (s.writeMem16 a v).files = s.files := by simp [State.writeMem16]
@[simp] theorem State.writeMem16_params (a v : Word) : (s.writeMem16 a v).params = s.params := by simp [State.writeMem16]

/-! `push16`: SP and memory change. -/
@[simp] theorem State.push16_main (v : Word) : (s.push16 v).main = s.main := by
  simp [State.push16]
@[simp] theorem State.push16_shadow (v : Word) : (s.push16 v).shadow = s.shadow := by
  simp [State.push16]
@[simp] theorem State.push16_ix (v : Word) : (s.push16 v).ix = s.ix := by
  simp [State.push16]
@[simp] theorem State.push16_iy (v : Word) : (s.push16 v).iy = s.iy := by
  simp [State.push16]
@[simp] theorem State.push16_sp (v : Word) : (s.push16 v).sp = s.sp - 2 := by
  simp [State.push16]; bv_omega
@[simp] theorem State.push16_pc (v : Word) : (s.push16 v).pc = s.pc := by
  simp [State.push16]
@[simp] theorem State.push16_wz (v : Word) : (s.push16 v).wz = s.wz := by
  simp [State.push16]
@[simp] theorem State.push16_i (v : Word) : (s.push16 v).i = s.i := by
  simp [State.push16]
@[simp] theorem State.push16_r (v : Word) : (s.push16 v).r = s.r := by
  simp [State.push16]
@[simp] theorem State.push16_iff1 (v : Word) : (s.push16 v).iff1 = s.iff1 := by
  simp [State.push16]
@[simp] theorem State.push16_iff2 (v : Word) : (s.push16 v).iff2 = s.iff2 := by
  simp [State.push16]
@[simp] theorem State.push16_im (v : Word) : (s.push16 v).im = s.im := by
  simp [State.push16]
@[simp] theorem State.push16_halted (v : Word) : (s.push16 v).halted = s.halted := by
  simp [State.push16]
@[simp] theorem State.push16_iffDelay (v : Word) : (s.push16 v).iffDelay = s.iffDelay := by
  simp [State.push16]
@[simp] theorem State.push16_cyc (v : Word) : (s.push16 v).cyc = s.cyc := by
  simp [State.push16]
@[simp] theorem State.push16_intPending (v : Word) : (s.push16 v).intPending = s.intPending := by
  simp [State.push16]
@[simp] theorem State.push16_intVector (v : Word) : (s.push16 v).intVector = s.intVector := by
  simp [State.push16]
@[simp] theorem State.push16_nmiPending (v : Word) : (s.push16 v).nmiPending = s.nmiPending := by
  simp [State.push16]
@[simp] theorem State.push16_queue (v : Word) : (s.push16 v).queue = s.queue := by
  simp [State.push16]
@[simp] theorem State.push16_sink (v : Word) : (s.push16 v).sink = s.sink := by
  simp [State.push16]
@[simp] theorem State.push16_uses8251 (v : Word) : (s.push16 v).uses8251 = s.uses8251 := by
  simp [State.push16]
@[simp] theorem State.push16_c7Latch (v : Word) : (s.push16 v).c7Latch = s.c7Latch := by
  simp [State.push16]
@[simp] theorem State.push16_aciaCtrl (v : Word) : (s.push16 v).aciaCtrl = s.aciaCtrl := by
  simp [State.push16]
@[simp] theorem State.push16_sd (v : Word) : (s.push16 v).sd = s.sd := by
  simp [State.push16]
@[simp] theorem State.push16_files (v : Word) : (s.push16 v).files = s.files := by
  simp [State.push16]
@[simp] theorem State.push16_params (v : Word) : (s.push16 v).params = s.params := by
  simp [State.push16]

/-! `setReg8`: the main bank, IX and IY change. -/
@[simp] theorem State.setReg8_shadow (r : Reg8) (v : Byte) : (s.setReg8 r v).shadow = s.shadow := by cases r <;> rfl
@[simp] theorem State.setReg8_sp (r : Reg8) (v : Byte) : (s.setReg8 r v).sp = s.sp := by cases r <;> rfl
@[simp] theorem State.setReg8_pc (r : Reg8) (v : Byte) : (s.setReg8 r v).pc = s.pc := by cases r <;> rfl
@[simp] theorem State.setReg8_wz (r : Reg8) (v : Byte) : (s.setReg8 r v).wz = s.wz := by cases r <;> rfl
@[simp] theorem State.setReg8_i (r : Reg8) (v : Byte) : (s.setReg8 r v).i = s.i := by cases r <;> rfl
@[simp] theorem State.setReg8_r (r : Reg8) (v : Byte) : (s.setReg8 r v).r = s.r := by cases r <;> rfl
@[simp] theorem State.setReg8_iff1 (r : Reg8) (v : Byte) : (s.setReg8 r v).iff1 = s.iff1 := by cases r <;> rfl
@[simp] theorem State.setReg8_iff2 (r : Reg8) (v : Byte) : (s.setReg8 r v).iff2 = s.iff2 := by cases r <;> rfl
@[simp] theorem State.setReg8_im (r : Reg8) (v : Byte) : (s.setReg8 r v).im = s.im := by cases r <;> rfl
@[simp] theorem State.setReg8_halted (r : Reg8) (v : Byte) : (s.setReg8 r v).halted = s.halted := by cases r <;> rfl
@[simp] theorem State.setReg8_iffDelay (r : Reg8) (v : Byte) : (s.setReg8 r v).iffDelay = s.iffDelay := by cases r <;> rfl
@[simp] theorem State.setReg8_cyc (r : Reg8) (v : Byte) : (s.setReg8 r v).cyc = s.cyc := by cases r <;> rfl
@[simp] theorem State.setReg8_intPending (r : Reg8) (v : Byte) : (s.setReg8 r v).intPending = s.intPending := by cases r <;> rfl
@[simp] theorem State.setReg8_intVector (r : Reg8) (v : Byte) : (s.setReg8 r v).intVector = s.intVector := by cases r <;> rfl
@[simp] theorem State.setReg8_nmiPending (r : Reg8) (v : Byte) : (s.setReg8 r v).nmiPending = s.nmiPending := by cases r <;> rfl
@[simp] theorem State.setReg8_mem (r : Reg8) (v : Byte) : (s.setReg8 r v).mem = s.mem := by cases r <;> rfl
@[simp] theorem State.setReg8_queue (r : Reg8) (v : Byte) : (s.setReg8 r v).queue = s.queue := by cases r <;> rfl
@[simp] theorem State.setReg8_sink (r : Reg8) (v : Byte) : (s.setReg8 r v).sink = s.sink := by cases r <;> rfl
@[simp] theorem State.setReg8_uses8251 (r : Reg8) (v : Byte) : (s.setReg8 r v).uses8251 = s.uses8251 := by cases r <;> rfl
@[simp] theorem State.setReg8_c7Latch (r : Reg8) (v : Byte) : (s.setReg8 r v).c7Latch = s.c7Latch := by cases r <;> rfl
@[simp] theorem State.setReg8_aciaCtrl (r : Reg8) (v : Byte) : (s.setReg8 r v).aciaCtrl = s.aciaCtrl := by cases r <;> rfl
@[simp] theorem State.setReg8_sd (r : Reg8) (v : Byte) : (s.setReg8 r v).sd = s.sd := by cases r <;> rfl
@[simp] theorem State.setReg8_files (r : Reg8) (v : Byte) : (s.setReg8 r v).files = s.files := by cases r <;> rfl
@[simp] theorem State.setReg8_params (r : Reg8) (v : Byte) : (s.setReg8 r v).params = s.params := by cases r <;> rfl

/-! `setReg16`: the main bank, SP, IX and IY change. -/
@[simp] theorem State.setReg16_shadow (r : Reg16) (v : Word) : (s.setReg16 r v).shadow = s.shadow := by cases r <;> rfl
@[simp] theorem State.setReg16_pc (r : Reg16) (v : Word) : (s.setReg16 r v).pc = s.pc := by cases r <;> rfl
@[simp] theorem State.setReg16_wz (r : Reg16) (v : Word) : (s.setReg16 r v).wz = s.wz := by cases r <;> rfl
@[simp] theorem State.setReg16_i (r : Reg16) (v : Word) : (s.setReg16 r v).i = s.i := by cases r <;> rfl
@[simp] theorem State.setReg16_r (r : Reg16) (v : Word) : (s.setReg16 r v).r = s.r := by cases r <;> rfl
@[simp] theorem State.setReg16_iff1 (r : Reg16) (v : Word) : (s.setReg16 r v).iff1 = s.iff1 := by cases r <;> rfl
@[simp] theorem State.setReg16_iff2 (r : Reg16) (v : Word) : (s.setReg16 r v).iff2 = s.iff2 := by cases r <;> rfl
@[simp] theorem State.setReg16_im (r : Reg16) (v : Word) : (s.setReg16 r v).im = s.im := by cases r <;> rfl
@[simp] theorem State.setReg16_halted (r : Reg16) (v : Word) : (s.setReg16 r v).halted = s.halted := by cases r <;> rfl
@[simp] theorem State.setReg16_iffDelay (r : Reg16) (v : Word) : (s.setReg16 r v).iffDelay = s.iffDelay := by cases r <;> rfl
@[simp] theorem State.setReg16_cyc (r : Reg16) (v : Word) : (s.setReg16 r v).cyc = s.cyc := by cases r <;> rfl
@[simp] theorem State.setReg16_intPending (r : Reg16) (v : Word) : (s.setReg16 r v).intPending = s.intPending := by cases r <;> rfl
@[simp] theorem State.setReg16_intVector (r : Reg16) (v : Word) : (s.setReg16 r v).intVector = s.intVector := by cases r <;> rfl
@[simp] theorem State.setReg16_nmiPending (r : Reg16) (v : Word) : (s.setReg16 r v).nmiPending = s.nmiPending := by cases r <;> rfl
@[simp] theorem State.setReg16_mem (r : Reg16) (v : Word) : (s.setReg16 r v).mem = s.mem := by cases r <;> rfl
@[simp] theorem State.setReg16_queue (r : Reg16) (v : Word) : (s.setReg16 r v).queue = s.queue := by cases r <;> rfl
@[simp] theorem State.setReg16_sink (r : Reg16) (v : Word) : (s.setReg16 r v).sink = s.sink := by cases r <;> rfl
@[simp] theorem State.setReg16_uses8251 (r : Reg16) (v : Word) : (s.setReg16 r v).uses8251 = s.uses8251 := by cases r <;> rfl
@[simp] theorem State.setReg16_c7Latch (r : Reg16) (v : Word) : (s.setReg16 r v).c7Latch = s.c7Latch := by cases r <;> rfl
@[simp] theorem State.setReg16_aciaCtrl (r : Reg16) (v : Word) : (s.setReg16 r v).aciaCtrl = s.aciaCtrl := by cases r <;> rfl
@[simp] theorem State.setReg16_sd (r : Reg16) (v : Word) : (s.setReg16 r v).sd = s.sd := by cases r <;> rfl
@[simp] theorem State.setReg16_files (r : Reg16) (v : Word) : (s.setReg16 r v).files = s.files := by cases r <;> rfl
@[simp] theorem State.setReg16_params (r : Reg16) (v : Word) : (s.setReg16 r v).params = s.params := by cases r <;> rfl

/-! `latch`: only WZ changes. -/
@[simp] theorem Mem8.latch_main (m : Mem8) : (m.latch s).main = s.main := by cases m <;> rfl
@[simp] theorem Loc.latch_main (l : Loc) : (l.latch s).main = s.main := by cases l <;> simp [Loc.latch]
@[simp] theorem Src.latch_main (l : Src) : (l.latch s).main = s.main := by cases l <;> simp [Src.latch]
@[simp] theorem Mem8.latch_shadow (m : Mem8) : (m.latch s).shadow = s.shadow := by cases m <;> rfl
@[simp] theorem Loc.latch_shadow (l : Loc) : (l.latch s).shadow = s.shadow := by cases l <;> simp [Loc.latch]
@[simp] theorem Src.latch_shadow (l : Src) : (l.latch s).shadow = s.shadow := by cases l <;> simp [Src.latch]
@[simp] theorem Mem8.latch_ix (m : Mem8) : (m.latch s).ix = s.ix := by cases m <;> rfl
@[simp] theorem Loc.latch_ix (l : Loc) : (l.latch s).ix = s.ix := by cases l <;> simp [Loc.latch]
@[simp] theorem Src.latch_ix (l : Src) : (l.latch s).ix = s.ix := by cases l <;> simp [Src.latch]
@[simp] theorem Mem8.latch_iy (m : Mem8) : (m.latch s).iy = s.iy := by cases m <;> rfl
@[simp] theorem Loc.latch_iy (l : Loc) : (l.latch s).iy = s.iy := by cases l <;> simp [Loc.latch]
@[simp] theorem Src.latch_iy (l : Src) : (l.latch s).iy = s.iy := by cases l <;> simp [Src.latch]
@[simp] theorem Mem8.latch_sp (m : Mem8) : (m.latch s).sp = s.sp := by cases m <;> rfl
@[simp] theorem Loc.latch_sp (l : Loc) : (l.latch s).sp = s.sp := by cases l <;> simp [Loc.latch]
@[simp] theorem Src.latch_sp (l : Src) : (l.latch s).sp = s.sp := by cases l <;> simp [Src.latch]
@[simp] theorem Mem8.latch_pc (m : Mem8) : (m.latch s).pc = s.pc := by cases m <;> rfl
@[simp] theorem Loc.latch_pc (l : Loc) : (l.latch s).pc = s.pc := by cases l <;> simp [Loc.latch]
@[simp] theorem Src.latch_pc (l : Src) : (l.latch s).pc = s.pc := by cases l <;> simp [Src.latch]
@[simp] theorem Mem8.latch_i (m : Mem8) : (m.latch s).i = s.i := by cases m <;> rfl
@[simp] theorem Loc.latch_i (l : Loc) : (l.latch s).i = s.i := by cases l <;> simp [Loc.latch]
@[simp] theorem Src.latch_i (l : Src) : (l.latch s).i = s.i := by cases l <;> simp [Src.latch]
@[simp] theorem Mem8.latch_r (m : Mem8) : (m.latch s).r = s.r := by cases m <;> rfl
@[simp] theorem Loc.latch_r (l : Loc) : (l.latch s).r = s.r := by cases l <;> simp [Loc.latch]
@[simp] theorem Src.latch_r (l : Src) : (l.latch s).r = s.r := by cases l <;> simp [Src.latch]
@[simp] theorem Mem8.latch_iff1 (m : Mem8) : (m.latch s).iff1 = s.iff1 := by cases m <;> rfl
@[simp] theorem Loc.latch_iff1 (l : Loc) : (l.latch s).iff1 = s.iff1 := by cases l <;> simp [Loc.latch]
@[simp] theorem Src.latch_iff1 (l : Src) : (l.latch s).iff1 = s.iff1 := by cases l <;> simp [Src.latch]
@[simp] theorem Mem8.latch_iff2 (m : Mem8) : (m.latch s).iff2 = s.iff2 := by cases m <;> rfl
@[simp] theorem Loc.latch_iff2 (l : Loc) : (l.latch s).iff2 = s.iff2 := by cases l <;> simp [Loc.latch]
@[simp] theorem Src.latch_iff2 (l : Src) : (l.latch s).iff2 = s.iff2 := by cases l <;> simp [Src.latch]
@[simp] theorem Mem8.latch_im (m : Mem8) : (m.latch s).im = s.im := by cases m <;> rfl
@[simp] theorem Loc.latch_im (l : Loc) : (l.latch s).im = s.im := by cases l <;> simp [Loc.latch]
@[simp] theorem Src.latch_im (l : Src) : (l.latch s).im = s.im := by cases l <;> simp [Src.latch]
@[simp] theorem Mem8.latch_halted (m : Mem8) : (m.latch s).halted = s.halted := by cases m <;> rfl
@[simp] theorem Loc.latch_halted (l : Loc) : (l.latch s).halted = s.halted := by cases l <;> simp [Loc.latch]
@[simp] theorem Src.latch_halted (l : Src) : (l.latch s).halted = s.halted := by cases l <;> simp [Src.latch]
@[simp] theorem Mem8.latch_iffDelay (m : Mem8) : (m.latch s).iffDelay = s.iffDelay := by cases m <;> rfl
@[simp] theorem Loc.latch_iffDelay (l : Loc) : (l.latch s).iffDelay = s.iffDelay := by cases l <;> simp [Loc.latch]
@[simp] theorem Src.latch_iffDelay (l : Src) : (l.latch s).iffDelay = s.iffDelay := by cases l <;> simp [Src.latch]
@[simp] theorem Mem8.latch_cyc (m : Mem8) : (m.latch s).cyc = s.cyc := by cases m <;> rfl
@[simp] theorem Loc.latch_cyc (l : Loc) : (l.latch s).cyc = s.cyc := by cases l <;> simp [Loc.latch]
@[simp] theorem Src.latch_cyc (l : Src) : (l.latch s).cyc = s.cyc := by cases l <;> simp [Src.latch]
@[simp] theorem Mem8.latch_intPending (m : Mem8) : (m.latch s).intPending = s.intPending := by cases m <;> rfl
@[simp] theorem Loc.latch_intPending (l : Loc) : (l.latch s).intPending = s.intPending := by cases l <;> simp [Loc.latch]
@[simp] theorem Src.latch_intPending (l : Src) : (l.latch s).intPending = s.intPending := by cases l <;> simp [Src.latch]
@[simp] theorem Mem8.latch_intVector (m : Mem8) : (m.latch s).intVector = s.intVector := by cases m <;> rfl
@[simp] theorem Loc.latch_intVector (l : Loc) : (l.latch s).intVector = s.intVector := by cases l <;> simp [Loc.latch]
@[simp] theorem Src.latch_intVector (l : Src) : (l.latch s).intVector = s.intVector := by cases l <;> simp [Src.latch]
@[simp] theorem Mem8.latch_nmiPending (m : Mem8) : (m.latch s).nmiPending = s.nmiPending := by cases m <;> rfl
@[simp] theorem Loc.latch_nmiPending (l : Loc) : (l.latch s).nmiPending = s.nmiPending := by cases l <;> simp [Loc.latch]
@[simp] theorem Src.latch_nmiPending (l : Src) : (l.latch s).nmiPending = s.nmiPending := by cases l <;> simp [Src.latch]
@[simp] theorem Mem8.latch_mem (m : Mem8) : (m.latch s).mem = s.mem := by cases m <;> rfl
@[simp] theorem Loc.latch_mem (l : Loc) : (l.latch s).mem = s.mem := by cases l <;> simp [Loc.latch]
@[simp] theorem Src.latch_mem (l : Src) : (l.latch s).mem = s.mem := by cases l <;> simp [Src.latch]
@[simp] theorem Mem8.latch_queue (m : Mem8) : (m.latch s).queue = s.queue := by cases m <;> rfl
@[simp] theorem Loc.latch_queue (l : Loc) : (l.latch s).queue = s.queue := by cases l <;> simp [Loc.latch]
@[simp] theorem Src.latch_queue (l : Src) : (l.latch s).queue = s.queue := by cases l <;> simp [Src.latch]
@[simp] theorem Mem8.latch_sink (m : Mem8) : (m.latch s).sink = s.sink := by cases m <;> rfl
@[simp] theorem Loc.latch_sink (l : Loc) : (l.latch s).sink = s.sink := by cases l <;> simp [Loc.latch]
@[simp] theorem Src.latch_sink (l : Src) : (l.latch s).sink = s.sink := by cases l <;> simp [Src.latch]
@[simp] theorem Mem8.latch_uses8251 (m : Mem8) : (m.latch s).uses8251 = s.uses8251 := by cases m <;> rfl
@[simp] theorem Loc.latch_uses8251 (l : Loc) : (l.latch s).uses8251 = s.uses8251 := by cases l <;> simp [Loc.latch]
@[simp] theorem Src.latch_uses8251 (l : Src) : (l.latch s).uses8251 = s.uses8251 := by cases l <;> simp [Src.latch]
@[simp] theorem Mem8.latch_c7Latch (m : Mem8) : (m.latch s).c7Latch = s.c7Latch := by cases m <;> rfl
@[simp] theorem Loc.latch_c7Latch (l : Loc) : (l.latch s).c7Latch = s.c7Latch := by cases l <;> simp [Loc.latch]
@[simp] theorem Src.latch_c7Latch (l : Src) : (l.latch s).c7Latch = s.c7Latch := by cases l <;> simp [Src.latch]
@[simp] theorem Mem8.latch_aciaCtrl (m : Mem8) : (m.latch s).aciaCtrl = s.aciaCtrl := by cases m <;> rfl
@[simp] theorem Loc.latch_aciaCtrl (l : Loc) : (l.latch s).aciaCtrl = s.aciaCtrl := by cases l <;> simp [Loc.latch]
@[simp] theorem Src.latch_aciaCtrl (l : Src) : (l.latch s).aciaCtrl = s.aciaCtrl := by cases l <;> simp [Src.latch]
@[simp] theorem Mem8.latch_sd (m : Mem8) : (m.latch s).sd = s.sd := by cases m <;> rfl
@[simp] theorem Loc.latch_sd (l : Loc) : (l.latch s).sd = s.sd := by cases l <;> simp [Loc.latch]
@[simp] theorem Src.latch_sd (l : Src) : (l.latch s).sd = s.sd := by cases l <;> simp [Src.latch]
@[simp] theorem Mem8.latch_files (m : Mem8) : (m.latch s).files = s.files := by cases m <;> rfl
@[simp] theorem Loc.latch_files (l : Loc) : (l.latch s).files = s.files := by cases l <;> simp [Loc.latch]
@[simp] theorem Src.latch_files (l : Src) : (l.latch s).files = s.files := by cases l <;> simp [Src.latch]
@[simp] theorem Mem8.latch_params (m : Mem8) : (m.latch s).params = s.params := by cases m <;> rfl
@[simp] theorem Loc.latch_params (l : Loc) : (l.latch s).params = s.params := by cases l <;> simp [Loc.latch]
@[simp] theorem Src.latch_params (l : Src) : (l.latch s).params = s.params := by cases l <;> simp [Src.latch]

/-! ## Registers read back what is written -/

/-- The bits of a pair. -/
theorem pair_getLsbD (h l : Byte) (i : Nat) :
    (pair h l).getLsbD i = if i < 8 then l.getLsbD i else h.getLsbD (i - 8) := BitVec.getLsbD_append
@[simp] theorem hi_pair (a b : Byte) : hi (pair a b) = a := by
  apply BitVec.eq_of_getLsbD_eq; intro i h; simp [hi, pair_getLsbD, h]
@[simp] theorem lo_pair (a b : Byte) : lo (pair a b) = b := by
  apply BitVec.eq_of_getLsbD_eq; intro i h; simp [lo, pair_getLsbD, h]
@[simp] theorem pair_hi_lo (w : Word) : pair (hi w) (lo w) = w := by
  apply BitVec.eq_of_getLsbD_eq; intro i h
  rw [pair_getLsbD]
  by_cases h8 : i < 8
  · simp [h8, lo]
  · have h9 : i - 8 < 8 := by omega
    have h10 : 8 + (i - 8) = i := by omega
    simp [h8, h9, hi, h10]

/-- An 8-bit register written is read back. -/
@[simp] theorem State.reg8_setReg8_same (r : Reg8) (v : Byte) : (s.setReg8 r v).reg8 r = v := by
  cases r <;> simp [State.reg8, State.setReg8]

/-- Every other 8-bit register is unchanged. -/
theorem State.reg8_setReg8_other {r q : Reg8} (h : q ≠ r) (v : Byte) : (s.setReg8 r v).reg8 q = s.reg8 q := by
  cases r <;> cases q <;> first | rfl | exact absurd rfl h | simp [State.reg8, State.setReg8]

/-- A 16-bit register written is read back. -/
@[simp] theorem State.reg16_setReg16_same (r : Reg16) (v : Word) : (s.setReg16 r v).reg16 r = v := by
  cases r <;> simp [State.reg16, State.setReg16, State.bc, State.de, State.hl, State.af]

end Sys2Proof.Machine
end

