-- ==== Sys2Proof/Laws/Memory.lean ====
section
/-! SUPPORT. Memory: every write and every load keeps the canonical form, and a read after either (20_memory.md R91, R92,
R94). -/

namespace Sys2Proof.Machine

/-! ## The list -/

@[simp] theorem Memory.find?_put_same (m : Memory) (a : Nat) (v : Byte) : Memory.find? (Memory.put m a v) a = some v := by
  induction m with
  | nil => simp [Memory.put, Memory.find?]
  | cons e rest ih =>
    obtain ⟨b, w⟩ := e
    simp only [Memory.put]
    split
    · simp [Memory.find?]
    · split
      · simp [Memory.find?]
      · rw [Memory.find?, if_neg (by omega), ih]

theorem Memory.find?_put_other (m : Memory) {a b : Nat} (v : Byte) (h : b ≠ a) :
    Memory.find? (Memory.put m a v) b = Memory.find? m b := by
  induction m with
  | nil => simp [Memory.put, Memory.find?, Ne.symm h]
  | cons e rest ih =>
    obtain ⟨c, w⟩ := e
    simp only [Memory.put]
    split
    · rw [Memory.find?, if_neg (Ne.symm h)]
    · split
      · subst_vars
        rw [Memory.find?, if_neg (Ne.symm h), Memory.find?, if_neg (Ne.symm h)]
      · simp only [Memory.find?, ih]

@[simp] theorem Memory.find?_remove_same (m : Memory) (a : Nat) : Memory.find? (Memory.remove m a) a = none := by
  induction m with
  | nil => rfl
  | cons e rest ih =>
    obtain ⟨c, w⟩ := e
    by_cases h : c = a <;> simp_all [Memory.remove, Memory.find?]

theorem Memory.find?_remove_other (m : Memory) {a b : Nat} (h : b ≠ a) :
    Memory.find? (Memory.remove m a) b = Memory.find? m b := by
  induction m with
  | nil => rfl
  | cons e rest ih =>
    obtain ⟨c, w⟩ := e
    by_cases hc : c = a
    · subst hc; simpa [Memory.remove, Memory.find?, Ne.symm h] using ih
    · simp only [Memory.remove, List.filter_cons, ne_eq, hc, not_false_eq_true, decide_true, if_true, Memory.find?] at ih ⊢
      rw [ih]

/-- The byte written is read back. -/
@[simp] theorem Memory.read_write_same (init : InitialMemory) (m : Memory) (a : Nat) (v : Byte) :
    Memory.read init (Memory.write init m a v) a = v := by
  unfold Memory.write Memory.read
  split <;> simp [*]

/-- Every other byte is unchanged. -/
theorem Memory.read_write_other (init : InitialMemory) (m : Memory) {a b : Nat} (v : Byte) (h : b ≠ a) :
    Memory.read init (Memory.write init m a v) b = Memory.read init m b := by
  unfold Memory.write Memory.read
  split
  · rw [Memory.find?_remove_other m h]
  · rw [Memory.find?_put_other m v h]

/-! ## The canonical form -/

/-- What rising addresses say of a list with an entry. -/
theorem Memory.rising_cons {low a : Nat} {v : Byte} {rest : Memory} :
    Memory.rising low ((a, v) :: rest) = true ↔ low ≤ a ∧ a < 65536 ∧ Memory.rising (a + 1) rest = true := by
  simp [Memory.rising, and_assoc]

/-- Addresses that rise from an address on do so from every address below. -/
theorem Memory.rising_mono {low low' : Nat} {m : Memory} (h : Memory.rising low m = true) (hl : low' ≤ low) :
    Memory.rising low' m = true := by
  cases m with
  | nil => rfl
  | cons e rest => rw [Memory.rising_cons] at h ⊢; exact ⟨by omega, h.2⟩

theorem Memory.rising_put {low : Nat} {m : Memory} (h : Memory.rising low m = true) {a : Nat} (hl : low ≤ a)
    (ha : a < 65536) (v : Byte) : Memory.rising low (Memory.put m a v) = true := by
  induction m generalizing low with
  | nil => exact Memory.rising_cons.mpr ⟨hl, ha, rfl⟩
  | cons e rest ih =>
    have h' := Memory.rising_cons.mp h
    simp only [Memory.put]
    split
    · exact Memory.rising_cons.mpr ⟨hl, ha, Memory.rising_cons.mpr ⟨by omega, h'.2⟩⟩
    · split
      · exact Memory.rising_cons.mpr ⟨hl, ha, by subst_vars; exact h'.2.2⟩
      · exact Memory.rising_cons.mpr ⟨h'.1, h'.2.1, ih h'.2.2 (by omega)⟩

theorem Memory.rising_remove {low : Nat} {m : Memory} (h : Memory.rising low m = true) (a : Nat) :
    Memory.rising low (Memory.remove m a) = true := by
  induction m generalizing low with
  | nil => rfl
  | cons e rest ih =>
    have h' := Memory.rising_cons.mp h
    have hr := ih h'.2.2
    by_cases hc : e.1 = a
    · have : Memory.remove (e :: rest) a = Memory.remove rest a := by simp [Memory.remove, hc]
      rw [this]; exact Memory.rising_mono hr (by omega)
    · have : Memory.remove (e :: rest) a = e :: Memory.remove rest a := by simp [Memory.remove, hc]
      rw [this]; exact Memory.rising_cons.mpr ⟨h'.1, h'.2.1, hr⟩

/-- The entries of a list after `put` are the new one and old ones. -/
theorem Memory.mem_put {m : Memory} {a : Nat} {v : Byte} {c : Host.Cell} (h : c ∈ Memory.put m a v) :
    c = (a, v) ∨ c ∈ m := by
  induction m with
  | nil => simpa [Memory.put] using h
  | cons e rest ih =>
    simp only [Memory.put] at h
    split at h
    · simpa using h
    · split at h <;> rcases List.mem_cons.mp h with rfl | h
      · exact .inl rfl
      · exact .inr (List.mem_cons_of_mem _ h)
      · exact .inr (List.mem_cons_self ..)
      · exact (ih h).imp id (List.mem_cons_of_mem _)

/-- The entries of a list after `remove` are the old ones at other addresses. -/
theorem Memory.mem_remove {m : Memory} {a : Nat} {c : Host.Cell} : c ∈ Memory.remove m a ↔ c ∈ m ∧ c.1 ≠ a := by
  simp [Memory.remove]

/-- What the canonical form says. -/
theorem Memory.wf_iff {init : InitialMemory} {m : Memory} :
    Memory.wf init m = true ↔ Memory.rising 0 m = true ∧ ∀ c ∈ m, c.2 ≠ Memory.unlisted init c.1 := by
  simp [Memory.wf]

/-- The empty memory is in canonical form. -/
theorem Memory.wf_nil (init : InitialMemory) : Memory.wf init [] = true := rfl

/-- A write keeps the canonical form. -/
theorem Memory.wf_write {init : InitialMemory} {m : Memory} (h : Memory.wf init m = true) {a : Nat} (ha : a < 65536)
    (v : Byte) : Memory.wf init (Memory.write init m a v) = true := by
  rw [Memory.wf_iff] at h ⊢
  unfold Memory.write
  split
  · exact ⟨Memory.rising_remove h.1 a, fun c hc => h.2 c (Memory.mem_remove.mp hc).1⟩
  · refine ⟨Memory.rising_put h.1 (Nat.zero_le _) ha v, fun c hc => ?_⟩
    rcases Memory.mem_put hc with rfl | hc
    · assumption
    · exact h.2 c hc

/-! ## The initial memory -/

/-- What the canonical form of the initial memory says. -/
theorem Memory.initialWf_iff {init : InitialMemory} :
    Memory.initialWf init = true ↔ Memory.rising 0 init.listed = true ∧ ∀ c ∈ init.listed, init.rest ≠ some c.2 := by
  simp [Memory.initialWf]

/-- A byte placed reads as itself. -/
@[simp] theorem Memory.unlisted_place_same (init : InitialMemory) (a : Nat) (v : Byte) :
    Memory.unlisted (Memory.place init a v) a = v := by
  unfold Memory.place Memory.unlisted
  by_cases h : init.rest = some v <;> simp [h]

/-- Every other byte of the initial memory is unchanged. -/
theorem Memory.unlisted_place_other (init : InitialMemory) {a b : Nat} (v : Byte) (h : b ≠ a) :
    Memory.unlisted (Memory.place init a v) b = Memory.unlisted init b := by
  unfold Memory.place Memory.unlisted
  by_cases hr : init.rest = some v <;> simp [hr, Memory.find?_remove_other _ h, Memory.find?_put_other _ _ h]

/-- Placing a byte keeps the canonical form of the initial memory. -/
theorem Memory.initialWf_place {init : InitialMemory} (h : Memory.initialWf init = true) {a : Nat} (ha : a < 65536)
    (v : Byte) : Memory.initialWf (Memory.place init a v) = true := by
  rw [Memory.initialWf_iff] at h ⊢
  by_cases hr : init.rest = some v <;> simp only [Memory.place, hr, if_true, if_false]
  · exact ⟨Memory.rising_remove h.1 a, fun c hc => hr ▸ h.2 c (Memory.mem_remove.mp hc).1⟩
  · refine ⟨Memory.rising_put h.1 (Nat.zero_le _) ha v, fun c hc => ?_⟩
    rcases Memory.mem_put hc with rfl | hc
    · exact hr
    · exact h.2 c hc

/-- Placing bytes keeps it. -/
theorem Memory.initialWf_placeAll {init : InitialMemory} (h : Memory.initialWf init = true) (a : Nat) (bs : List Byte) :
    Memory.initialWf (Memory.placeAll init a bs) = true := by
  induction bs generalizing init a with
  | nil => exact h
  | cons b bs ih =>
    simp only [Memory.placeAll]
    split
    · exact ih (Memory.initialWf_place h ‹_› b) _
    · exact h

/-! ## The state -/

/-- `writeMem` as an update of the memory alone. -/
theorem State.writeMem_eq (s : State) (a : Word) (v : Byte) :
    s.writeMem a v =
      { s with mem := if a.toNat < s.params.romCeiling.val then s.mem
                      else Memory.write s.params.initial s.mem a.toNat v } := by
  by_cases h : a.toNat < s.params.romCeiling.val <;> simp [State.writeMem, State.inRom, h]

/-- A read depends on the memory and the parameters alone. -/
theorem State.readMem_congr {s t : State} (h : t.mem = s.mem) (hp : t.params = s.params) (a : Word) :
    t.readMem a = s.readMem a := by
  simp [State.readMem, h, hp]

/-- `loadByte` keeps the canonical form of memory. -/
theorem State.loadByte_wf {s : State} (h : Memory.wf s.params.initial s.mem = true) (a : Word) (v : Byte) :
    Memory.wf (s.loadByte a v).params.initial (s.loadByte a v).mem = true := by
  rw [Memory.wf_iff] at h ⊢
  refine ⟨Memory.rising_remove h.1 _, fun c hc => ?_⟩
  have hc' := Memory.mem_remove.mp hc
  rw [State.loadByte_params, Memory.unlisted_place_other _ _ hc'.2]
  exact h.2 c hc'.1

/-- `loadByte` keeps the canonical form of the initial memory. -/
theorem State.loadByte_initialWf {s : State} (h : Memory.initialWf s.params.initial = true) (a : Word) (v : Byte) :
    Memory.initialWf (s.loadByte a v).params.initial = true := Memory.initialWf_place h a.isLt v

/-- A load leaves memory and the initial memory in canonical form. -/
theorem hostLoad_wf (s : State) (l : Load) :
    Memory.wf (hostLoad s l).params.initial (hostLoad s l).mem = true ∧
      Memory.initialWf (hostLoad s l).params.initial = true :=
  ⟨rfl, Memory.initialWf_placeAll rfl _ _⟩

/-- `writeMem` keeps the canonical form. -/
theorem State.writeMem_wf {s : State} (h : Memory.wf s.params.initial s.mem = true) (a : Word) (v : Byte) :
    Memory.wf s.params.initial (s.writeMem a v).mem = true := by
  unfold State.writeMem
  split
  · exact h
  · exact Memory.wf_write h a.isLt v

/-- `writeMem16` keeps the canonical form. -/
theorem State.writeMem16_wf {s : State} (h : Memory.wf s.params.initial s.mem = true) (a v : Word) :
    Memory.wf s.params.initial (s.writeMem16 a v).mem = true := by
  have h1 := State.writeMem_wf h a (lo v)
  have h2 := State.writeMem_wf (s := s.writeMem a (lo v)) (by simpa using h1) (a + 1) (hi v)
  simpa [State.writeMem16] using h2

/-- Reset's memory is in canonical form. -/
theorem State.reset_mem_wf : Memory.wf State.reset.params.initial State.reset.mem = true := rfl

/-- A byte loaded is read back. -/
theorem State.readMem_loadByte_same (s : State) (a : Word) (v : Byte) : (s.loadByte a v).readMem a = v := by
  simp [State.readMem, Memory.read]

/-- Every byte but the one loaded reads as before. -/
theorem State.readMem_loadByte_other (s : State) {a b : Word} (h : b ≠ a) (v : Byte) :
    (s.loadByte a v).readMem b = s.readMem b := by
  have hn : b.toNat ≠ a.toNat := fun hn => h (BitVec.eq_of_toNat_eq hn)
  simp [State.readMem, Memory.read, Memory.find?_remove_other _ hn, Memory.unlisted_place_other _ _ hn]

/-- A write above the ceiling is read back. -/
theorem State.readMem_writeMem_same {s : State} {a : Word} (ha : s.inRom a = false) (v : Byte) :
    (s.writeMem a v).readMem a = v := by
  simp only [State.writeMem, ha, Bool.false_eq_true, if_false]
  exact Memory.read_write_same _ _ _ _

/-- Every byte but the one written reads as before. -/
theorem State.readMem_writeMem_other (s : State) {a b : Word} (h : b ≠ a) (v : Byte) :
    (s.writeMem a v).readMem b = s.readMem b := by
  unfold State.writeMem
  split
  · rfl
  · exact Memory.read_write_other _ _ _ (fun hn => h (BitVec.eq_of_toNat_eq hn))

/-- A write below the ceiling changes nothing. -/
theorem State.writeMem_rom (s : State) {a : Word} (h : s.inRom a = true) (v : Byte) : s.writeMem a v = s := by
  simp [State.writeMem, h]

/-- A byte below the ceiling survives every write. -/
theorem State.readMem_writeMem_rom (s : State) {b : Word} (h : s.inRom b = true) (a : Word) (v : Byte) :
    (s.writeMem a v).readMem b = s.readMem b := by
  by_cases hab : b = a
  · subst hab; rw [State.writeMem_rom s h]
  · exact State.readMem_writeMem_other s hab v

/-- `writeMem16` leaves every byte but its two as before. -/
theorem State.readMem_writeMem16_other (s : State) {a b : Word} (h : b ≠ a) (h' : b ≠ a + 1) (v : Word) :
    (s.writeMem16 a v).readMem b = s.readMem b := by
  rw [State.writeMem16, State.readMem_writeMem_other _ h', State.readMem_writeMem_other _ h]

end Sys2Proof.Machine
end

