-- ==== Sys2Proof/Laws/Ops.lean ====
section
/-!
SUPPORT. What the shared operations do, once each: where a write to memory and an update of the registers commute, what an
update leaves for a read, the stack, the acceptances, and the devices.
-/

namespace Sys2Proof.Machine

variable (s : State)

/-! ## Memory and registers -/

theorem State.writeMem_setPc (x : Word) (a : Word) (v : Byte) :
    (s.setPc x).writeMem a v = (s.writeMem a v).setPc x := by
  simp only [State.writeMem_eq]; rfl
theorem State.writeMem_setSp (x : Word) (a : Word) (v : Byte) :
    (s.setSp x).writeMem a v = (s.writeMem a v).setSp x := by
  simp only [State.writeMem_eq]; rfl
theorem State.writeMem_setWz (x : Word) (a : Word) (v : Byte) :
    (s.setWz x).writeMem a v = (s.writeMem a v).setWz x := by
  simp only [State.writeMem_eq]; rfl
theorem State.writeMem_setA (x : Byte) (a : Word) (v : Byte) :
    (s.setA x).writeMem a v = (s.writeMem a v).setA x := by
  simp only [State.writeMem_eq]; rfl
theorem State.writeMem_setF (x : Byte) (a : Word) (v : Byte) :
    (s.setF x).writeMem a v = (s.writeMem a v).setF x := by
  simp only [State.writeMem_eq]; rfl
theorem State.writeMem_setB (x : Byte) (a : Word) (v : Byte) :
    (s.setB x).writeMem a v = (s.writeMem a v).setB x := by
  simp only [State.writeMem_eq]; rfl
theorem State.writeMem_setBc (x : Word) (a : Word) (v : Byte) :
    (s.setBc x).writeMem a v = (s.writeMem a v).setBc x := by
  simp only [State.writeMem_eq]; rfl
theorem State.writeMem_setDe (x : Word) (a : Word) (v : Byte) :
    (s.setDe x).writeMem a v = (s.writeMem a v).setDe x := by
  simp only [State.writeMem_eq]; rfl
theorem State.writeMem_setHl (x : Word) (a : Word) (v : Byte) :
    (s.setHl x).writeMem a v = (s.writeMem a v).setHl x := by
  simp only [State.writeMem_eq]; rfl
theorem State.writeMem_setAf (x : Word) (a : Word) (v : Byte) :
    (s.setAf x).writeMem a v = (s.writeMem a v).setAf x := by
  simp only [State.writeMem_eq]; rfl
theorem State.writeMem_setIff (p q : Bool) (a : Word) (v : Byte) :
    (s.setIff p q).writeMem a v = (s.writeMem a v).setIff p q := by
  simp only [State.writeMem_eq]; rfl
theorem State.writeMem_addCyc (t : Nat) (a : Word) (v : Byte) :
    (s.addCyc t).writeMem a v = (s.writeMem a v).addCyc t := by
  simp only [State.writeMem_eq]; rfl
theorem State.writeMem_fetched (len m1 t : Nat) (a : Word) (v : Byte) :
    (s.fetched len m1 t).writeMem a v = (s.writeMem a v).fetched len m1 t := by
  simp only [State.writeMem_eq]; rfl

@[simp] theorem State.setPc_readMem (x : Word) (a : Word) : (s.setPc x).readMem a = s.readMem a := rfl
@[simp] theorem State.setSp_readMem (x : Word) (a : Word) : (s.setSp x).readMem a = s.readMem a := rfl
@[simp] theorem State.setWz_readMem (x : Word) (a : Word) : (s.setWz x).readMem a = s.readMem a := rfl
@[simp] theorem State.setA_readMem (x : Byte) (a : Word) : (s.setA x).readMem a = s.readMem a := rfl
@[simp] theorem State.setF_readMem (x : Byte) (a : Word) : (s.setF x).readMem a = s.readMem a := rfl
@[simp] theorem State.setB_readMem (x : Byte) (a : Word) : (s.setB x).readMem a = s.readMem a := rfl
@[simp] theorem State.setBc_readMem (x : Word) (a : Word) : (s.setBc x).readMem a = s.readMem a := rfl
@[simp] theorem State.setDe_readMem (x : Word) (a : Word) : (s.setDe x).readMem a = s.readMem a := rfl
@[simp] theorem State.setHl_readMem (x : Word) (a : Word) : (s.setHl x).readMem a = s.readMem a := rfl
@[simp] theorem State.setAf_readMem (x : Word) (a : Word) : (s.setAf x).readMem a = s.readMem a := rfl
@[simp] theorem State.setIff_readMem (p q : Bool) (a : Word) : (s.setIff p q).readMem a = s.readMem a := rfl
@[simp] theorem State.addCyc_readMem (t : Nat) (a : Word) : (s.addCyc t).readMem a = s.readMem a := rfl
@[simp] theorem State.fetched_readMem (len m1 t : Nat) (a : Word) : (s.fetched len m1 t).readMem a = s.readMem a := rfl
@[simp] theorem State.skipPrefix_readMem (a : Word) : s.skipPrefix.readMem a = s.readMem a := rfl
@[simp] theorem State.setReg8_readMem (r : Reg8) (v : Byte) (a : Word) : (s.setReg8 r v).readMem a = s.readMem a := by
  cases r <;> rfl
@[simp] theorem State.setReg16_readMem (r : Reg16) (v a : Word) : (s.setReg16 r v).readMem a = s.readMem a := by
  cases r <;> rfl
@[simp] theorem Mem8.latch_readMem (m : Mem8) (a : Word) : (m.latch s).readMem a = s.readMem a := by cases m <;> rfl
@[simp] theorem Loc.latch_readMem (l : Loc) (a : Word) : (l.latch s).readMem a = s.readMem a := by
  cases l with
  | reg r => rfl
  | mem m => exact Mem8.latch_readMem s m a
@[simp] theorem Src.latch_readMem (l : Src) (a : Word) : (l.latch s).readMem a = s.readMem a := by
  cases l with
  | loc l => exact Loc.latch_readMem s l a
  | imm n => rfl

/-! ## The stack (20_memory.md R97) -/

theorem word_sub_one_sub_one (w : Word) : w - 1 - 1 = w - 2 := by bv_omega

/-- The two bytes a push stores, and SP. -/
theorem State.push16_eq (v : Word) :
    s.push16 v = ((s.writeMem (s.sp - 1) (hi v)).writeMem (s.sp - 2) (lo v)).setSp (s.sp - 2) := by
  simp only [State.push16, State.writeMem_setSp, State.setSp_sp, word_sub_one_sub_one]
  rfl

/-- `push16` keeps the canonical form. -/
theorem State.push16_wf (h : Memory.wf s.params.initial s.mem = true) (v : Word) :
    Memory.wf s.params.initial (s.push16 v).mem = true := by
  have h1 := State.writeMem_wf h (s.sp - 1) (hi v)
  have h2 := State.writeMem_wf (s := s.writeMem (s.sp - 1) (hi v)) (by simpa using h1) (s.sp - 2) (lo v)
  rw [State.push16_eq, State.setSp_mem]
  simpa using h2

/-- A push leaves every byte but its two as before. -/
theorem State.readMem_push16_other {b : Word} (h1 : b ≠ s.sp - 1) (h2 : b ≠ s.sp - 2) (v : Word) :
    (s.push16 v).readMem b = s.readMem b := by
  rw [State.push16_eq, State.setSp_readMem, State.readMem_writeMem_other _ h2, State.readMem_writeMem_other _ h1]

/-- What a push stored is popped. -/
theorem State.top16_push16 (h1 : s.inRom (s.sp - 1) = false)
    (h2 : s.inRom (s.sp - 2) = false) (v : Word) : (s.push16 v).top16 = v := by
  have hne : s.sp - 1 ≠ s.sp - 2 := by bv_omega
  have hsp : s.sp - 2 + 1 = s.sp - 1 := by bv_omega
  rw [State.top16, State.push16_sp, State.push16_eq, State.setSp_readMem, State.setSp_readMem, hsp,
    State.readMem_writeMem_other _ hne, State.readMem_writeMem_same h1,
    State.readMem_writeMem_same (by simpa [State.inRom] using h2), pair_hi_lo]

/-- What entering a handler or a subroutine does. -/
theorem State.enterAt_eq (target : Word) :
    s.enterAt target =
      ((((s.writeMem (s.sp - 1) (hi s.pc)).writeMem (s.sp - 2) (lo s.pc)).setSp (s.sp - 2)).setPc target).setWz target := by
  rw [State.enterAt, State.push16_eq]

/-! ## Interrupts (60_exceptions.md R503 to R508) -/

/-- The boundary takes an NMI, takes a maskable request, refuses mode 0's unknown byte, or does nothing. -/
theorem State.boundary_cases :
    (s.nmiPending = true ∧ s.boundary = .next s.acceptNmi) ∨
    (s.nmiPending = false ∧ s.intPending = true ∧ s.iff1 = true ∧ s.iffDelay = 0 ∧ s.boundary = s.acceptInt) ∨
    (s.boundary = .next s) := by
  unfold State.boundary
  by_cases h1 : s.nmiPending = true
  · exact .inl ⟨h1, by simp [h1]⟩
  · by_cases h2 : (s.intPending && s.iff1 && s.iffDelay == 0) = true
    · have h3 := h2
      simp only [Bool.and_eq_true, beq_iff_eq] at h3
      exact .inr (.inl ⟨by simpa using h1, h3.1.1, h3.1.2, h3.2, by simp [h1, h2]⟩)
    · exact .inr (.inr (by simp [h1, h2]))

/-! ## Fields of an opcode byte -/

/-- A property of the eight values of a field. -/
theorem forall_field3 {P : BitVec 3 → Prop} (h0 : P 0) (h1 : P 1) (h2 : P 2) (h3 : P 3) (h4 : P 4) (h5 : P 5) (h6 : P 6)
    (h7 : P 7) (y : BitVec 3) : P y := by
  have h : y = 0 ∨ y = 1 ∨ y = 2 ∨ y = 3 ∨ y = 4 ∨ y = 5 ∨ y = 6 ∨ y = 7 := by revert y; decide
  rcases h with rfl | rfl | rfl | rfl | rfl | rfl | rfl | rfl <;> assumption

/-- A property of the four values of a field. -/
theorem forall_field2 {P : BitVec 2 → Prop} (h0 : P 0) (h1 : P 1) (h2 : P 2) (h3 : P 3) (p : BitVec 2) : P p := by
  have h : p = 0 ∨ p = 1 ∨ p = 2 ∨ p = 3 := by revert p; decide
  rcases h with rfl | rfl | rfl | rfl <;> assumption

/-! ## The decoder on one to four bytes: rewrite with these before evaluating, so that no operand stands where the grid is
looked up -/

theorem instrOf_one (b0 : Byte) : instrOf [b0] = (decodeWindow b0 0 0 0).1 := rfl
theorem instrOf_two (b0 b1 : Byte) : instrOf [b0, b1] = (decodeWindow b0 b1 0 0).1 := rfl
theorem instrOf_three (b0 b1 b2 : Byte) : instrOf [b0, b1, b2] = (decodeWindow b0 b1 b2 0).1 := rfl
theorem instrOf_four (b0 b1 b2 b3 : Byte) : instrOf [b0, b1, b2, b3] = (decodeWindow b0 b1 b2 b3).1 := rfl

end Sys2Proof.Machine
end

