-- ==== Sys2Proof/Laws/Plan.lean ====
section
/-!
SUPPORT. Every instruction as data: the bytes, opcode fetches and T-states of its fetch, and the shared operation its meaning
applies after it. `exec_eq_plan` says once for all instructions what `exec` does; a fact about every instruction is then
proved by cases over the shared operations, not over the constructors of `Instr`.
-/

namespace Sys2Proof.Machine

/-- The shared operations of the families, with their operands. -/
inductive Act where
  | nop | halt | di | ei
  | setIm (m : IntMode)
  | ld8 (dst : Loc) (src : Src)
  | loadA (m : Mem8)
  | storeA (m : Mem8)
  | ldAI | ldAR | ldIA | ldRA
  | ld16 (r : Reg16) (nn : Word)
  | store16 (nn : Word) (r : Reg16)
  | load16 (r : Reg16) (nn : Word)
  | ldSp (r : Reg16)
  | push (r : Reg16)
  | pop (r : Reg16)
  | exDeHl
  | exSp (r : Reg16)
  | exAf | exx
  | alu (op : AluOp) (src : Src)
  | incLoc (m : Loc)
  | decLoc (m : Loc)
  | daa | cpl | neg | scf | ccf
  | add16 (dst src : Reg16)
  | adc16 (src : Reg16)
  | sbc16 (src : Reg16)
  | inc16 (r : Reg16)
  | dec16 (r : Reg16)
  | rotA (op : RotOp)
  | rot (op : RotOp) (m : Loc)
  | rotIndexed (op : RotOp) (xy : XY) (d : Byte) (copy : Option Reg8)
  | rld | rrd
  | bitReg (b : BitVec 3) (r : Reg8)
  | bitMem (b : BitVec 3) (m : Mem8)
  | resLoc (b : BitVec 3) (m : Loc)
  | setLoc (b : BitVec 3) (m : Loc)
  | resIndexed (b : BitVec 3) (xy : XY) (d : Byte) (copy : Option Reg8)
  | setIndexed (b : BitVec 3) (xy : XY) (d : Byte) (copy : Option Reg8)
  | jp (nn : Word)
  | jpIf (cc : Cond) (nn : Word)
  | jpReg (r : Reg16)
  | jr (e : Byte)
  | jrIf (cc : Cond) (e : Byte)
  | djnz (e : Byte)
  | call (nn : Word)
  | callIf (cc : Cond) (nn : Word)
  | ret
  | retIf (cc : Cond)
  | reti | retn
  | rst (p : Word)
  | blockLoad (dir : Dir)
  | blockLoadRepeat (dir : Dir)
  | blockCompare (dir : Dir)
  | blockCompareRepeat (dir : Dir)
  | blockIn (dir : Dir)
  | blockInRepeat (dir : Dir)
  | blockOut (dir : Dir)
  | blockOutRepeat (dir : Dir)
  | inA (n : Byte)
  | outA (n : Byte)
  | inC (dst : Option Reg8)
  | outReg (r : Reg8)
  | outZero

/-- What a shared operation does. -/
def Act.run (act : Act) (s : State) : State :=
  match act with
  | .nop => s
  | .halt => Sys2Proof.Machine.halt s
  | .di => Sys2Proof.Machine.di s
  | .ei => Sys2Proof.Machine.ei s
  | .setIm m => Sys2Proof.Machine.setIm m s
  | .ld8 dst src => Sys2Proof.Machine.ld8 dst src s
  | .loadA m => Sys2Proof.Machine.loadA m s
  | .storeA m => Sys2Proof.Machine.storeA m s
  | .ldAI => Sys2Proof.Machine.ldAI s
  | .ldAR => Sys2Proof.Machine.ldAR s
  | .ldIA => Sys2Proof.Machine.ldIA s
  | .ldRA => Sys2Proof.Machine.ldRA s
  | .ld16 r nn => Sys2Proof.Machine.ld16 r nn s
  | .store16 nn r => Sys2Proof.Machine.store16 nn r s
  | .load16 r nn => Sys2Proof.Machine.load16 r nn s
  | .ldSp r => Sys2Proof.Machine.ldSp r s
  | .push r => Sys2Proof.Machine.push r s
  | .pop r => Sys2Proof.Machine.pop r s
  | .exDeHl => Sys2Proof.Machine.exDeHl s
  | .exSp r => Sys2Proof.Machine.exSp r s
  | .exAf => Sys2Proof.Machine.exAf s
  | .exx => Sys2Proof.Machine.exx s
  | .alu op src => Sys2Proof.Machine.alu op src s
  | .incLoc m => Sys2Proof.Machine.incLoc m s
  | .decLoc m => Sys2Proof.Machine.decLoc m s
  | .daa => Sys2Proof.Machine.daa s
  | .cpl => Sys2Proof.Machine.cpl s
  | .neg => Sys2Proof.Machine.neg s
  | .scf => Sys2Proof.Machine.scf s
  | .ccf => Sys2Proof.Machine.ccf s
  | .add16 dst src => Sys2Proof.Machine.add16 dst src s
  | .adc16 src => Sys2Proof.Machine.adc16 src s
  | .sbc16 src => Sys2Proof.Machine.sbc16 src s
  | .inc16 r => Sys2Proof.Machine.inc16 r s
  | .dec16 r => Sys2Proof.Machine.dec16 r s
  | .rotA op => Sys2Proof.Machine.rotA op s
  | .rot op m => Sys2Proof.Machine.rot op m s
  | .rotIndexed op xy d copy => Sys2Proof.Machine.rotIndexed op xy d copy s
  | .rld => Sys2Proof.Machine.rld s
  | .rrd => Sys2Proof.Machine.rrd s
  | .bitReg b r => Sys2Proof.Machine.bitReg b r s
  | .bitMem b m => Sys2Proof.Machine.bitMem b m s
  | .resLoc b m => Sys2Proof.Machine.resLoc b m s
  | .setLoc b m => Sys2Proof.Machine.setLoc b m s
  | .resIndexed b xy d copy => Sys2Proof.Machine.resIndexed b xy d copy s
  | .setIndexed b xy d copy => Sys2Proof.Machine.setIndexed b xy d copy s
  | .jp nn => Sys2Proof.Machine.jp nn s
  | .jpIf cc nn => Sys2Proof.Machine.jpIf cc nn s
  | .jpReg r => Sys2Proof.Machine.jpReg r s
  | .jr e => Sys2Proof.Machine.jr e s
  | .jrIf cc e => Sys2Proof.Machine.jrIf cc e s
  | .djnz e => Sys2Proof.Machine.djnz e s
  | .call nn => Sys2Proof.Machine.call nn s
  | .callIf cc nn => Sys2Proof.Machine.callIf cc nn s
  | .ret => Sys2Proof.Machine.ret s
  | .retIf cc => Sys2Proof.Machine.retIf cc s
  | .reti => Sys2Proof.Machine.reti s
  | .retn => Sys2Proof.Machine.retn s
  | .rst p => Sys2Proof.Machine.rst p s
  | .blockLoad dir => Sys2Proof.Machine.blockLoad dir s
  | .blockLoadRepeat dir => Sys2Proof.Machine.blockLoadRepeat dir s
  | .blockCompare dir => Sys2Proof.Machine.blockCompare dir s
  | .blockCompareRepeat dir => Sys2Proof.Machine.blockCompareRepeat dir s
  | .blockIn dir => Sys2Proof.Machine.blockIn dir s
  | .blockInRepeat dir => Sys2Proof.Machine.blockInRepeat dir s
  | .blockOut dir => Sys2Proof.Machine.blockOut dir s
  | .blockOutRepeat dir => Sys2Proof.Machine.blockOutRepeat dir s
  | .inA n => Sys2Proof.Machine.inA n s
  | .outA n => Sys2Proof.Machine.outA n s
  | .inC dst => Sys2Proof.Machine.inC dst s
  | .outReg r => Sys2Proof.Machine.outC (s.reg8 r) s
  | .outZero => Sys2Proof.Machine.outC 0 s

/-- An instruction as data: whether an ignored DD or FD goes before it, its fetch, and its operation. -/
structure Plan where
  skip : Bool
  len  : Nat
  m1   : Nat
  t    : Nat
  act  : Act

/-- What a plan does. -/
def Plan.run (p : Plan) (s : State) : State :=
  p.act.run ((bif p.skip then s.skipPrefix else s).fetched p.len p.m1 p.t)

/-- The plan of every instruction. -/
def instrPlan : Instr → Plan
  | .nop => ⟨false, 1, 1, 4, .nop⟩
  | .ld_BC_nn nn => ⟨false, 3, 1, 10, .ld16 .bc nn⟩
  | .ld_mBC_A => ⟨false, 1, 1, 7, .storeA .bc⟩
  | .inc_BC => ⟨false, 1, 1, 6, .inc16 .bc⟩
  | .inc_B => ⟨false, 1, 1, 4, .incLoc (.reg .b)⟩
  | .dec_B => ⟨false, 1, 1, 4, .decLoc (.reg .b)⟩
  | .ld_B_n n => ⟨false, 2, 1, 7, .ld8 (.reg .b) (.imm n)⟩
  | .rlca => ⟨false, 1, 1, 4, .rotA .rlc⟩
  | .ex_AF_AF => ⟨false, 1, 1, 4, .exAf⟩
  | .add_HL_BC => ⟨false, 1, 1, 11, .add16 .hl .bc⟩
  | .ld_A_mBC => ⟨false, 1, 1, 7, .loadA .bc⟩
  | .dec_BC => ⟨false, 1, 1, 6, .dec16 .bc⟩
  | .inc_C => ⟨false, 1, 1, 4, .incLoc (.reg .c)⟩
  | .dec_C => ⟨false, 1, 1, 4, .decLoc (.reg .c)⟩
  | .ld_C_n n => ⟨false, 2, 1, 7, .ld8 (.reg .c) (.imm n)⟩
  | .rrca => ⟨false, 1, 1, 4, .rotA .rrc⟩
  | .djnz_e e => ⟨false, 2, 1, 8, .djnz e⟩
  | .ld_DE_nn nn => ⟨false, 3, 1, 10, .ld16 .de nn⟩
  | .ld_mDE_A => ⟨false, 1, 1, 7, .storeA .de⟩
  | .inc_DE => ⟨false, 1, 1, 6, .inc16 .de⟩
  | .inc_D => ⟨false, 1, 1, 4, .incLoc (.reg .d)⟩
  | .dec_D => ⟨false, 1, 1, 4, .decLoc (.reg .d)⟩
  | .ld_D_n n => ⟨false, 2, 1, 7, .ld8 (.reg .d) (.imm n)⟩
  | .rla => ⟨false, 1, 1, 4, .rotA .rl⟩
  | .jr_e e => ⟨false, 2, 1, 12, .jr e⟩
  | .add_HL_DE => ⟨false, 1, 1, 11, .add16 .hl .de⟩
  | .ld_A_mDE => ⟨false, 1, 1, 7, .loadA .de⟩
  | .dec_DE => ⟨false, 1, 1, 6, .dec16 .de⟩
  | .inc_E => ⟨false, 1, 1, 4, .incLoc (.reg .e)⟩
  | .dec_E => ⟨false, 1, 1, 4, .decLoc (.reg .e)⟩
  | .ld_E_n n => ⟨false, 2, 1, 7, .ld8 (.reg .e) (.imm n)⟩
  | .rra => ⟨false, 1, 1, 4, .rotA .rr⟩
  | .jr_NZ_e e => ⟨false, 2, 1, 7, .jrIf .nz e⟩
  | .ld_HL_nn nn => ⟨false, 3, 1, 10, .ld16 .hl nn⟩
  | .ld_mnn_HL nn => ⟨false, 3, 1, 16, .store16 nn .hl⟩
  | .inc_HL => ⟨false, 1, 1, 6, .inc16 .hl⟩
  | .inc_H => ⟨false, 1, 1, 4, .incLoc (.reg .h)⟩
  | .dec_H => ⟨false, 1, 1, 4, .decLoc (.reg .h)⟩
  | .ld_H_n n => ⟨false, 2, 1, 7, .ld8 (.reg .h) (.imm n)⟩
  | .daa => ⟨false, 1, 1, 4, .daa⟩
  | .jr_Z_e e => ⟨false, 2, 1, 7, .jrIf .z e⟩
  | .add_HL_HL => ⟨false, 1, 1, 11, .add16 .hl .hl⟩
  | .ld_HL_mnn nn => ⟨false, 3, 1, 16, .load16 .hl nn⟩
  | .dec_HL => ⟨false, 1, 1, 6, .dec16 .hl⟩
  | .inc_L => ⟨false, 1, 1, 4, .incLoc (.reg .l)⟩
  | .dec_L => ⟨false, 1, 1, 4, .decLoc (.reg .l)⟩
  | .ld_L_n n => ⟨false, 2, 1, 7, .ld8 (.reg .l) (.imm n)⟩
  | .cpl => ⟨false, 1, 1, 4, .cpl⟩
  | .jr_NC_e e => ⟨false, 2, 1, 7, .jrIf .nc e⟩
  | .ld_SP_nn nn => ⟨false, 3, 1, 10, .ld16 .sp nn⟩
  | .ld_mnn_A nn => ⟨false, 3, 1, 13, .storeA (.abs nn)⟩
  | .inc_SP => ⟨false, 1, 1, 6, .inc16 .sp⟩
  | .inc_mHL => ⟨false, 1, 1, 11, .incLoc (.mem .hl)⟩
  | .dec_mHL => ⟨false, 1, 1, 11, .decLoc (.mem .hl)⟩
  | .ld_mHL_n n => ⟨false, 2, 1, 10, .ld8 (.mem .hl) (.imm n)⟩
  | .scf => ⟨false, 1, 1, 4, .scf⟩
  | .jr_C_e e => ⟨false, 2, 1, 7, .jrIf .c e⟩
  | .add_HL_SP => ⟨false, 1, 1, 11, .add16 .hl .sp⟩
  | .ld_A_mnn nn => ⟨false, 3, 1, 13, .loadA (.abs nn)⟩
  | .dec_SP => ⟨false, 1, 1, 6, .dec16 .sp⟩
  | .inc_A => ⟨false, 1, 1, 4, .incLoc (.reg .a)⟩
  | .dec_A => ⟨false, 1, 1, 4, .decLoc (.reg .a)⟩
  | .ld_A_n n => ⟨false, 2, 1, 7, .ld8 (.reg .a) (.imm n)⟩
  | .ccf => ⟨false, 1, 1, 4, .ccf⟩
  | .ld_B_B => ⟨false, 1, 1, 4, .ld8 (.reg .b) (.loc (.reg .b))⟩
  | .ld_B_C => ⟨false, 1, 1, 4, .ld8 (.reg .b) (.loc (.reg .c))⟩
  | .ld_B_D => ⟨false, 1, 1, 4, .ld8 (.reg .b) (.loc (.reg .d))⟩
  | .ld_B_E => ⟨false, 1, 1, 4, .ld8 (.reg .b) (.loc (.reg .e))⟩
  | .ld_B_H => ⟨false, 1, 1, 4, .ld8 (.reg .b) (.loc (.reg .h))⟩
  | .ld_B_L => ⟨false, 1, 1, 4, .ld8 (.reg .b) (.loc (.reg .l))⟩
  | .ld_B_mHL => ⟨false, 1, 1, 7, .ld8 (.reg .b) (.loc (.mem .hl))⟩
  | .ld_B_A => ⟨false, 1, 1, 4, .ld8 (.reg .b) (.loc (.reg .a))⟩
  | .ld_C_B => ⟨false, 1, 1, 4, .ld8 (.reg .c) (.loc (.reg .b))⟩
  | .ld_C_C => ⟨false, 1, 1, 4, .ld8 (.reg .c) (.loc (.reg .c))⟩
  | .ld_C_D => ⟨false, 1, 1, 4, .ld8 (.reg .c) (.loc (.reg .d))⟩
  | .ld_C_E => ⟨false, 1, 1, 4, .ld8 (.reg .c) (.loc (.reg .e))⟩
  | .ld_C_H => ⟨false, 1, 1, 4, .ld8 (.reg .c) (.loc (.reg .h))⟩
  | .ld_C_L => ⟨false, 1, 1, 4, .ld8 (.reg .c) (.loc (.reg .l))⟩
  | .ld_C_mHL => ⟨false, 1, 1, 7, .ld8 (.reg .c) (.loc (.mem .hl))⟩
  | .ld_C_A => ⟨false, 1, 1, 4, .ld8 (.reg .c) (.loc (.reg .a))⟩
  | .ld_D_B => ⟨false, 1, 1, 4, .ld8 (.reg .d) (.loc (.reg .b))⟩
  | .ld_D_C => ⟨false, 1, 1, 4, .ld8 (.reg .d) (.loc (.reg .c))⟩
  | .ld_D_D => ⟨false, 1, 1, 4, .ld8 (.reg .d) (.loc (.reg .d))⟩
  | .ld_D_E => ⟨false, 1, 1, 4, .ld8 (.reg .d) (.loc (.reg .e))⟩
  | .ld_D_H => ⟨false, 1, 1, 4, .ld8 (.reg .d) (.loc (.reg .h))⟩
  | .ld_D_L => ⟨false, 1, 1, 4, .ld8 (.reg .d) (.loc (.reg .l))⟩
  | .ld_D_mHL => ⟨false, 1, 1, 7, .ld8 (.reg .d) (.loc (.mem .hl))⟩
  | .ld_D_A => ⟨false, 1, 1, 4, .ld8 (.reg .d) (.loc (.reg .a))⟩
  | .ld_E_B => ⟨false, 1, 1, 4, .ld8 (.reg .e) (.loc (.reg .b))⟩
  | .ld_E_C => ⟨false, 1, 1, 4, .ld8 (.reg .e) (.loc (.reg .c))⟩
  | .ld_E_D => ⟨false, 1, 1, 4, .ld8 (.reg .e) (.loc (.reg .d))⟩
  | .ld_E_E => ⟨false, 1, 1, 4, .ld8 (.reg .e) (.loc (.reg .e))⟩
  | .ld_E_H => ⟨false, 1, 1, 4, .ld8 (.reg .e) (.loc (.reg .h))⟩
  | .ld_E_L => ⟨false, 1, 1, 4, .ld8 (.reg .e) (.loc (.reg .l))⟩
  | .ld_E_mHL => ⟨false, 1, 1, 7, .ld8 (.reg .e) (.loc (.mem .hl))⟩
  | .ld_E_A => ⟨false, 1, 1, 4, .ld8 (.reg .e) (.loc (.reg .a))⟩
  | .ld_H_B => ⟨false, 1, 1, 4, .ld8 (.reg .h) (.loc (.reg .b))⟩
  | .ld_H_C => ⟨false, 1, 1, 4, .ld8 (.reg .h) (.loc (.reg .c))⟩
  | .ld_H_D => ⟨false, 1, 1, 4, .ld8 (.reg .h) (.loc (.reg .d))⟩
  | .ld_H_E => ⟨false, 1, 1, 4, .ld8 (.reg .h) (.loc (.reg .e))⟩
  | .ld_H_H => ⟨false, 1, 1, 4, .ld8 (.reg .h) (.loc (.reg .h))⟩
  | .ld_H_L => ⟨false, 1, 1, 4, .ld8 (.reg .h) (.loc (.reg .l))⟩
  | .ld_H_mHL => ⟨false, 1, 1, 7, .ld8 (.reg .h) (.loc (.mem .hl))⟩
  | .ld_H_A => ⟨false, 1, 1, 4, .ld8 (.reg .h) (.loc (.reg .a))⟩
  | .ld_L_B => ⟨false, 1, 1, 4, .ld8 (.reg .l) (.loc (.reg .b))⟩
  | .ld_L_C => ⟨false, 1, 1, 4, .ld8 (.reg .l) (.loc (.reg .c))⟩
  | .ld_L_D => ⟨false, 1, 1, 4, .ld8 (.reg .l) (.loc (.reg .d))⟩
  | .ld_L_E => ⟨false, 1, 1, 4, .ld8 (.reg .l) (.loc (.reg .e))⟩
  | .ld_L_H => ⟨false, 1, 1, 4, .ld8 (.reg .l) (.loc (.reg .h))⟩
  | .ld_L_L => ⟨false, 1, 1, 4, .ld8 (.reg .l) (.loc (.reg .l))⟩
  | .ld_L_mHL => ⟨false, 1, 1, 7, .ld8 (.reg .l) (.loc (.mem .hl))⟩
  | .ld_L_A => ⟨false, 1, 1, 4, .ld8 (.reg .l) (.loc (.reg .a))⟩
  | .ld_mHL_B => ⟨false, 1, 1, 7, .ld8 (.mem .hl) (.loc (.reg .b))⟩
  | .ld_mHL_C => ⟨false, 1, 1, 7, .ld8 (.mem .hl) (.loc (.reg .c))⟩
  | .ld_mHL_D => ⟨false, 1, 1, 7, .ld8 (.mem .hl) (.loc (.reg .d))⟩
  | .ld_mHL_E => ⟨false, 1, 1, 7, .ld8 (.mem .hl) (.loc (.reg .e))⟩
  | .ld_mHL_H => ⟨false, 1, 1, 7, .ld8 (.mem .hl) (.loc (.reg .h))⟩
  | .ld_mHL_L => ⟨false, 1, 1, 7, .ld8 (.mem .hl) (.loc (.reg .l))⟩
  | .halt => ⟨false, 1, 1, 4, .halt⟩
  | .ld_mHL_A => ⟨false, 1, 1, 7, .ld8 (.mem .hl) (.loc (.reg .a))⟩
  | .ld_A_B => ⟨false, 1, 1, 4, .ld8 (.reg .a) (.loc (.reg .b))⟩
  | .ld_A_C => ⟨false, 1, 1, 4, .ld8 (.reg .a) (.loc (.reg .c))⟩
  | .ld_A_D => ⟨false, 1, 1, 4, .ld8 (.reg .a) (.loc (.reg .d))⟩
  | .ld_A_E => ⟨false, 1, 1, 4, .ld8 (.reg .a) (.loc (.reg .e))⟩
  | .ld_A_H => ⟨false, 1, 1, 4, .ld8 (.reg .a) (.loc (.reg .h))⟩
  | .ld_A_L => ⟨false, 1, 1, 4, .ld8 (.reg .a) (.loc (.reg .l))⟩
  | .ld_A_mHL => ⟨false, 1, 1, 7, .ld8 (.reg .a) (.loc (.mem .hl))⟩
  | .ld_A_A => ⟨false, 1, 1, 4, .ld8 (.reg .a) (.loc (.reg .a))⟩
  | .add_A_B => ⟨false, 1, 1, 4, .alu .add (.loc (.reg .b))⟩
  | .add_A_C => ⟨false, 1, 1, 4, .alu .add (.loc (.reg .c))⟩
  | .add_A_D => ⟨false, 1, 1, 4, .alu .add (.loc (.reg .d))⟩
  | .add_A_E => ⟨false, 1, 1, 4, .alu .add (.loc (.reg .e))⟩
  | .add_A_H => ⟨false, 1, 1, 4, .alu .add (.loc (.reg .h))⟩
  | .add_A_L => ⟨false, 1, 1, 4, .alu .add (.loc (.reg .l))⟩
  | .add_A_mHL => ⟨false, 1, 1, 7, .alu .add (.loc (.mem .hl))⟩
  | .add_A_A => ⟨false, 1, 1, 4, .alu .add (.loc (.reg .a))⟩
  | .adc_A_B => ⟨false, 1, 1, 4, .alu .adc (.loc (.reg .b))⟩
  | .adc_A_C => ⟨false, 1, 1, 4, .alu .adc (.loc (.reg .c))⟩
  | .adc_A_D => ⟨false, 1, 1, 4, .alu .adc (.loc (.reg .d))⟩
  | .adc_A_E => ⟨false, 1, 1, 4, .alu .adc (.loc (.reg .e))⟩
  | .adc_A_H => ⟨false, 1, 1, 4, .alu .adc (.loc (.reg .h))⟩
  | .adc_A_L => ⟨false, 1, 1, 4, .alu .adc (.loc (.reg .l))⟩
  | .adc_A_mHL => ⟨false, 1, 1, 7, .alu .adc (.loc (.mem .hl))⟩
  | .adc_A_A => ⟨false, 1, 1, 4, .alu .adc (.loc (.reg .a))⟩
  | .sub_B => ⟨false, 1, 1, 4, .alu .sub (.loc (.reg .b))⟩
  | .sub_C => ⟨false, 1, 1, 4, .alu .sub (.loc (.reg .c))⟩
  | .sub_D => ⟨false, 1, 1, 4, .alu .sub (.loc (.reg .d))⟩
  | .sub_E => ⟨false, 1, 1, 4, .alu .sub (.loc (.reg .e))⟩
  | .sub_H => ⟨false, 1, 1, 4, .alu .sub (.loc (.reg .h))⟩
  | .sub_L => ⟨false, 1, 1, 4, .alu .sub (.loc (.reg .l))⟩
  | .sub_mHL => ⟨false, 1, 1, 7, .alu .sub (.loc (.mem .hl))⟩
  | .sub_A => ⟨false, 1, 1, 4, .alu .sub (.loc (.reg .a))⟩
  | .sbc_A_B => ⟨false, 1, 1, 4, .alu .sbc (.loc (.reg .b))⟩
  | .sbc_A_C => ⟨false, 1, 1, 4, .alu .sbc (.loc (.reg .c))⟩
  | .sbc_A_D => ⟨false, 1, 1, 4, .alu .sbc (.loc (.reg .d))⟩
  | .sbc_A_E => ⟨false, 1, 1, 4, .alu .sbc (.loc (.reg .e))⟩
  | .sbc_A_H => ⟨false, 1, 1, 4, .alu .sbc (.loc (.reg .h))⟩
  | .sbc_A_L => ⟨false, 1, 1, 4, .alu .sbc (.loc (.reg .l))⟩
  | .sbc_A_mHL => ⟨false, 1, 1, 7, .alu .sbc (.loc (.mem .hl))⟩
  | .sbc_A_A => ⟨false, 1, 1, 4, .alu .sbc (.loc (.reg .a))⟩
  | .and_B => ⟨false, 1, 1, 4, .alu .and (.loc (.reg .b))⟩
  | .and_C => ⟨false, 1, 1, 4, .alu .and (.loc (.reg .c))⟩
  | .and_D => ⟨false, 1, 1, 4, .alu .and (.loc (.reg .d))⟩
  | .and_E => ⟨false, 1, 1, 4, .alu .and (.loc (.reg .e))⟩
  | .and_H => ⟨false, 1, 1, 4, .alu .and (.loc (.reg .h))⟩
  | .and_L => ⟨false, 1, 1, 4, .alu .and (.loc (.reg .l))⟩
  | .and_mHL => ⟨false, 1, 1, 7, .alu .and (.loc (.mem .hl))⟩
  | .and_A => ⟨false, 1, 1, 4, .alu .and (.loc (.reg .a))⟩
  | .xor_B => ⟨false, 1, 1, 4, .alu .xor (.loc (.reg .b))⟩
  | .xor_C => ⟨false, 1, 1, 4, .alu .xor (.loc (.reg .c))⟩
  | .xor_D => ⟨false, 1, 1, 4, .alu .xor (.loc (.reg .d))⟩
  | .xor_E => ⟨false, 1, 1, 4, .alu .xor (.loc (.reg .e))⟩
  | .xor_H => ⟨false, 1, 1, 4, .alu .xor (.loc (.reg .h))⟩
  | .xor_L => ⟨false, 1, 1, 4, .alu .xor (.loc (.reg .l))⟩
  | .xor_mHL => ⟨false, 1, 1, 7, .alu .xor (.loc (.mem .hl))⟩
  | .xor_A => ⟨false, 1, 1, 4, .alu .xor (.loc (.reg .a))⟩
  | .or_B => ⟨false, 1, 1, 4, .alu .or (.loc (.reg .b))⟩
  | .or_C => ⟨false, 1, 1, 4, .alu .or (.loc (.reg .c))⟩
  | .or_D => ⟨false, 1, 1, 4, .alu .or (.loc (.reg .d))⟩
  | .or_E => ⟨false, 1, 1, 4, .alu .or (.loc (.reg .e))⟩
  | .or_H => ⟨false, 1, 1, 4, .alu .or (.loc (.reg .h))⟩
  | .or_L => ⟨false, 1, 1, 4, .alu .or (.loc (.reg .l))⟩
  | .or_mHL => ⟨false, 1, 1, 7, .alu .or (.loc (.mem .hl))⟩
  | .or_A => ⟨false, 1, 1, 4, .alu .or (.loc (.reg .a))⟩
  | .cp_B => ⟨false, 1, 1, 4, .alu .cp (.loc (.reg .b))⟩
  | .cp_C => ⟨false, 1, 1, 4, .alu .cp (.loc (.reg .c))⟩
  | .cp_D => ⟨false, 1, 1, 4, .alu .cp (.loc (.reg .d))⟩
  | .cp_E => ⟨false, 1, 1, 4, .alu .cp (.loc (.reg .e))⟩
  | .cp_H => ⟨false, 1, 1, 4, .alu .cp (.loc (.reg .h))⟩
  | .cp_L => ⟨false, 1, 1, 4, .alu .cp (.loc (.reg .l))⟩
  | .cp_mHL => ⟨false, 1, 1, 7, .alu .cp (.loc (.mem .hl))⟩
  | .cp_A => ⟨false, 1, 1, 4, .alu .cp (.loc (.reg .a))⟩
  | .ret_NZ => ⟨false, 1, 1, 5, .retIf .nz⟩
  | .pop_BC => ⟨false, 1, 1, 10, .pop .bc⟩
  | .jp_NZ_nn nn => ⟨false, 3, 1, 10, .jpIf .nz nn⟩
  | .jp_nn nn => ⟨false, 3, 1, 10, .jp nn⟩
  | .call_NZ_nn nn => ⟨false, 3, 1, 10, .callIf .nz nn⟩
  | .push_BC => ⟨false, 1, 1, 11, .push .bc⟩
  | .add_A_n n => ⟨false, 2, 1, 7, .alu .add (.imm n)⟩
  | .rst_00h => ⟨false, 1, 1, 11, .rst 0x00⟩
  | .ret_Z => ⟨false, 1, 1, 5, .retIf .z⟩
  | .ret => ⟨false, 1, 1, 10, .ret⟩
  | .jp_Z_nn nn => ⟨false, 3, 1, 10, .jpIf .z nn⟩
  | .call_Z_nn nn => ⟨false, 3, 1, 10, .callIf .z nn⟩
  | .call_nn nn => ⟨false, 3, 1, 17, .call nn⟩
  | .adc_A_n n => ⟨false, 2, 1, 7, .alu .adc (.imm n)⟩
  | .rst_08h => ⟨false, 1, 1, 11, .rst 0x08⟩
  | .ret_NC => ⟨false, 1, 1, 5, .retIf .nc⟩
  | .pop_DE => ⟨false, 1, 1, 10, .pop .de⟩
  | .jp_NC_nn nn => ⟨false, 3, 1, 10, .jpIf .nc nn⟩
  | .out_mn_A n => ⟨false, 2, 1, 11, .outA n⟩
  | .call_NC_nn nn => ⟨false, 3, 1, 10, .callIf .nc nn⟩
  | .push_DE => ⟨false, 1, 1, 11, .push .de⟩
  | .sub_n n => ⟨false, 2, 1, 7, .alu .sub (.imm n)⟩
  | .rst_10h => ⟨false, 1, 1, 11, .rst 0x10⟩
  | .ret_C => ⟨false, 1, 1, 5, .retIf .c⟩
  | .exx => ⟨false, 1, 1, 4, .exx⟩
  | .jp_C_nn nn => ⟨false, 3, 1, 10, .jpIf .c nn⟩
  | .in_A_mn n => ⟨false, 2, 1, 11, .inA n⟩
  | .call_C_nn nn => ⟨false, 3, 1, 10, .callIf .c nn⟩
  | .sbc_A_n n => ⟨false, 2, 1, 7, .alu .sbc (.imm n)⟩
  | .rst_18h => ⟨false, 1, 1, 11, .rst 0x18⟩
  | .ret_PO => ⟨false, 1, 1, 5, .retIf .po⟩
  | .pop_HL => ⟨false, 1, 1, 10, .pop .hl⟩
  | .jp_PO_nn nn => ⟨false, 3, 1, 10, .jpIf .po nn⟩
  | .ex_mSP_HL => ⟨false, 1, 1, 19, .exSp .hl⟩
  | .call_PO_nn nn => ⟨false, 3, 1, 10, .callIf .po nn⟩
  | .push_HL => ⟨false, 1, 1, 11, .push .hl⟩
  | .and_n n => ⟨false, 2, 1, 7, .alu .and (.imm n)⟩
  | .rst_20h => ⟨false, 1, 1, 11, .rst 0x20⟩
  | .ret_PE => ⟨false, 1, 1, 5, .retIf .pe⟩
  | .jp_mHL => ⟨false, 1, 1, 4, .jpReg .hl⟩
  | .jp_PE_nn nn => ⟨false, 3, 1, 10, .jpIf .pe nn⟩
  | .ex_DE_HL => ⟨false, 1, 1, 4, .exDeHl⟩
  | .call_PE_nn nn => ⟨false, 3, 1, 10, .callIf .pe nn⟩
  | .xor_n n => ⟨false, 2, 1, 7, .alu .xor (.imm n)⟩
  | .rst_28h => ⟨false, 1, 1, 11, .rst 0x28⟩
  | .ret_P => ⟨false, 1, 1, 5, .retIf .p⟩
  | .pop_AF => ⟨false, 1, 1, 10, .pop .af⟩
  | .jp_P_nn nn => ⟨false, 3, 1, 10, .jpIf .p nn⟩
  | .di => ⟨false, 1, 1, 4, .di⟩
  | .call_P_nn nn => ⟨false, 3, 1, 10, .callIf .p nn⟩
  | .push_AF => ⟨false, 1, 1, 11, .push .af⟩
  | .or_n n => ⟨false, 2, 1, 7, .alu .or (.imm n)⟩
  | .rst_30h => ⟨false, 1, 1, 11, .rst 0x30⟩
  | .ret_M => ⟨false, 1, 1, 5, .retIf .m⟩
  | .ld_SP_HL => ⟨false, 1, 1, 6, .ldSp .hl⟩
  | .jp_M_nn nn => ⟨false, 3, 1, 10, .jpIf .m nn⟩
  | .ei => ⟨false, 1, 1, 4, .ei⟩
  | .call_M_nn nn => ⟨false, 3, 1, 10, .callIf .m nn⟩
  | .cp_n n => ⟨false, 2, 1, 7, .alu .cp (.imm n)⟩
  | .rst_38h => ⟨false, 1, 1, 11, .rst 0x38⟩
  | .rlc_B => ⟨false, 2, 2, 8, .rot .rlc (.reg .b)⟩
  | .rlc_C => ⟨false, 2, 2, 8, .rot .rlc (.reg .c)⟩
  | .rlc_D => ⟨false, 2, 2, 8, .rot .rlc (.reg .d)⟩
  | .rlc_E => ⟨false, 2, 2, 8, .rot .rlc (.reg .e)⟩
  | .rlc_H => ⟨false, 2, 2, 8, .rot .rlc (.reg .h)⟩
  | .rlc_L => ⟨false, 2, 2, 8, .rot .rlc (.reg .l)⟩
  | .rlc_mHL => ⟨false, 2, 2, 15, .rot .rlc (.mem .hl)⟩
  | .rlc_A => ⟨false, 2, 2, 8, .rot .rlc (.reg .a)⟩
  | .rrc_B => ⟨false, 2, 2, 8, .rot .rrc (.reg .b)⟩
  | .rrc_C => ⟨false, 2, 2, 8, .rot .rrc (.reg .c)⟩
  | .rrc_D => ⟨false, 2, 2, 8, .rot .rrc (.reg .d)⟩
  | .rrc_E => ⟨false, 2, 2, 8, .rot .rrc (.reg .e)⟩
  | .rrc_H => ⟨false, 2, 2, 8, .rot .rrc (.reg .h)⟩
  | .rrc_L => ⟨false, 2, 2, 8, .rot .rrc (.reg .l)⟩
  | .rrc_mHL => ⟨false, 2, 2, 15, .rot .rrc (.mem .hl)⟩
  | .rrc_A => ⟨false, 2, 2, 8, .rot .rrc (.reg .a)⟩
  | .rl_B => ⟨false, 2, 2, 8, .rot .rl (.reg .b)⟩
  | .rl_C => ⟨false, 2, 2, 8, .rot .rl (.reg .c)⟩
  | .rl_D => ⟨false, 2, 2, 8, .rot .rl (.reg .d)⟩
  | .rl_E => ⟨false, 2, 2, 8, .rot .rl (.reg .e)⟩
  | .rl_H => ⟨false, 2, 2, 8, .rot .rl (.reg .h)⟩
  | .rl_L => ⟨false, 2, 2, 8, .rot .rl (.reg .l)⟩
  | .rl_mHL => ⟨false, 2, 2, 15, .rot .rl (.mem .hl)⟩
  | .rl_A => ⟨false, 2, 2, 8, .rot .rl (.reg .a)⟩
  | .rr_B => ⟨false, 2, 2, 8, .rot .rr (.reg .b)⟩
  | .rr_C => ⟨false, 2, 2, 8, .rot .rr (.reg .c)⟩
  | .rr_D => ⟨false, 2, 2, 8, .rot .rr (.reg .d)⟩
  | .rr_E => ⟨false, 2, 2, 8, .rot .rr (.reg .e)⟩
  | .rr_H => ⟨false, 2, 2, 8, .rot .rr (.reg .h)⟩
  | .rr_L => ⟨false, 2, 2, 8, .rot .rr (.reg .l)⟩
  | .rr_mHL => ⟨false, 2, 2, 15, .rot .rr (.mem .hl)⟩
  | .rr_A => ⟨false, 2, 2, 8, .rot .rr (.reg .a)⟩
  | .sla_B => ⟨false, 2, 2, 8, .rot .sla (.reg .b)⟩
  | .sla_C => ⟨false, 2, 2, 8, .rot .sla (.reg .c)⟩
  | .sla_D => ⟨false, 2, 2, 8, .rot .sla (.reg .d)⟩
  | .sla_E => ⟨false, 2, 2, 8, .rot .sla (.reg .e)⟩
  | .sla_H => ⟨false, 2, 2, 8, .rot .sla (.reg .h)⟩
  | .sla_L => ⟨false, 2, 2, 8, .rot .sla (.reg .l)⟩
  | .sla_mHL => ⟨false, 2, 2, 15, .rot .sla (.mem .hl)⟩
  | .sla_A => ⟨false, 2, 2, 8, .rot .sla (.reg .a)⟩
  | .sra_B => ⟨false, 2, 2, 8, .rot .sra (.reg .b)⟩
  | .sra_C => ⟨false, 2, 2, 8, .rot .sra (.reg .c)⟩
  | .sra_D => ⟨false, 2, 2, 8, .rot .sra (.reg .d)⟩
  | .sra_E => ⟨false, 2, 2, 8, .rot .sra (.reg .e)⟩
  | .sra_H => ⟨false, 2, 2, 8, .rot .sra (.reg .h)⟩
  | .sra_L => ⟨false, 2, 2, 8, .rot .sra (.reg .l)⟩
  | .sra_mHL => ⟨false, 2, 2, 15, .rot .sra (.mem .hl)⟩
  | .sra_A => ⟨false, 2, 2, 8, .rot .sra (.reg .a)⟩
  | .sll_B => ⟨false, 2, 2, 8, .rot .sll (.reg .b)⟩
  | .sll_C => ⟨false, 2, 2, 8, .rot .sll (.reg .c)⟩
  | .sll_D => ⟨false, 2, 2, 8, .rot .sll (.reg .d)⟩
  | .sll_E => ⟨false, 2, 2, 8, .rot .sll (.reg .e)⟩
  | .sll_H => ⟨false, 2, 2, 8, .rot .sll (.reg .h)⟩
  | .sll_L => ⟨false, 2, 2, 8, .rot .sll (.reg .l)⟩
  | .sll_mHL => ⟨false, 2, 2, 15, .rot .sll (.mem .hl)⟩
  | .sll_A => ⟨false, 2, 2, 8, .rot .sll (.reg .a)⟩
  | .srl_B => ⟨false, 2, 2, 8, .rot .srl (.reg .b)⟩
  | .srl_C => ⟨false, 2, 2, 8, .rot .srl (.reg .c)⟩
  | .srl_D => ⟨false, 2, 2, 8, .rot .srl (.reg .d)⟩
  | .srl_E => ⟨false, 2, 2, 8, .rot .srl (.reg .e)⟩
  | .srl_H => ⟨false, 2, 2, 8, .rot .srl (.reg .h)⟩
  | .srl_L => ⟨false, 2, 2, 8, .rot .srl (.reg .l)⟩
  | .srl_mHL => ⟨false, 2, 2, 15, .rot .srl (.mem .hl)⟩
  | .srl_A => ⟨false, 2, 2, 8, .rot .srl (.reg .a)⟩
  | .bit_0_B => ⟨false, 2, 2, 8, .bitReg 0 .b⟩
  | .bit_0_C => ⟨false, 2, 2, 8, .bitReg 0 .c⟩
  | .bit_0_D => ⟨false, 2, 2, 8, .bitReg 0 .d⟩
  | .bit_0_E => ⟨false, 2, 2, 8, .bitReg 0 .e⟩
  | .bit_0_H => ⟨false, 2, 2, 8, .bitReg 0 .h⟩
  | .bit_0_L => ⟨false, 2, 2, 8, .bitReg 0 .l⟩
  | .bit_0_mHL => ⟨false, 2, 2, 12, .bitMem 0 .hl⟩
  | .bit_0_A => ⟨false, 2, 2, 8, .bitReg 0 .a⟩
  | .bit_1_B => ⟨false, 2, 2, 8, .bitReg 1 .b⟩
  | .bit_1_C => ⟨false, 2, 2, 8, .bitReg 1 .c⟩
  | .bit_1_D => ⟨false, 2, 2, 8, .bitReg 1 .d⟩
  | .bit_1_E => ⟨false, 2, 2, 8, .bitReg 1 .e⟩
  | .bit_1_H => ⟨false, 2, 2, 8, .bitReg 1 .h⟩
  | .bit_1_L => ⟨false, 2, 2, 8, .bitReg 1 .l⟩
  | .bit_1_mHL => ⟨false, 2, 2, 12, .bitMem 1 .hl⟩
  | .bit_1_A => ⟨false, 2, 2, 8, .bitReg 1 .a⟩
  | .bit_2_B => ⟨false, 2, 2, 8, .bitReg 2 .b⟩
  | .bit_2_C => ⟨false, 2, 2, 8, .bitReg 2 .c⟩
  | .bit_2_D => ⟨false, 2, 2, 8, .bitReg 2 .d⟩
  | .bit_2_E => ⟨false, 2, 2, 8, .bitReg 2 .e⟩
  | .bit_2_H => ⟨false, 2, 2, 8, .bitReg 2 .h⟩
  | .bit_2_L => ⟨false, 2, 2, 8, .bitReg 2 .l⟩
  | .bit_2_mHL => ⟨false, 2, 2, 12, .bitMem 2 .hl⟩
  | .bit_2_A => ⟨false, 2, 2, 8, .bitReg 2 .a⟩
  | .bit_3_B => ⟨false, 2, 2, 8, .bitReg 3 .b⟩
  | .bit_3_C => ⟨false, 2, 2, 8, .bitReg 3 .c⟩
  | .bit_3_D => ⟨false, 2, 2, 8, .bitReg 3 .d⟩
  | .bit_3_E => ⟨false, 2, 2, 8, .bitReg 3 .e⟩
  | .bit_3_H => ⟨false, 2, 2, 8, .bitReg 3 .h⟩
  | .bit_3_L => ⟨false, 2, 2, 8, .bitReg 3 .l⟩
  | .bit_3_mHL => ⟨false, 2, 2, 12, .bitMem 3 .hl⟩
  | .bit_3_A => ⟨false, 2, 2, 8, .bitReg 3 .a⟩
  | .bit_4_B => ⟨false, 2, 2, 8, .bitReg 4 .b⟩
  | .bit_4_C => ⟨false, 2, 2, 8, .bitReg 4 .c⟩
  | .bit_4_D => ⟨false, 2, 2, 8, .bitReg 4 .d⟩
  | .bit_4_E => ⟨false, 2, 2, 8, .bitReg 4 .e⟩
  | .bit_4_H => ⟨false, 2, 2, 8, .bitReg 4 .h⟩
  | .bit_4_L => ⟨false, 2, 2, 8, .bitReg 4 .l⟩
  | .bit_4_mHL => ⟨false, 2, 2, 12, .bitMem 4 .hl⟩
  | .bit_4_A => ⟨false, 2, 2, 8, .bitReg 4 .a⟩
  | .bit_5_B => ⟨false, 2, 2, 8, .bitReg 5 .b⟩
  | .bit_5_C => ⟨false, 2, 2, 8, .bitReg 5 .c⟩
  | .bit_5_D => ⟨false, 2, 2, 8, .bitReg 5 .d⟩
  | .bit_5_E => ⟨false, 2, 2, 8, .bitReg 5 .e⟩
  | .bit_5_H => ⟨false, 2, 2, 8, .bitReg 5 .h⟩
  | .bit_5_L => ⟨false, 2, 2, 8, .bitReg 5 .l⟩
  | .bit_5_mHL => ⟨false, 2, 2, 12, .bitMem 5 .hl⟩
  | .bit_5_A => ⟨false, 2, 2, 8, .bitReg 5 .a⟩
  | .bit_6_B => ⟨false, 2, 2, 8, .bitReg 6 .b⟩
  | .bit_6_C => ⟨false, 2, 2, 8, .bitReg 6 .c⟩
  | .bit_6_D => ⟨false, 2, 2, 8, .bitReg 6 .d⟩
  | .bit_6_E => ⟨false, 2, 2, 8, .bitReg 6 .e⟩
  | .bit_6_H => ⟨false, 2, 2, 8, .bitReg 6 .h⟩
  | .bit_6_L => ⟨false, 2, 2, 8, .bitReg 6 .l⟩
  | .bit_6_mHL => ⟨false, 2, 2, 12, .bitMem 6 .hl⟩
  | .bit_6_A => ⟨false, 2, 2, 8, .bitReg 6 .a⟩
  | .bit_7_B => ⟨false, 2, 2, 8, .bitReg 7 .b⟩
  | .bit_7_C => ⟨false, 2, 2, 8, .bitReg 7 .c⟩
  | .bit_7_D => ⟨false, 2, 2, 8, .bitReg 7 .d⟩
  | .bit_7_E => ⟨false, 2, 2, 8, .bitReg 7 .e⟩
  | .bit_7_H => ⟨false, 2, 2, 8, .bitReg 7 .h⟩
  | .bit_7_L => ⟨false, 2, 2, 8, .bitReg 7 .l⟩
  | .bit_7_mHL => ⟨false, 2, 2, 12, .bitMem 7 .hl⟩
  | .bit_7_A => ⟨false, 2, 2, 8, .bitReg 7 .a⟩
  | .res_0_B => ⟨false, 2, 2, 8, .resLoc 0 (.reg .b)⟩
  | .res_0_C => ⟨false, 2, 2, 8, .resLoc 0 (.reg .c)⟩
  | .res_0_D => ⟨false, 2, 2, 8, .resLoc 0 (.reg .d)⟩
  | .res_0_E => ⟨false, 2, 2, 8, .resLoc 0 (.reg .e)⟩
  | .res_0_H => ⟨false, 2, 2, 8, .resLoc 0 (.reg .h)⟩
  | .res_0_L => ⟨false, 2, 2, 8, .resLoc 0 (.reg .l)⟩
  | .res_0_mHL => ⟨false, 2, 2, 15, .resLoc 0 (.mem .hl)⟩
  | .res_0_A => ⟨false, 2, 2, 8, .resLoc 0 (.reg .a)⟩
  | .res_1_B => ⟨false, 2, 2, 8, .resLoc 1 (.reg .b)⟩
  | .res_1_C => ⟨false, 2, 2, 8, .resLoc 1 (.reg .c)⟩
  | .res_1_D => ⟨false, 2, 2, 8, .resLoc 1 (.reg .d)⟩
  | .res_1_E => ⟨false, 2, 2, 8, .resLoc 1 (.reg .e)⟩
  | .res_1_H => ⟨false, 2, 2, 8, .resLoc 1 (.reg .h)⟩
  | .res_1_L => ⟨false, 2, 2, 8, .resLoc 1 (.reg .l)⟩
  | .res_1_mHL => ⟨false, 2, 2, 15, .resLoc 1 (.mem .hl)⟩
  | .res_1_A => ⟨false, 2, 2, 8, .resLoc 1 (.reg .a)⟩
  | .res_2_B => ⟨false, 2, 2, 8, .resLoc 2 (.reg .b)⟩
  | .res_2_C => ⟨false, 2, 2, 8, .resLoc 2 (.reg .c)⟩
  | .res_2_D => ⟨false, 2, 2, 8, .resLoc 2 (.reg .d)⟩
  | .res_2_E => ⟨false, 2, 2, 8, .resLoc 2 (.reg .e)⟩
  | .res_2_H => ⟨false, 2, 2, 8, .resLoc 2 (.reg .h)⟩
  | .res_2_L => ⟨false, 2, 2, 8, .resLoc 2 (.reg .l)⟩
  | .res_2_mHL => ⟨false, 2, 2, 15, .resLoc 2 (.mem .hl)⟩
  | .res_2_A => ⟨false, 2, 2, 8, .resLoc 2 (.reg .a)⟩
  | .res_3_B => ⟨false, 2, 2, 8, .resLoc 3 (.reg .b)⟩
  | .res_3_C => ⟨false, 2, 2, 8, .resLoc 3 (.reg .c)⟩
  | .res_3_D => ⟨false, 2, 2, 8, .resLoc 3 (.reg .d)⟩
  | .res_3_E => ⟨false, 2, 2, 8, .resLoc 3 (.reg .e)⟩
  | .res_3_H => ⟨false, 2, 2, 8, .resLoc 3 (.reg .h)⟩
  | .res_3_L => ⟨false, 2, 2, 8, .resLoc 3 (.reg .l)⟩
  | .res_3_mHL => ⟨false, 2, 2, 15, .resLoc 3 (.mem .hl)⟩
  | .res_3_A => ⟨false, 2, 2, 8, .resLoc 3 (.reg .a)⟩
  | .res_4_B => ⟨false, 2, 2, 8, .resLoc 4 (.reg .b)⟩
  | .res_4_C => ⟨false, 2, 2, 8, .resLoc 4 (.reg .c)⟩
  | .res_4_D => ⟨false, 2, 2, 8, .resLoc 4 (.reg .d)⟩
  | .res_4_E => ⟨false, 2, 2, 8, .resLoc 4 (.reg .e)⟩
  | .res_4_H => ⟨false, 2, 2, 8, .resLoc 4 (.reg .h)⟩
  | .res_4_L => ⟨false, 2, 2, 8, .resLoc 4 (.reg .l)⟩
  | .res_4_mHL => ⟨false, 2, 2, 15, .resLoc 4 (.mem .hl)⟩
  | .res_4_A => ⟨false, 2, 2, 8, .resLoc 4 (.reg .a)⟩
  | .res_5_B => ⟨false, 2, 2, 8, .resLoc 5 (.reg .b)⟩
  | .res_5_C => ⟨false, 2, 2, 8, .resLoc 5 (.reg .c)⟩
  | .res_5_D => ⟨false, 2, 2, 8, .resLoc 5 (.reg .d)⟩
  | .res_5_E => ⟨false, 2, 2, 8, .resLoc 5 (.reg .e)⟩
  | .res_5_H => ⟨false, 2, 2, 8, .resLoc 5 (.reg .h)⟩
  | .res_5_L => ⟨false, 2, 2, 8, .resLoc 5 (.reg .l)⟩
  | .res_5_mHL => ⟨false, 2, 2, 15, .resLoc 5 (.mem .hl)⟩
  | .res_5_A => ⟨false, 2, 2, 8, .resLoc 5 (.reg .a)⟩
  | .res_6_B => ⟨false, 2, 2, 8, .resLoc 6 (.reg .b)⟩
  | .res_6_C => ⟨false, 2, 2, 8, .resLoc 6 (.reg .c)⟩
  | .res_6_D => ⟨false, 2, 2, 8, .resLoc 6 (.reg .d)⟩
  | .res_6_E => ⟨false, 2, 2, 8, .resLoc 6 (.reg .e)⟩
  | .res_6_H => ⟨false, 2, 2, 8, .resLoc 6 (.reg .h)⟩
  | .res_6_L => ⟨false, 2, 2, 8, .resLoc 6 (.reg .l)⟩
  | .res_6_mHL => ⟨false, 2, 2, 15, .resLoc 6 (.mem .hl)⟩
  | .res_6_A => ⟨false, 2, 2, 8, .resLoc 6 (.reg .a)⟩
  | .res_7_B => ⟨false, 2, 2, 8, .resLoc 7 (.reg .b)⟩
  | .res_7_C => ⟨false, 2, 2, 8, .resLoc 7 (.reg .c)⟩
  | .res_7_D => ⟨false, 2, 2, 8, .resLoc 7 (.reg .d)⟩
  | .res_7_E => ⟨false, 2, 2, 8, .resLoc 7 (.reg .e)⟩
  | .res_7_H => ⟨false, 2, 2, 8, .resLoc 7 (.reg .h)⟩
  | .res_7_L => ⟨false, 2, 2, 8, .resLoc 7 (.reg .l)⟩
  | .res_7_mHL => ⟨false, 2, 2, 15, .resLoc 7 (.mem .hl)⟩
  | .res_7_A => ⟨false, 2, 2, 8, .resLoc 7 (.reg .a)⟩
  | .set_0_B => ⟨false, 2, 2, 8, .setLoc 0 (.reg .b)⟩
  | .set_0_C => ⟨false, 2, 2, 8, .setLoc 0 (.reg .c)⟩
  | .set_0_D => ⟨false, 2, 2, 8, .setLoc 0 (.reg .d)⟩
  | .set_0_E => ⟨false, 2, 2, 8, .setLoc 0 (.reg .e)⟩
  | .set_0_H => ⟨false, 2, 2, 8, .setLoc 0 (.reg .h)⟩
  | .set_0_L => ⟨false, 2, 2, 8, .setLoc 0 (.reg .l)⟩
  | .set_0_mHL => ⟨false, 2, 2, 15, .setLoc 0 (.mem .hl)⟩
  | .set_0_A => ⟨false, 2, 2, 8, .setLoc 0 (.reg .a)⟩
  | .set_1_B => ⟨false, 2, 2, 8, .setLoc 1 (.reg .b)⟩
  | .set_1_C => ⟨false, 2, 2, 8, .setLoc 1 (.reg .c)⟩
  | .set_1_D => ⟨false, 2, 2, 8, .setLoc 1 (.reg .d)⟩
  | .set_1_E => ⟨false, 2, 2, 8, .setLoc 1 (.reg .e)⟩
  | .set_1_H => ⟨false, 2, 2, 8, .setLoc 1 (.reg .h)⟩
  | .set_1_L => ⟨false, 2, 2, 8, .setLoc 1 (.reg .l)⟩
  | .set_1_mHL => ⟨false, 2, 2, 15, .setLoc 1 (.mem .hl)⟩
  | .set_1_A => ⟨false, 2, 2, 8, .setLoc 1 (.reg .a)⟩
  | .set_2_B => ⟨false, 2, 2, 8, .setLoc 2 (.reg .b)⟩
  | .set_2_C => ⟨false, 2, 2, 8, .setLoc 2 (.reg .c)⟩
  | .set_2_D => ⟨false, 2, 2, 8, .setLoc 2 (.reg .d)⟩
  | .set_2_E => ⟨false, 2, 2, 8, .setLoc 2 (.reg .e)⟩
  | .set_2_H => ⟨false, 2, 2, 8, .setLoc 2 (.reg .h)⟩
  | .set_2_L => ⟨false, 2, 2, 8, .setLoc 2 (.reg .l)⟩
  | .set_2_mHL => ⟨false, 2, 2, 15, .setLoc 2 (.mem .hl)⟩
  | .set_2_A => ⟨false, 2, 2, 8, .setLoc 2 (.reg .a)⟩
  | .set_3_B => ⟨false, 2, 2, 8, .setLoc 3 (.reg .b)⟩
  | .set_3_C => ⟨false, 2, 2, 8, .setLoc 3 (.reg .c)⟩
  | .set_3_D => ⟨false, 2, 2, 8, .setLoc 3 (.reg .d)⟩
  | .set_3_E => ⟨false, 2, 2, 8, .setLoc 3 (.reg .e)⟩
  | .set_3_H => ⟨false, 2, 2, 8, .setLoc 3 (.reg .h)⟩
  | .set_3_L => ⟨false, 2, 2, 8, .setLoc 3 (.reg .l)⟩
  | .set_3_mHL => ⟨false, 2, 2, 15, .setLoc 3 (.mem .hl)⟩
  | .set_3_A => ⟨false, 2, 2, 8, .setLoc 3 (.reg .a)⟩
  | .set_4_B => ⟨false, 2, 2, 8, .setLoc 4 (.reg .b)⟩
  | .set_4_C => ⟨false, 2, 2, 8, .setLoc 4 (.reg .c)⟩
  | .set_4_D => ⟨false, 2, 2, 8, .setLoc 4 (.reg .d)⟩
  | .set_4_E => ⟨false, 2, 2, 8, .setLoc 4 (.reg .e)⟩
  | .set_4_H => ⟨false, 2, 2, 8, .setLoc 4 (.reg .h)⟩
  | .set_4_L => ⟨false, 2, 2, 8, .setLoc 4 (.reg .l)⟩
  | .set_4_mHL => ⟨false, 2, 2, 15, .setLoc 4 (.mem .hl)⟩
  | .set_4_A => ⟨false, 2, 2, 8, .setLoc 4 (.reg .a)⟩
  | .set_5_B => ⟨false, 2, 2, 8, .setLoc 5 (.reg .b)⟩
  | .set_5_C => ⟨false, 2, 2, 8, .setLoc 5 (.reg .c)⟩
  | .set_5_D => ⟨false, 2, 2, 8, .setLoc 5 (.reg .d)⟩
  | .set_5_E => ⟨false, 2, 2, 8, .setLoc 5 (.reg .e)⟩
  | .set_5_H => ⟨false, 2, 2, 8, .setLoc 5 (.reg .h)⟩
  | .set_5_L => ⟨false, 2, 2, 8, .setLoc 5 (.reg .l)⟩
  | .set_5_mHL => ⟨false, 2, 2, 15, .setLoc 5 (.mem .hl)⟩
  | .set_5_A => ⟨false, 2, 2, 8, .setLoc 5 (.reg .a)⟩
  | .set_6_B => ⟨false, 2, 2, 8, .setLoc 6 (.reg .b)⟩
  | .set_6_C => ⟨false, 2, 2, 8, .setLoc 6 (.reg .c)⟩
  | .set_6_D => ⟨false, 2, 2, 8, .setLoc 6 (.reg .d)⟩
  | .set_6_E => ⟨false, 2, 2, 8, .setLoc 6 (.reg .e)⟩
  | .set_6_H => ⟨false, 2, 2, 8, .setLoc 6 (.reg .h)⟩
  | .set_6_L => ⟨false, 2, 2, 8, .setLoc 6 (.reg .l)⟩
  | .set_6_mHL => ⟨false, 2, 2, 15, .setLoc 6 (.mem .hl)⟩
  | .set_6_A => ⟨false, 2, 2, 8, .setLoc 6 (.reg .a)⟩
  | .set_7_B => ⟨false, 2, 2, 8, .setLoc 7 (.reg .b)⟩
  | .set_7_C => ⟨false, 2, 2, 8, .setLoc 7 (.reg .c)⟩
  | .set_7_D => ⟨false, 2, 2, 8, .setLoc 7 (.reg .d)⟩
  | .set_7_E => ⟨false, 2, 2, 8, .setLoc 7 (.reg .e)⟩
  | .set_7_H => ⟨false, 2, 2, 8, .setLoc 7 (.reg .h)⟩
  | .set_7_L => ⟨false, 2, 2, 8, .setLoc 7 (.reg .l)⟩
  | .set_7_mHL => ⟨false, 2, 2, 15, .setLoc 7 (.mem .hl)⟩
  | .set_7_A => ⟨false, 2, 2, 8, .setLoc 7 (.reg .a)⟩
  | .ed_nop _ => ⟨false, 2, 2, 8, .nop⟩
  | .in_B_mC => ⟨false, 2, 2, 12, .inC (some .b)⟩
  | .out_mC_B => ⟨false, 2, 2, 12, .outReg .b⟩
  | .sbc_HL_BC => ⟨false, 2, 2, 15, .sbc16 .bc⟩
  | .ld_mnn_BC nn => ⟨false, 4, 2, 20, .store16 nn .bc⟩
  | .neg _ => ⟨false, 2, 2, 8, .neg⟩
  | .retn _ => ⟨false, 2, 2, 14, .retn⟩
  | .im_0 _ => ⟨false, 2, 2, 8, .setIm .im0⟩
  | .ld_I_A => ⟨false, 2, 2, 9, .ldIA⟩
  | .in_C_mC => ⟨false, 2, 2, 12, .inC (some .c)⟩
  | .out_mC_C => ⟨false, 2, 2, 12, .outReg .c⟩
  | .adc_HL_BC => ⟨false, 2, 2, 15, .adc16 .bc⟩
  | .ld_BC_mnn nn => ⟨false, 4, 2, 20, .load16 .bc nn⟩
  | .reti => ⟨false, 2, 2, 14, .reti⟩
  | .im_0_mirror _ => ⟨false, 2, 2, 8, .setIm .im0⟩
  | .ld_R_A => ⟨false, 2, 2, 9, .ldRA⟩
  | .in_D_mC => ⟨false, 2, 2, 12, .inC (some .d)⟩
  | .out_mC_D => ⟨false, 2, 2, 12, .outReg .d⟩
  | .sbc_HL_DE => ⟨false, 2, 2, 15, .sbc16 .de⟩
  | .ld_mnn_DE nn => ⟨false, 4, 2, 20, .store16 nn .de⟩
  | .im_1 _ => ⟨false, 2, 2, 8, .setIm .im1⟩
  | .ld_A_I => ⟨false, 2, 2, 9, .ldAI⟩
  | .in_E_mC => ⟨false, 2, 2, 12, .inC (some .e)⟩
  | .out_mC_E => ⟨false, 2, 2, 12, .outReg .e⟩
  | .adc_HL_DE => ⟨false, 2, 2, 15, .adc16 .de⟩
  | .ld_DE_mnn nn => ⟨false, 4, 2, 20, .load16 .de nn⟩
  | .im_2 _ => ⟨false, 2, 2, 8, .setIm .im2⟩
  | .ld_A_R => ⟨false, 2, 2, 9, .ldAR⟩
  | .in_H_mC => ⟨false, 2, 2, 12, .inC (some .h)⟩
  | .out_mC_H => ⟨false, 2, 2, 12, .outReg .h⟩
  | .sbc_HL_HL => ⟨false, 2, 2, 15, .sbc16 .hl⟩
  | .ld_mnn_HL_ed nn => ⟨false, 4, 2, 20, .store16 nn .hl⟩
  | .rrd => ⟨false, 2, 2, 18, .rrd⟩
  | .in_L_mC => ⟨false, 2, 2, 12, .inC (some .l)⟩
  | .out_mC_L => ⟨false, 2, 2, 12, .outReg .l⟩
  | .adc_HL_HL => ⟨false, 2, 2, 15, .adc16 .hl⟩
  | .ld_HL_mnn_ed nn => ⟨false, 4, 2, 20, .load16 .hl nn⟩
  | .rld => ⟨false, 2, 2, 18, .rld⟩
  | .in_mC => ⟨false, 2, 2, 12, .inC none⟩
  | .out_mC_0 => ⟨false, 2, 2, 12, .outZero⟩
  | .sbc_HL_SP => ⟨false, 2, 2, 15, .sbc16 .sp⟩
  | .ld_mnn_SP nn => ⟨false, 4, 2, 20, .store16 nn .sp⟩
  | .in_A_mC => ⟨false, 2, 2, 12, .inC (some .a)⟩
  | .out_mC_A => ⟨false, 2, 2, 12, .outReg .a⟩
  | .adc_HL_SP => ⟨false, 2, 2, 15, .adc16 .sp⟩
  | .ld_SP_mnn nn => ⟨false, 4, 2, 20, .load16 .sp nn⟩
  | .ldi => ⟨false, 2, 2, 16, .blockLoad .up⟩
  | .cpi => ⟨false, 2, 2, 16, .blockCompare .up⟩
  | .ini => ⟨false, 2, 2, 16, .blockIn .up⟩
  | .outi => ⟨false, 2, 2, 16, .blockOut .up⟩
  | .ldd => ⟨false, 2, 2, 16, .blockLoad .down⟩
  | .cpd => ⟨false, 2, 2, 16, .blockCompare .down⟩
  | .ind => ⟨false, 2, 2, 16, .blockIn .down⟩
  | .outd => ⟨false, 2, 2, 16, .blockOut .down⟩
  | .ldir => ⟨false, 2, 2, 16, .blockLoadRepeat .up⟩
  | .cpir => ⟨false, 2, 2, 16, .blockCompareRepeat .up⟩
  | .inir => ⟨false, 2, 2, 16, .blockInRepeat .up⟩
  | .otir => ⟨false, 2, 2, 16, .blockOutRepeat .up⟩
  | .lddr => ⟨false, 2, 2, 16, .blockLoadRepeat .down⟩
  | .cpdr => ⟨false, 2, 2, 16, .blockCompareRepeat .down⟩
  | .indr => ⟨false, 2, 2, 16, .blockInRepeat .down⟩
  | .otdr => ⟨false, 2, 2, 16, .blockOutRepeat .down⟩
  | .dd_nop => ⟨true, 1, 1, 4, .nop⟩
  | .dd_ld_BC_nn nn => ⟨true, 3, 1, 10, .ld16 .bc nn⟩
  | .dd_ld_mBC_A => ⟨true, 1, 1, 7, .storeA .bc⟩
  | .dd_inc_BC => ⟨true, 1, 1, 6, .inc16 .bc⟩
  | .dd_inc_B => ⟨true, 1, 1, 4, .incLoc (.reg .b)⟩
  | .dd_dec_B => ⟨true, 1, 1, 4, .decLoc (.reg .b)⟩
  | .dd_ld_B_n n => ⟨true, 2, 1, 7, .ld8 (.reg .b) (.imm n)⟩
  | .dd_rlca => ⟨true, 1, 1, 4, .rotA .rlc⟩
  | .dd_ex_AF_AF => ⟨true, 1, 1, 4, .exAf⟩
  | .add_IX_BC => ⟨false, 2, 2, 15, .add16 .ix .bc⟩
  | .dd_ld_A_mBC => ⟨true, 1, 1, 7, .loadA .bc⟩
  | .dd_dec_BC => ⟨true, 1, 1, 6, .dec16 .bc⟩
  | .dd_inc_C => ⟨true, 1, 1, 4, .incLoc (.reg .c)⟩
  | .dd_dec_C => ⟨true, 1, 1, 4, .decLoc (.reg .c)⟩
  | .dd_ld_C_n n => ⟨true, 2, 1, 7, .ld8 (.reg .c) (.imm n)⟩
  | .dd_rrca => ⟨true, 1, 1, 4, .rotA .rrc⟩
  | .dd_djnz_e e => ⟨true, 2, 1, 8, .djnz e⟩
  | .dd_ld_DE_nn nn => ⟨true, 3, 1, 10, .ld16 .de nn⟩
  | .dd_ld_mDE_A => ⟨true, 1, 1, 7, .storeA .de⟩
  | .dd_inc_DE => ⟨true, 1, 1, 6, .inc16 .de⟩
  | .dd_inc_D => ⟨true, 1, 1, 4, .incLoc (.reg .d)⟩
  | .dd_dec_D => ⟨true, 1, 1, 4, .decLoc (.reg .d)⟩
  | .dd_ld_D_n n => ⟨true, 2, 1, 7, .ld8 (.reg .d) (.imm n)⟩
  | .dd_rla => ⟨true, 1, 1, 4, .rotA .rl⟩
  | .dd_jr_e e => ⟨true, 2, 1, 12, .jr e⟩
  | .add_IX_DE => ⟨false, 2, 2, 15, .add16 .ix .de⟩
  | .dd_ld_A_mDE => ⟨true, 1, 1, 7, .loadA .de⟩
  | .dd_dec_DE => ⟨true, 1, 1, 6, .dec16 .de⟩
  | .dd_inc_E => ⟨true, 1, 1, 4, .incLoc (.reg .e)⟩
  | .dd_dec_E => ⟨true, 1, 1, 4, .decLoc (.reg .e)⟩
  | .dd_ld_E_n n => ⟨true, 2, 1, 7, .ld8 (.reg .e) (.imm n)⟩
  | .dd_rra => ⟨true, 1, 1, 4, .rotA .rr⟩
  | .dd_jr_NZ_e e => ⟨true, 2, 1, 7, .jrIf .nz e⟩
  | .ld_IX_nn nn => ⟨false, 4, 2, 14, .ld16 .ix nn⟩
  | .ld_mnn_IX nn => ⟨false, 4, 2, 20, .store16 nn .ix⟩
  | .inc_IX => ⟨false, 2, 2, 10, .inc16 .ix⟩
  | .inc_IXH => ⟨false, 2, 2, 8, .incLoc (.reg .ixh)⟩
  | .dec_IXH => ⟨false, 2, 2, 8, .decLoc (.reg .ixh)⟩
  | .ld_IXH_n n => ⟨false, 3, 2, 11, .ld8 (.reg .ixh) (.imm n)⟩
  | .dd_daa => ⟨true, 1, 1, 4, .daa⟩
  | .dd_jr_Z_e e => ⟨true, 2, 1, 7, .jrIf .z e⟩
  | .add_IX_IX => ⟨false, 2, 2, 15, .add16 .ix .ix⟩
  | .ld_IX_mnn nn => ⟨false, 4, 2, 20, .load16 .ix nn⟩
  | .dec_IX => ⟨false, 2, 2, 10, .dec16 .ix⟩
  | .inc_IXL => ⟨false, 2, 2, 8, .incLoc (.reg .ixl)⟩
  | .dec_IXL => ⟨false, 2, 2, 8, .decLoc (.reg .ixl)⟩
  | .ld_IXL_n n => ⟨false, 3, 2, 11, .ld8 (.reg .ixl) (.imm n)⟩
  | .dd_cpl => ⟨true, 1, 1, 4, .cpl⟩
  | .dd_jr_NC_e e => ⟨true, 2, 1, 7, .jrIf .nc e⟩
  | .dd_ld_SP_nn nn => ⟨true, 3, 1, 10, .ld16 .sp nn⟩
  | .dd_ld_mnn_A nn => ⟨true, 3, 1, 13, .storeA (.abs nn)⟩
  | .dd_inc_SP => ⟨true, 1, 1, 6, .inc16 .sp⟩
  | .inc_mIXd d => ⟨false, 3, 2, 23, .incLoc (.mem (.idx .ix d))⟩
  | .dec_mIXd d => ⟨false, 3, 2, 23, .decLoc (.mem (.idx .ix d))⟩
  | .ld_mIXd_n d n => ⟨false, 4, 2, 19, .ld8 (.mem (.idx .ix d)) (.imm n)⟩
  | .dd_scf => ⟨true, 1, 1, 4, .scf⟩
  | .dd_jr_C_e e => ⟨true, 2, 1, 7, .jrIf .c e⟩
  | .add_IX_SP => ⟨false, 2, 2, 15, .add16 .ix .sp⟩
  | .dd_ld_A_mnn nn => ⟨true, 3, 1, 13, .loadA (.abs nn)⟩
  | .dd_dec_SP => ⟨true, 1, 1, 6, .dec16 .sp⟩
  | .dd_inc_A => ⟨true, 1, 1, 4, .incLoc (.reg .a)⟩
  | .dd_dec_A => ⟨true, 1, 1, 4, .decLoc (.reg .a)⟩
  | .dd_ld_A_n n => ⟨true, 2, 1, 7, .ld8 (.reg .a) (.imm n)⟩
  | .dd_ccf => ⟨true, 1, 1, 4, .ccf⟩
  | .dd_ld_B_B => ⟨true, 1, 1, 4, .ld8 (.reg .b) (.loc (.reg .b))⟩
  | .dd_ld_B_C => ⟨true, 1, 1, 4, .ld8 (.reg .b) (.loc (.reg .c))⟩
  | .dd_ld_B_D => ⟨true, 1, 1, 4, .ld8 (.reg .b) (.loc (.reg .d))⟩
  | .dd_ld_B_E => ⟨true, 1, 1, 4, .ld8 (.reg .b) (.loc (.reg .e))⟩
  | .ld_B_IXH => ⟨false, 2, 2, 8, .ld8 (.reg .b) (.loc (.reg .ixh))⟩
  | .ld_B_IXL => ⟨false, 2, 2, 8, .ld8 (.reg .b) (.loc (.reg .ixl))⟩
  | .ld_B_mIXd d => ⟨false, 3, 2, 19, .ld8 (.reg .b) (.loc (.mem (.idx .ix d)))⟩
  | .dd_ld_B_A => ⟨true, 1, 1, 4, .ld8 (.reg .b) (.loc (.reg .a))⟩
  | .dd_ld_C_B => ⟨true, 1, 1, 4, .ld8 (.reg .c) (.loc (.reg .b))⟩
  | .dd_ld_C_C => ⟨true, 1, 1, 4, .ld8 (.reg .c) (.loc (.reg .c))⟩
  | .dd_ld_C_D => ⟨true, 1, 1, 4, .ld8 (.reg .c) (.loc (.reg .d))⟩
  | .dd_ld_C_E => ⟨true, 1, 1, 4, .ld8 (.reg .c) (.loc (.reg .e))⟩
  | .ld_C_IXH => ⟨false, 2, 2, 8, .ld8 (.reg .c) (.loc (.reg .ixh))⟩
  | .ld_C_IXL => ⟨false, 2, 2, 8, .ld8 (.reg .c) (.loc (.reg .ixl))⟩
  | .ld_C_mIXd d => ⟨false, 3, 2, 19, .ld8 (.reg .c) (.loc (.mem (.idx .ix d)))⟩
  | .dd_ld_C_A => ⟨true, 1, 1, 4, .ld8 (.reg .c) (.loc (.reg .a))⟩
  | .dd_ld_D_B => ⟨true, 1, 1, 4, .ld8 (.reg .d) (.loc (.reg .b))⟩
  | .dd_ld_D_C => ⟨true, 1, 1, 4, .ld8 (.reg .d) (.loc (.reg .c))⟩
  | .dd_ld_D_D => ⟨true, 1, 1, 4, .ld8 (.reg .d) (.loc (.reg .d))⟩
  | .dd_ld_D_E => ⟨true, 1, 1, 4, .ld8 (.reg .d) (.loc (.reg .e))⟩
  | .ld_D_IXH => ⟨false, 2, 2, 8, .ld8 (.reg .d) (.loc (.reg .ixh))⟩
  | .ld_D_IXL => ⟨false, 2, 2, 8, .ld8 (.reg .d) (.loc (.reg .ixl))⟩
  | .ld_D_mIXd d => ⟨false, 3, 2, 19, .ld8 (.reg .d) (.loc (.mem (.idx .ix d)))⟩
  | .dd_ld_D_A => ⟨true, 1, 1, 4, .ld8 (.reg .d) (.loc (.reg .a))⟩
  | .dd_ld_E_B => ⟨true, 1, 1, 4, .ld8 (.reg .e) (.loc (.reg .b))⟩
  | .dd_ld_E_C => ⟨true, 1, 1, 4, .ld8 (.reg .e) (.loc (.reg .c))⟩
  | .dd_ld_E_D => ⟨true, 1, 1, 4, .ld8 (.reg .e) (.loc (.reg .d))⟩
  | .dd_ld_E_E => ⟨true, 1, 1, 4, .ld8 (.reg .e) (.loc (.reg .e))⟩
  | .ld_E_IXH => ⟨false, 2, 2, 8, .ld8 (.reg .e) (.loc (.reg .ixh))⟩
  | .ld_E_IXL => ⟨false, 2, 2, 8, .ld8 (.reg .e) (.loc (.reg .ixl))⟩
  | .ld_E_mIXd d => ⟨false, 3, 2, 19, .ld8 (.reg .e) (.loc (.mem (.idx .ix d)))⟩
  | .dd_ld_E_A => ⟨true, 1, 1, 4, .ld8 (.reg .e) (.loc (.reg .a))⟩
  | .ld_IXH_B => ⟨false, 2, 2, 8, .ld8 (.reg .ixh) (.loc (.reg .b))⟩
  | .ld_IXH_C => ⟨false, 2, 2, 8, .ld8 (.reg .ixh) (.loc (.reg .c))⟩
  | .ld_IXH_D => ⟨false, 2, 2, 8, .ld8 (.reg .ixh) (.loc (.reg .d))⟩
  | .ld_IXH_E => ⟨false, 2, 2, 8, .ld8 (.reg .ixh) (.loc (.reg .e))⟩
  | .ld_IXH_IXH => ⟨false, 2, 2, 8, .ld8 (.reg .ixh) (.loc (.reg .ixh))⟩
  | .ld_IXH_IXL => ⟨false, 2, 2, 8, .ld8 (.reg .ixh) (.loc (.reg .ixl))⟩
  | .ld_H_mIXd d => ⟨false, 3, 2, 19, .ld8 (.reg .h) (.loc (.mem (.idx .ix d)))⟩
  | .ld_IXH_A => ⟨false, 2, 2, 8, .ld8 (.reg .ixh) (.loc (.reg .a))⟩
  | .ld_IXL_B => ⟨false, 2, 2, 8, .ld8 (.reg .ixl) (.loc (.reg .b))⟩
  | .ld_IXL_C => ⟨false, 2, 2, 8, .ld8 (.reg .ixl) (.loc (.reg .c))⟩
  | .ld_IXL_D => ⟨false, 2, 2, 8, .ld8 (.reg .ixl) (.loc (.reg .d))⟩
  | .ld_IXL_E => ⟨false, 2, 2, 8, .ld8 (.reg .ixl) (.loc (.reg .e))⟩
  | .ld_IXL_IXH => ⟨false, 2, 2, 8, .ld8 (.reg .ixl) (.loc (.reg .ixh))⟩
  | .ld_IXL_IXL => ⟨false, 2, 2, 8, .ld8 (.reg .ixl) (.loc (.reg .ixl))⟩
  | .ld_L_mIXd d => ⟨false, 3, 2, 19, .ld8 (.reg .l) (.loc (.mem (.idx .ix d)))⟩
  | .ld_IXL_A => ⟨false, 2, 2, 8, .ld8 (.reg .ixl) (.loc (.reg .a))⟩
  | .ld_mIXd_B d => ⟨false, 3, 2, 19, .ld8 (.mem (.idx .ix d)) (.loc (.reg .b))⟩
  | .ld_mIXd_C d => ⟨false, 3, 2, 19, .ld8 (.mem (.idx .ix d)) (.loc (.reg .c))⟩
  | .ld_mIXd_D d => ⟨false, 3, 2, 19, .ld8 (.mem (.idx .ix d)) (.loc (.reg .d))⟩
  | .ld_mIXd_E d => ⟨false, 3, 2, 19, .ld8 (.mem (.idx .ix d)) (.loc (.reg .e))⟩
  | .ld_mIXd_H d => ⟨false, 3, 2, 19, .ld8 (.mem (.idx .ix d)) (.loc (.reg .h))⟩
  | .ld_mIXd_L d => ⟨false, 3, 2, 19, .ld8 (.mem (.idx .ix d)) (.loc (.reg .l))⟩
  | .dd_halt => ⟨true, 1, 1, 4, .halt⟩
  | .ld_mIXd_A d => ⟨false, 3, 2, 19, .ld8 (.mem (.idx .ix d)) (.loc (.reg .a))⟩
  | .dd_ld_A_B => ⟨true, 1, 1, 4, .ld8 (.reg .a) (.loc (.reg .b))⟩
  | .dd_ld_A_C => ⟨true, 1, 1, 4, .ld8 (.reg .a) (.loc (.reg .c))⟩
  | .dd_ld_A_D => ⟨true, 1, 1, 4, .ld8 (.reg .a) (.loc (.reg .d))⟩
  | .dd_ld_A_E => ⟨true, 1, 1, 4, .ld8 (.reg .a) (.loc (.reg .e))⟩
  | .ld_A_IXH => ⟨false, 2, 2, 8, .ld8 (.reg .a) (.loc (.reg .ixh))⟩
  | .ld_A_IXL => ⟨false, 2, 2, 8, .ld8 (.reg .a) (.loc (.reg .ixl))⟩
  | .ld_A_mIXd d => ⟨false, 3, 2, 19, .ld8 (.reg .a) (.loc (.mem (.idx .ix d)))⟩
  | .dd_ld_A_A => ⟨true, 1, 1, 4, .ld8 (.reg .a) (.loc (.reg .a))⟩
  | .dd_add_A_B => ⟨true, 1, 1, 4, .alu .add (.loc (.reg .b))⟩
  | .dd_add_A_C => ⟨true, 1, 1, 4, .alu .add (.loc (.reg .c))⟩
  | .dd_add_A_D => ⟨true, 1, 1, 4, .alu .add (.loc (.reg .d))⟩
  | .dd_add_A_E => ⟨true, 1, 1, 4, .alu .add (.loc (.reg .e))⟩
  | .add_A_IXH => ⟨false, 2, 2, 8, .alu .add (.loc (.reg .ixh))⟩
  | .add_A_IXL => ⟨false, 2, 2, 8, .alu .add (.loc (.reg .ixl))⟩
  | .add_A_mIXd d => ⟨false, 3, 2, 19, .alu .add (.loc (.mem (.idx .ix d)))⟩
  | .dd_add_A_A => ⟨true, 1, 1, 4, .alu .add (.loc (.reg .a))⟩
  | .dd_adc_A_B => ⟨true, 1, 1, 4, .alu .adc (.loc (.reg .b))⟩
  | .dd_adc_A_C => ⟨true, 1, 1, 4, .alu .adc (.loc (.reg .c))⟩
  | .dd_adc_A_D => ⟨true, 1, 1, 4, .alu .adc (.loc (.reg .d))⟩
  | .dd_adc_A_E => ⟨true, 1, 1, 4, .alu .adc (.loc (.reg .e))⟩
  | .adc_A_IXH => ⟨false, 2, 2, 8, .alu .adc (.loc (.reg .ixh))⟩
  | .adc_A_IXL => ⟨false, 2, 2, 8, .alu .adc (.loc (.reg .ixl))⟩
  | .adc_A_mIXd d => ⟨false, 3, 2, 19, .alu .adc (.loc (.mem (.idx .ix d)))⟩
  | .dd_adc_A_A => ⟨true, 1, 1, 4, .alu .adc (.loc (.reg .a))⟩
  | .dd_sub_B => ⟨true, 1, 1, 4, .alu .sub (.loc (.reg .b))⟩
  | .dd_sub_C => ⟨true, 1, 1, 4, .alu .sub (.loc (.reg .c))⟩
  | .dd_sub_D => ⟨true, 1, 1, 4, .alu .sub (.loc (.reg .d))⟩
  | .dd_sub_E => ⟨true, 1, 1, 4, .alu .sub (.loc (.reg .e))⟩
  | .sub_IXH => ⟨false, 2, 2, 8, .alu .sub (.loc (.reg .ixh))⟩
  | .sub_IXL => ⟨false, 2, 2, 8, .alu .sub (.loc (.reg .ixl))⟩
  | .sub_mIXd d => ⟨false, 3, 2, 19, .alu .sub (.loc (.mem (.idx .ix d)))⟩
  | .dd_sub_A => ⟨true, 1, 1, 4, .alu .sub (.loc (.reg .a))⟩
  | .dd_sbc_A_B => ⟨true, 1, 1, 4, .alu .sbc (.loc (.reg .b))⟩
  | .dd_sbc_A_C => ⟨true, 1, 1, 4, .alu .sbc (.loc (.reg .c))⟩
  | .dd_sbc_A_D => ⟨true, 1, 1, 4, .alu .sbc (.loc (.reg .d))⟩
  | .dd_sbc_A_E => ⟨true, 1, 1, 4, .alu .sbc (.loc (.reg .e))⟩
  | .sbc_A_IXH => ⟨false, 2, 2, 8, .alu .sbc (.loc (.reg .ixh))⟩
  | .sbc_A_IXL => ⟨false, 2, 2, 8, .alu .sbc (.loc (.reg .ixl))⟩
  | .sbc_A_mIXd d => ⟨false, 3, 2, 19, .alu .sbc (.loc (.mem (.idx .ix d)))⟩
  | .dd_sbc_A_A => ⟨true, 1, 1, 4, .alu .sbc (.loc (.reg .a))⟩
  | .dd_and_B => ⟨true, 1, 1, 4, .alu .and (.loc (.reg .b))⟩
  | .dd_and_C => ⟨true, 1, 1, 4, .alu .and (.loc (.reg .c))⟩
  | .dd_and_D => ⟨true, 1, 1, 4, .alu .and (.loc (.reg .d))⟩
  | .dd_and_E => ⟨true, 1, 1, 4, .alu .and (.loc (.reg .e))⟩
  | .and_IXH => ⟨false, 2, 2, 8, .alu .and (.loc (.reg .ixh))⟩
  | .and_IXL => ⟨false, 2, 2, 8, .alu .and (.loc (.reg .ixl))⟩
  | .and_mIXd d => ⟨false, 3, 2, 19, .alu .and (.loc (.mem (.idx .ix d)))⟩
  | .dd_and_A => ⟨true, 1, 1, 4, .alu .and (.loc (.reg .a))⟩
  | .dd_xor_B => ⟨true, 1, 1, 4, .alu .xor (.loc (.reg .b))⟩
  | .dd_xor_C => ⟨true, 1, 1, 4, .alu .xor (.loc (.reg .c))⟩
  | .dd_xor_D => ⟨true, 1, 1, 4, .alu .xor (.loc (.reg .d))⟩
  | .dd_xor_E => ⟨true, 1, 1, 4, .alu .xor (.loc (.reg .e))⟩
  | .xor_IXH => ⟨false, 2, 2, 8, .alu .xor (.loc (.reg .ixh))⟩
  | .xor_IXL => ⟨false, 2, 2, 8, .alu .xor (.loc (.reg .ixl))⟩
  | .xor_mIXd d => ⟨false, 3, 2, 19, .alu .xor (.loc (.mem (.idx .ix d)))⟩
  | .dd_xor_A => ⟨true, 1, 1, 4, .alu .xor (.loc (.reg .a))⟩
  | .dd_or_B => ⟨true, 1, 1, 4, .alu .or (.loc (.reg .b))⟩
  | .dd_or_C => ⟨true, 1, 1, 4, .alu .or (.loc (.reg .c))⟩
  | .dd_or_D => ⟨true, 1, 1, 4, .alu .or (.loc (.reg .d))⟩
  | .dd_or_E => ⟨true, 1, 1, 4, .alu .or (.loc (.reg .e))⟩
  | .or_IXH => ⟨false, 2, 2, 8, .alu .or (.loc (.reg .ixh))⟩
  | .or_IXL => ⟨false, 2, 2, 8, .alu .or (.loc (.reg .ixl))⟩
  | .or_mIXd d => ⟨false, 3, 2, 19, .alu .or (.loc (.mem (.idx .ix d)))⟩
  | .dd_or_A => ⟨true, 1, 1, 4, .alu .or (.loc (.reg .a))⟩
  | .dd_cp_B => ⟨true, 1, 1, 4, .alu .cp (.loc (.reg .b))⟩
  | .dd_cp_C => ⟨true, 1, 1, 4, .alu .cp (.loc (.reg .c))⟩
  | .dd_cp_D => ⟨true, 1, 1, 4, .alu .cp (.loc (.reg .d))⟩
  | .dd_cp_E => ⟨true, 1, 1, 4, .alu .cp (.loc (.reg .e))⟩
  | .cp_IXH => ⟨false, 2, 2, 8, .alu .cp (.loc (.reg .ixh))⟩
  | .cp_IXL => ⟨false, 2, 2, 8, .alu .cp (.loc (.reg .ixl))⟩
  | .cp_mIXd d => ⟨false, 3, 2, 19, .alu .cp (.loc (.mem (.idx .ix d)))⟩
  | .dd_cp_A => ⟨true, 1, 1, 4, .alu .cp (.loc (.reg .a))⟩
  | .dd_ret_NZ => ⟨true, 1, 1, 5, .retIf .nz⟩
  | .dd_pop_BC => ⟨true, 1, 1, 10, .pop .bc⟩
  | .dd_jp_NZ_nn nn => ⟨true, 3, 1, 10, .jpIf .nz nn⟩
  | .dd_jp_nn nn => ⟨true, 3, 1, 10, .jp nn⟩
  | .dd_call_NZ_nn nn => ⟨true, 3, 1, 10, .callIf .nz nn⟩
  | .dd_push_BC => ⟨true, 1, 1, 11, .push .bc⟩
  | .dd_add_A_n n => ⟨true, 2, 1, 7, .alu .add (.imm n)⟩
  | .dd_rst_00h => ⟨true, 1, 1, 11, .rst 0x00⟩
  | .dd_ret_Z => ⟨true, 1, 1, 5, .retIf .z⟩
  | .dd_ret => ⟨true, 1, 1, 10, .ret⟩
  | .dd_jp_Z_nn nn => ⟨true, 3, 1, 10, .jpIf .z nn⟩
  | .dd_call_Z_nn nn => ⟨true, 3, 1, 10, .callIf .z nn⟩
  | .dd_call_nn nn => ⟨true, 3, 1, 17, .call nn⟩
  | .dd_adc_A_n n => ⟨true, 2, 1, 7, .alu .adc (.imm n)⟩
  | .dd_rst_08h => ⟨true, 1, 1, 11, .rst 0x08⟩
  | .dd_ret_NC => ⟨true, 1, 1, 5, .retIf .nc⟩
  | .dd_pop_DE => ⟨true, 1, 1, 10, .pop .de⟩
  | .dd_jp_NC_nn nn => ⟨true, 3, 1, 10, .jpIf .nc nn⟩
  | .dd_out_mn_A n => ⟨true, 2, 1, 11, .outA n⟩
  | .dd_call_NC_nn nn => ⟨true, 3, 1, 10, .callIf .nc nn⟩
  | .dd_push_DE => ⟨true, 1, 1, 11, .push .de⟩
  | .dd_sub_n n => ⟨true, 2, 1, 7, .alu .sub (.imm n)⟩
  | .dd_rst_10h => ⟨true, 1, 1, 11, .rst 0x10⟩
  | .dd_ret_C => ⟨true, 1, 1, 5, .retIf .c⟩
  | .dd_exx => ⟨true, 1, 1, 4, .exx⟩
  | .dd_jp_C_nn nn => ⟨true, 3, 1, 10, .jpIf .c nn⟩
  | .dd_in_A_mn n => ⟨true, 2, 1, 11, .inA n⟩
  | .dd_call_C_nn nn => ⟨true, 3, 1, 10, .callIf .c nn⟩
  | .dd_sbc_A_n n => ⟨true, 2, 1, 7, .alu .sbc (.imm n)⟩
  | .dd_rst_18h => ⟨true, 1, 1, 11, .rst 0x18⟩
  | .dd_ret_PO => ⟨true, 1, 1, 5, .retIf .po⟩
  | .pop_IX => ⟨false, 2, 2, 14, .pop .ix⟩
  | .dd_jp_PO_nn nn => ⟨true, 3, 1, 10, .jpIf .po nn⟩
  | .ex_mSP_IX => ⟨false, 2, 2, 23, .exSp .ix⟩
  | .dd_call_PO_nn nn => ⟨true, 3, 1, 10, .callIf .po nn⟩
  | .push_IX => ⟨false, 2, 2, 15, .push .ix⟩
  | .dd_and_n n => ⟨true, 2, 1, 7, .alu .and (.imm n)⟩
  | .dd_rst_20h => ⟨true, 1, 1, 11, .rst 0x20⟩
  | .dd_ret_PE => ⟨true, 1, 1, 5, .retIf .pe⟩
  | .jp_mIX => ⟨false, 2, 2, 8, .jpReg .ix⟩
  | .dd_jp_PE_nn nn => ⟨true, 3, 1, 10, .jpIf .pe nn⟩
  | .dd_ex_DE_HL => ⟨true, 1, 1, 4, .exDeHl⟩
  | .dd_call_PE_nn nn => ⟨true, 3, 1, 10, .callIf .pe nn⟩
  | .dd_xor_n n => ⟨true, 2, 1, 7, .alu .xor (.imm n)⟩
  | .dd_rst_28h => ⟨true, 1, 1, 11, .rst 0x28⟩
  | .dd_ret_P => ⟨true, 1, 1, 5, .retIf .p⟩
  | .dd_pop_AF => ⟨true, 1, 1, 10, .pop .af⟩
  | .dd_jp_P_nn nn => ⟨true, 3, 1, 10, .jpIf .p nn⟩
  | .dd_di => ⟨true, 1, 1, 4, .di⟩
  | .dd_call_P_nn nn => ⟨true, 3, 1, 10, .callIf .p nn⟩
  | .dd_push_AF => ⟨true, 1, 1, 11, .push .af⟩
  | .dd_or_n n => ⟨true, 2, 1, 7, .alu .or (.imm n)⟩
  | .dd_rst_30h => ⟨true, 1, 1, 11, .rst 0x30⟩
  | .dd_ret_M => ⟨true, 1, 1, 5, .retIf .m⟩
  | .ld_SP_IX => ⟨false, 2, 2, 10, .ldSp .ix⟩
  | .dd_jp_M_nn nn => ⟨true, 3, 1, 10, .jpIf .m nn⟩
  | .dd_ei => ⟨true, 1, 1, 4, .ei⟩
  | .dd_call_M_nn nn => ⟨true, 3, 1, 10, .callIf .m nn⟩
  | .dd_cp_n n => ⟨true, 2, 1, 7, .alu .cp (.imm n)⟩
  | .dd_rst_38h => ⟨true, 1, 1, 11, .rst 0x38⟩
  | .rlc_mIXd_B d => ⟨false, 4, 2, 23, .rotIndexed .rlc .ix d (some .b)⟩
  | .rlc_mIXd_C d => ⟨false, 4, 2, 23, .rotIndexed .rlc .ix d (some .c)⟩
  | .rlc_mIXd_D d => ⟨false, 4, 2, 23, .rotIndexed .rlc .ix d (some .d)⟩
  | .rlc_mIXd_E d => ⟨false, 4, 2, 23, .rotIndexed .rlc .ix d (some .e)⟩
  | .rlc_mIXd_H d => ⟨false, 4, 2, 23, .rotIndexed .rlc .ix d (some .h)⟩
  | .rlc_mIXd_L d => ⟨false, 4, 2, 23, .rotIndexed .rlc .ix d (some .l)⟩
  | .rlc_mIXd d => ⟨false, 4, 2, 23, .rotIndexed .rlc .ix d none⟩
  | .rlc_mIXd_A d => ⟨false, 4, 2, 23, .rotIndexed .rlc .ix d (some .a)⟩
  | .rrc_mIXd_B d => ⟨false, 4, 2, 23, .rotIndexed .rrc .ix d (some .b)⟩
  | .rrc_mIXd_C d => ⟨false, 4, 2, 23, .rotIndexed .rrc .ix d (some .c)⟩
  | .rrc_mIXd_D d => ⟨false, 4, 2, 23, .rotIndexed .rrc .ix d (some .d)⟩
  | .rrc_mIXd_E d => ⟨false, 4, 2, 23, .rotIndexed .rrc .ix d (some .e)⟩
  | .rrc_mIXd_H d => ⟨false, 4, 2, 23, .rotIndexed .rrc .ix d (some .h)⟩
  | .rrc_mIXd_L d => ⟨false, 4, 2, 23, .rotIndexed .rrc .ix d (some .l)⟩
  | .rrc_mIXd d => ⟨false, 4, 2, 23, .rotIndexed .rrc .ix d none⟩
  | .rrc_mIXd_A d => ⟨false, 4, 2, 23, .rotIndexed .rrc .ix d (some .a)⟩
  | .rl_mIXd_B d => ⟨false, 4, 2, 23, .rotIndexed .rl .ix d (some .b)⟩
  | .rl_mIXd_C d => ⟨false, 4, 2, 23, .rotIndexed .rl .ix d (some .c)⟩
  | .rl_mIXd_D d => ⟨false, 4, 2, 23, .rotIndexed .rl .ix d (some .d)⟩
  | .rl_mIXd_E d => ⟨false, 4, 2, 23, .rotIndexed .rl .ix d (some .e)⟩
  | .rl_mIXd_H d => ⟨false, 4, 2, 23, .rotIndexed .rl .ix d (some .h)⟩
  | .rl_mIXd_L d => ⟨false, 4, 2, 23, .rotIndexed .rl .ix d (some .l)⟩
  | .rl_mIXd d => ⟨false, 4, 2, 23, .rotIndexed .rl .ix d none⟩
  | .rl_mIXd_A d => ⟨false, 4, 2, 23, .rotIndexed .rl .ix d (some .a)⟩
  | .rr_mIXd_B d => ⟨false, 4, 2, 23, .rotIndexed .rr .ix d (some .b)⟩
  | .rr_mIXd_C d => ⟨false, 4, 2, 23, .rotIndexed .rr .ix d (some .c)⟩
  | .rr_mIXd_D d => ⟨false, 4, 2, 23, .rotIndexed .rr .ix d (some .d)⟩
  | .rr_mIXd_E d => ⟨false, 4, 2, 23, .rotIndexed .rr .ix d (some .e)⟩
  | .rr_mIXd_H d => ⟨false, 4, 2, 23, .rotIndexed .rr .ix d (some .h)⟩
  | .rr_mIXd_L d => ⟨false, 4, 2, 23, .rotIndexed .rr .ix d (some .l)⟩
  | .rr_mIXd d => ⟨false, 4, 2, 23, .rotIndexed .rr .ix d none⟩
  | .rr_mIXd_A d => ⟨false, 4, 2, 23, .rotIndexed .rr .ix d (some .a)⟩
  | .sla_mIXd_B d => ⟨false, 4, 2, 23, .rotIndexed .sla .ix d (some .b)⟩
  | .sla_mIXd_C d => ⟨false, 4, 2, 23, .rotIndexed .sla .ix d (some .c)⟩
  | .sla_mIXd_D d => ⟨false, 4, 2, 23, .rotIndexed .sla .ix d (some .d)⟩
  | .sla_mIXd_E d => ⟨false, 4, 2, 23, .rotIndexed .sla .ix d (some .e)⟩
  | .sla_mIXd_H d => ⟨false, 4, 2, 23, .rotIndexed .sla .ix d (some .h)⟩
  | .sla_mIXd_L d => ⟨false, 4, 2, 23, .rotIndexed .sla .ix d (some .l)⟩
  | .sla_mIXd d => ⟨false, 4, 2, 23, .rotIndexed .sla .ix d none⟩
  | .sla_mIXd_A d => ⟨false, 4, 2, 23, .rotIndexed .sla .ix d (some .a)⟩
  | .sra_mIXd_B d => ⟨false, 4, 2, 23, .rotIndexed .sra .ix d (some .b)⟩
  | .sra_mIXd_C d => ⟨false, 4, 2, 23, .rotIndexed .sra .ix d (some .c)⟩
  | .sra_mIXd_D d => ⟨false, 4, 2, 23, .rotIndexed .sra .ix d (some .d)⟩
  | .sra_mIXd_E d => ⟨false, 4, 2, 23, .rotIndexed .sra .ix d (some .e)⟩
  | .sra_mIXd_H d => ⟨false, 4, 2, 23, .rotIndexed .sra .ix d (some .h)⟩
  | .sra_mIXd_L d => ⟨false, 4, 2, 23, .rotIndexed .sra .ix d (some .l)⟩
  | .sra_mIXd d => ⟨false, 4, 2, 23, .rotIndexed .sra .ix d none⟩
  | .sra_mIXd_A d => ⟨false, 4, 2, 23, .rotIndexed .sra .ix d (some .a)⟩
  | .sll_mIXd_B d => ⟨false, 4, 2, 23, .rotIndexed .sll .ix d (some .b)⟩
  | .sll_mIXd_C d => ⟨false, 4, 2, 23, .rotIndexed .sll .ix d (some .c)⟩
  | .sll_mIXd_D d => ⟨false, 4, 2, 23, .rotIndexed .sll .ix d (some .d)⟩
  | .sll_mIXd_E d => ⟨false, 4, 2, 23, .rotIndexed .sll .ix d (some .e)⟩
  | .sll_mIXd_H d => ⟨false, 4, 2, 23, .rotIndexed .sll .ix d (some .h)⟩
  | .sll_mIXd_L d => ⟨false, 4, 2, 23, .rotIndexed .sll .ix d (some .l)⟩
  | .sll_mIXd d => ⟨false, 4, 2, 23, .rotIndexed .sll .ix d none⟩
  | .sll_mIXd_A d => ⟨false, 4, 2, 23, .rotIndexed .sll .ix d (some .a)⟩
  | .srl_mIXd_B d => ⟨false, 4, 2, 23, .rotIndexed .srl .ix d (some .b)⟩
  | .srl_mIXd_C d => ⟨false, 4, 2, 23, .rotIndexed .srl .ix d (some .c)⟩
  | .srl_mIXd_D d => ⟨false, 4, 2, 23, .rotIndexed .srl .ix d (some .d)⟩
  | .srl_mIXd_E d => ⟨false, 4, 2, 23, .rotIndexed .srl .ix d (some .e)⟩
  | .srl_mIXd_H d => ⟨false, 4, 2, 23, .rotIndexed .srl .ix d (some .h)⟩
  | .srl_mIXd_L d => ⟨false, 4, 2, 23, .rotIndexed .srl .ix d (some .l)⟩
  | .srl_mIXd d => ⟨false, 4, 2, 23, .rotIndexed .srl .ix d none⟩
  | .srl_mIXd_A d => ⟨false, 4, 2, 23, .rotIndexed .srl .ix d (some .a)⟩
  | .bit_0_mIXd _ d => ⟨false, 4, 2, 20, .bitMem 0 (.idx .ix d)⟩
  | .bit_1_mIXd _ d => ⟨false, 4, 2, 20, .bitMem 1 (.idx .ix d)⟩
  | .bit_2_mIXd _ d => ⟨false, 4, 2, 20, .bitMem 2 (.idx .ix d)⟩
  | .bit_3_mIXd _ d => ⟨false, 4, 2, 20, .bitMem 3 (.idx .ix d)⟩
  | .bit_4_mIXd _ d => ⟨false, 4, 2, 20, .bitMem 4 (.idx .ix d)⟩
  | .bit_5_mIXd _ d => ⟨false, 4, 2, 20, .bitMem 5 (.idx .ix d)⟩
  | .bit_6_mIXd _ d => ⟨false, 4, 2, 20, .bitMem 6 (.idx .ix d)⟩
  | .bit_7_mIXd _ d => ⟨false, 4, 2, 20, .bitMem 7 (.idx .ix d)⟩
  | .res_0_mIXd_B d => ⟨false, 4, 2, 23, .resIndexed 0 .ix d (some .b)⟩
  | .res_0_mIXd_C d => ⟨false, 4, 2, 23, .resIndexed 0 .ix d (some .c)⟩
  | .res_0_mIXd_D d => ⟨false, 4, 2, 23, .resIndexed 0 .ix d (some .d)⟩
  | .res_0_mIXd_E d => ⟨false, 4, 2, 23, .resIndexed 0 .ix d (some .e)⟩
  | .res_0_mIXd_H d => ⟨false, 4, 2, 23, .resIndexed 0 .ix d (some .h)⟩
  | .res_0_mIXd_L d => ⟨false, 4, 2, 23, .resIndexed 0 .ix d (some .l)⟩
  | .res_0_mIXd d => ⟨false, 4, 2, 23, .resIndexed 0 .ix d none⟩
  | .res_0_mIXd_A d => ⟨false, 4, 2, 23, .resIndexed 0 .ix d (some .a)⟩
  | .res_1_mIXd_B d => ⟨false, 4, 2, 23, .resIndexed 1 .ix d (some .b)⟩
  | .res_1_mIXd_C d => ⟨false, 4, 2, 23, .resIndexed 1 .ix d (some .c)⟩
  | .res_1_mIXd_D d => ⟨false, 4, 2, 23, .resIndexed 1 .ix d (some .d)⟩
  | .res_1_mIXd_E d => ⟨false, 4, 2, 23, .resIndexed 1 .ix d (some .e)⟩
  | .res_1_mIXd_H d => ⟨false, 4, 2, 23, .resIndexed 1 .ix d (some .h)⟩
  | .res_1_mIXd_L d => ⟨false, 4, 2, 23, .resIndexed 1 .ix d (some .l)⟩
  | .res_1_mIXd d => ⟨false, 4, 2, 23, .resIndexed 1 .ix d none⟩
  | .res_1_mIXd_A d => ⟨false, 4, 2, 23, .resIndexed 1 .ix d (some .a)⟩
  | .res_2_mIXd_B d => ⟨false, 4, 2, 23, .resIndexed 2 .ix d (some .b)⟩
  | .res_2_mIXd_C d => ⟨false, 4, 2, 23, .resIndexed 2 .ix d (some .c)⟩
  | .res_2_mIXd_D d => ⟨false, 4, 2, 23, .resIndexed 2 .ix d (some .d)⟩
  | .res_2_mIXd_E d => ⟨false, 4, 2, 23, .resIndexed 2 .ix d (some .e)⟩
  | .res_2_mIXd_H d => ⟨false, 4, 2, 23, .resIndexed 2 .ix d (some .h)⟩
  | .res_2_mIXd_L d => ⟨false, 4, 2, 23, .resIndexed 2 .ix d (some .l)⟩
  | .res_2_mIXd d => ⟨false, 4, 2, 23, .resIndexed 2 .ix d none⟩
  | .res_2_mIXd_A d => ⟨false, 4, 2, 23, .resIndexed 2 .ix d (some .a)⟩
  | .res_3_mIXd_B d => ⟨false, 4, 2, 23, .resIndexed 3 .ix d (some .b)⟩
  | .res_3_mIXd_C d => ⟨false, 4, 2, 23, .resIndexed 3 .ix d (some .c)⟩
  | .res_3_mIXd_D d => ⟨false, 4, 2, 23, .resIndexed 3 .ix d (some .d)⟩
  | .res_3_mIXd_E d => ⟨false, 4, 2, 23, .resIndexed 3 .ix d (some .e)⟩
  | .res_3_mIXd_H d => ⟨false, 4, 2, 23, .resIndexed 3 .ix d (some .h)⟩
  | .res_3_mIXd_L d => ⟨false, 4, 2, 23, .resIndexed 3 .ix d (some .l)⟩
  | .res_3_mIXd d => ⟨false, 4, 2, 23, .resIndexed 3 .ix d none⟩
  | .res_3_mIXd_A d => ⟨false, 4, 2, 23, .resIndexed 3 .ix d (some .a)⟩
  | .res_4_mIXd_B d => ⟨false, 4, 2, 23, .resIndexed 4 .ix d (some .b)⟩
  | .res_4_mIXd_C d => ⟨false, 4, 2, 23, .resIndexed 4 .ix d (some .c)⟩
  | .res_4_mIXd_D d => ⟨false, 4, 2, 23, .resIndexed 4 .ix d (some .d)⟩
  | .res_4_mIXd_E d => ⟨false, 4, 2, 23, .resIndexed 4 .ix d (some .e)⟩
  | .res_4_mIXd_H d => ⟨false, 4, 2, 23, .resIndexed 4 .ix d (some .h)⟩
  | .res_4_mIXd_L d => ⟨false, 4, 2, 23, .resIndexed 4 .ix d (some .l)⟩
  | .res_4_mIXd d => ⟨false, 4, 2, 23, .resIndexed 4 .ix d none⟩
  | .res_4_mIXd_A d => ⟨false, 4, 2, 23, .resIndexed 4 .ix d (some .a)⟩
  | .res_5_mIXd_B d => ⟨false, 4, 2, 23, .resIndexed 5 .ix d (some .b)⟩
  | .res_5_mIXd_C d => ⟨false, 4, 2, 23, .resIndexed 5 .ix d (some .c)⟩
  | .res_5_mIXd_D d => ⟨false, 4, 2, 23, .resIndexed 5 .ix d (some .d)⟩
  | .res_5_mIXd_E d => ⟨false, 4, 2, 23, .resIndexed 5 .ix d (some .e)⟩
  | .res_5_mIXd_H d => ⟨false, 4, 2, 23, .resIndexed 5 .ix d (some .h)⟩
  | .res_5_mIXd_L d => ⟨false, 4, 2, 23, .resIndexed 5 .ix d (some .l)⟩
  | .res_5_mIXd d => ⟨false, 4, 2, 23, .resIndexed 5 .ix d none⟩
  | .res_5_mIXd_A d => ⟨false, 4, 2, 23, .resIndexed 5 .ix d (some .a)⟩
  | .res_6_mIXd_B d => ⟨false, 4, 2, 23, .resIndexed 6 .ix d (some .b)⟩
  | .res_6_mIXd_C d => ⟨false, 4, 2, 23, .resIndexed 6 .ix d (some .c)⟩
  | .res_6_mIXd_D d => ⟨false, 4, 2, 23, .resIndexed 6 .ix d (some .d)⟩
  | .res_6_mIXd_E d => ⟨false, 4, 2, 23, .resIndexed 6 .ix d (some .e)⟩
  | .res_6_mIXd_H d => ⟨false, 4, 2, 23, .resIndexed 6 .ix d (some .h)⟩
  | .res_6_mIXd_L d => ⟨false, 4, 2, 23, .resIndexed 6 .ix d (some .l)⟩
  | .res_6_mIXd d => ⟨false, 4, 2, 23, .resIndexed 6 .ix d none⟩
  | .res_6_mIXd_A d => ⟨false, 4, 2, 23, .resIndexed 6 .ix d (some .a)⟩
  | .res_7_mIXd_B d => ⟨false, 4, 2, 23, .resIndexed 7 .ix d (some .b)⟩
  | .res_7_mIXd_C d => ⟨false, 4, 2, 23, .resIndexed 7 .ix d (some .c)⟩
  | .res_7_mIXd_D d => ⟨false, 4, 2, 23, .resIndexed 7 .ix d (some .d)⟩
  | .res_7_mIXd_E d => ⟨false, 4, 2, 23, .resIndexed 7 .ix d (some .e)⟩
  | .res_7_mIXd_H d => ⟨false, 4, 2, 23, .resIndexed 7 .ix d (some .h)⟩
  | .res_7_mIXd_L d => ⟨false, 4, 2, 23, .resIndexed 7 .ix d (some .l)⟩
  | .res_7_mIXd d => ⟨false, 4, 2, 23, .resIndexed 7 .ix d none⟩
  | .res_7_mIXd_A d => ⟨false, 4, 2, 23, .resIndexed 7 .ix d (some .a)⟩
  | .set_0_mIXd_B d => ⟨false, 4, 2, 23, .setIndexed 0 .ix d (some .b)⟩
  | .set_0_mIXd_C d => ⟨false, 4, 2, 23, .setIndexed 0 .ix d (some .c)⟩
  | .set_0_mIXd_D d => ⟨false, 4, 2, 23, .setIndexed 0 .ix d (some .d)⟩
  | .set_0_mIXd_E d => ⟨false, 4, 2, 23, .setIndexed 0 .ix d (some .e)⟩
  | .set_0_mIXd_H d => ⟨false, 4, 2, 23, .setIndexed 0 .ix d (some .h)⟩
  | .set_0_mIXd_L d => ⟨false, 4, 2, 23, .setIndexed 0 .ix d (some .l)⟩
  | .set_0_mIXd d => ⟨false, 4, 2, 23, .setIndexed 0 .ix d none⟩
  | .set_0_mIXd_A d => ⟨false, 4, 2, 23, .setIndexed 0 .ix d (some .a)⟩
  | .set_1_mIXd_B d => ⟨false, 4, 2, 23, .setIndexed 1 .ix d (some .b)⟩
  | .set_1_mIXd_C d => ⟨false, 4, 2, 23, .setIndexed 1 .ix d (some .c)⟩
  | .set_1_mIXd_D d => ⟨false, 4, 2, 23, .setIndexed 1 .ix d (some .d)⟩
  | .set_1_mIXd_E d => ⟨false, 4, 2, 23, .setIndexed 1 .ix d (some .e)⟩
  | .set_1_mIXd_H d => ⟨false, 4, 2, 23, .setIndexed 1 .ix d (some .h)⟩
  | .set_1_mIXd_L d => ⟨false, 4, 2, 23, .setIndexed 1 .ix d (some .l)⟩
  | .set_1_mIXd d => ⟨false, 4, 2, 23, .setIndexed 1 .ix d none⟩
  | .set_1_mIXd_A d => ⟨false, 4, 2, 23, .setIndexed 1 .ix d (some .a)⟩
  | .set_2_mIXd_B d => ⟨false, 4, 2, 23, .setIndexed 2 .ix d (some .b)⟩
  | .set_2_mIXd_C d => ⟨false, 4, 2, 23, .setIndexed 2 .ix d (some .c)⟩
  | .set_2_mIXd_D d => ⟨false, 4, 2, 23, .setIndexed 2 .ix d (some .d)⟩
  | .set_2_mIXd_E d => ⟨false, 4, 2, 23, .setIndexed 2 .ix d (some .e)⟩
  | .set_2_mIXd_H d => ⟨false, 4, 2, 23, .setIndexed 2 .ix d (some .h)⟩
  | .set_2_mIXd_L d => ⟨false, 4, 2, 23, .setIndexed 2 .ix d (some .l)⟩
  | .set_2_mIXd d => ⟨false, 4, 2, 23, .setIndexed 2 .ix d none⟩
  | .set_2_mIXd_A d => ⟨false, 4, 2, 23, .setIndexed 2 .ix d (some .a)⟩
  | .set_3_mIXd_B d => ⟨false, 4, 2, 23, .setIndexed 3 .ix d (some .b)⟩
  | .set_3_mIXd_C d => ⟨false, 4, 2, 23, .setIndexed 3 .ix d (some .c)⟩
  | .set_3_mIXd_D d => ⟨false, 4, 2, 23, .setIndexed 3 .ix d (some .d)⟩
  | .set_3_mIXd_E d => ⟨false, 4, 2, 23, .setIndexed 3 .ix d (some .e)⟩
  | .set_3_mIXd_H d => ⟨false, 4, 2, 23, .setIndexed 3 .ix d (some .h)⟩
  | .set_3_mIXd_L d => ⟨false, 4, 2, 23, .setIndexed 3 .ix d (some .l)⟩
  | .set_3_mIXd d => ⟨false, 4, 2, 23, .setIndexed 3 .ix d none⟩
  | .set_3_mIXd_A d => ⟨false, 4, 2, 23, .setIndexed 3 .ix d (some .a)⟩
  | .set_4_mIXd_B d => ⟨false, 4, 2, 23, .setIndexed 4 .ix d (some .b)⟩
  | .set_4_mIXd_C d => ⟨false, 4, 2, 23, .setIndexed 4 .ix d (some .c)⟩
  | .set_4_mIXd_D d => ⟨false, 4, 2, 23, .setIndexed 4 .ix d (some .d)⟩
  | .set_4_mIXd_E d => ⟨false, 4, 2, 23, .setIndexed 4 .ix d (some .e)⟩
  | .set_4_mIXd_H d => ⟨false, 4, 2, 23, .setIndexed 4 .ix d (some .h)⟩
  | .set_4_mIXd_L d => ⟨false, 4, 2, 23, .setIndexed 4 .ix d (some .l)⟩
  | .set_4_mIXd d => ⟨false, 4, 2, 23, .setIndexed 4 .ix d none⟩
  | .set_4_mIXd_A d => ⟨false, 4, 2, 23, .setIndexed 4 .ix d (some .a)⟩
  | .set_5_mIXd_B d => ⟨false, 4, 2, 23, .setIndexed 5 .ix d (some .b)⟩
  | .set_5_mIXd_C d => ⟨false, 4, 2, 23, .setIndexed 5 .ix d (some .c)⟩
  | .set_5_mIXd_D d => ⟨false, 4, 2, 23, .setIndexed 5 .ix d (some .d)⟩
  | .set_5_mIXd_E d => ⟨false, 4, 2, 23, .setIndexed 5 .ix d (some .e)⟩
  | .set_5_mIXd_H d => ⟨false, 4, 2, 23, .setIndexed 5 .ix d (some .h)⟩
  | .set_5_mIXd_L d => ⟨false, 4, 2, 23, .setIndexed 5 .ix d (some .l)⟩
  | .set_5_mIXd d => ⟨false, 4, 2, 23, .setIndexed 5 .ix d none⟩
  | .set_5_mIXd_A d => ⟨false, 4, 2, 23, .setIndexed 5 .ix d (some .a)⟩
  | .set_6_mIXd_B d => ⟨false, 4, 2, 23, .setIndexed 6 .ix d (some .b)⟩
  | .set_6_mIXd_C d => ⟨false, 4, 2, 23, .setIndexed 6 .ix d (some .c)⟩
  | .set_6_mIXd_D d => ⟨false, 4, 2, 23, .setIndexed 6 .ix d (some .d)⟩
  | .set_6_mIXd_E d => ⟨false, 4, 2, 23, .setIndexed 6 .ix d (some .e)⟩
  | .set_6_mIXd_H d => ⟨false, 4, 2, 23, .setIndexed 6 .ix d (some .h)⟩
  | .set_6_mIXd_L d => ⟨false, 4, 2, 23, .setIndexed 6 .ix d (some .l)⟩
  | .set_6_mIXd d => ⟨false, 4, 2, 23, .setIndexed 6 .ix d none⟩
  | .set_6_mIXd_A d => ⟨false, 4, 2, 23, .setIndexed 6 .ix d (some .a)⟩
  | .set_7_mIXd_B d => ⟨false, 4, 2, 23, .setIndexed 7 .ix d (some .b)⟩
  | .set_7_mIXd_C d => ⟨false, 4, 2, 23, .setIndexed 7 .ix d (some .c)⟩
  | .set_7_mIXd_D d => ⟨false, 4, 2, 23, .setIndexed 7 .ix d (some .d)⟩
  | .set_7_mIXd_E d => ⟨false, 4, 2, 23, .setIndexed 7 .ix d (some .e)⟩
  | .set_7_mIXd_H d => ⟨false, 4, 2, 23, .setIndexed 7 .ix d (some .h)⟩
  | .set_7_mIXd_L d => ⟨false, 4, 2, 23, .setIndexed 7 .ix d (some .l)⟩
  | .set_7_mIXd d => ⟨false, 4, 2, 23, .setIndexed 7 .ix d none⟩
  | .set_7_mIXd_A d => ⟨false, 4, 2, 23, .setIndexed 7 .ix d (some .a)⟩
  | .redundant_DD => ⟨false, 1, 1, 4, .nop⟩
  | .ignored_DD_before_ED => ⟨false, 1, 1, 4, .nop⟩
  | .fd_nop => ⟨true, 1, 1, 4, .nop⟩
  | .fd_ld_BC_nn nn => ⟨true, 3, 1, 10, .ld16 .bc nn⟩
  | .fd_ld_mBC_A => ⟨true, 1, 1, 7, .storeA .bc⟩
  | .fd_inc_BC => ⟨true, 1, 1, 6, .inc16 .bc⟩
  | .fd_inc_B => ⟨true, 1, 1, 4, .incLoc (.reg .b)⟩
  | .fd_dec_B => ⟨true, 1, 1, 4, .decLoc (.reg .b)⟩
  | .fd_ld_B_n n => ⟨true, 2, 1, 7, .ld8 (.reg .b) (.imm n)⟩
  | .fd_rlca => ⟨true, 1, 1, 4, .rotA .rlc⟩
  | .fd_ex_AF_AF => ⟨true, 1, 1, 4, .exAf⟩
  | .add_IY_BC => ⟨false, 2, 2, 15, .add16 .iy .bc⟩
  | .fd_ld_A_mBC => ⟨true, 1, 1, 7, .loadA .bc⟩
  | .fd_dec_BC => ⟨true, 1, 1, 6, .dec16 .bc⟩
  | .fd_inc_C => ⟨true, 1, 1, 4, .incLoc (.reg .c)⟩
  | .fd_dec_C => ⟨true, 1, 1, 4, .decLoc (.reg .c)⟩
  | .fd_ld_C_n n => ⟨true, 2, 1, 7, .ld8 (.reg .c) (.imm n)⟩
  | .fd_rrca => ⟨true, 1, 1, 4, .rotA .rrc⟩
  | .fd_djnz_e e => ⟨true, 2, 1, 8, .djnz e⟩
  | .fd_ld_DE_nn nn => ⟨true, 3, 1, 10, .ld16 .de nn⟩
  | .fd_ld_mDE_A => ⟨true, 1, 1, 7, .storeA .de⟩
  | .fd_inc_DE => ⟨true, 1, 1, 6, .inc16 .de⟩
  | .fd_inc_D => ⟨true, 1, 1, 4, .incLoc (.reg .d)⟩
  | .fd_dec_D => ⟨true, 1, 1, 4, .decLoc (.reg .d)⟩
  | .fd_ld_D_n n => ⟨true, 2, 1, 7, .ld8 (.reg .d) (.imm n)⟩
  | .fd_rla => ⟨true, 1, 1, 4, .rotA .rl⟩
  | .fd_jr_e e => ⟨true, 2, 1, 12, .jr e⟩
  | .add_IY_DE => ⟨false, 2, 2, 15, .add16 .iy .de⟩
  | .fd_ld_A_mDE => ⟨true, 1, 1, 7, .loadA .de⟩
  | .fd_dec_DE => ⟨true, 1, 1, 6, .dec16 .de⟩
  | .fd_inc_E => ⟨true, 1, 1, 4, .incLoc (.reg .e)⟩
  | .fd_dec_E => ⟨true, 1, 1, 4, .decLoc (.reg .e)⟩
  | .fd_ld_E_n n => ⟨true, 2, 1, 7, .ld8 (.reg .e) (.imm n)⟩
  | .fd_rra => ⟨true, 1, 1, 4, .rotA .rr⟩
  | .fd_jr_NZ_e e => ⟨true, 2, 1, 7, .jrIf .nz e⟩
  | .ld_IY_nn nn => ⟨false, 4, 2, 14, .ld16 .iy nn⟩
  | .ld_mnn_IY nn => ⟨false, 4, 2, 20, .store16 nn .iy⟩
  | .inc_IY => ⟨false, 2, 2, 10, .inc16 .iy⟩
  | .inc_IYH => ⟨false, 2, 2, 8, .incLoc (.reg .iyh)⟩
  | .dec_IYH => ⟨false, 2, 2, 8, .decLoc (.reg .iyh)⟩
  | .ld_IYH_n n => ⟨false, 3, 2, 11, .ld8 (.reg .iyh) (.imm n)⟩
  | .fd_daa => ⟨true, 1, 1, 4, .daa⟩
  | .fd_jr_Z_e e => ⟨true, 2, 1, 7, .jrIf .z e⟩
  | .add_IY_IY => ⟨false, 2, 2, 15, .add16 .iy .iy⟩
  | .ld_IY_mnn nn => ⟨false, 4, 2, 20, .load16 .iy nn⟩
  | .dec_IY => ⟨false, 2, 2, 10, .dec16 .iy⟩
  | .inc_IYL => ⟨false, 2, 2, 8, .incLoc (.reg .iyl)⟩
  | .dec_IYL => ⟨false, 2, 2, 8, .decLoc (.reg .iyl)⟩
  | .ld_IYL_n n => ⟨false, 3, 2, 11, .ld8 (.reg .iyl) (.imm n)⟩
  | .fd_cpl => ⟨true, 1, 1, 4, .cpl⟩
  | .fd_jr_NC_e e => ⟨true, 2, 1, 7, .jrIf .nc e⟩
  | .fd_ld_SP_nn nn => ⟨true, 3, 1, 10, .ld16 .sp nn⟩
  | .fd_ld_mnn_A nn => ⟨true, 3, 1, 13, .storeA (.abs nn)⟩
  | .fd_inc_SP => ⟨true, 1, 1, 6, .inc16 .sp⟩
  | .inc_mIYd d => ⟨false, 3, 2, 23, .incLoc (.mem (.idx .iy d))⟩
  | .dec_mIYd d => ⟨false, 3, 2, 23, .decLoc (.mem (.idx .iy d))⟩
  | .ld_mIYd_n d n => ⟨false, 4, 2, 19, .ld8 (.mem (.idx .iy d)) (.imm n)⟩
  | .fd_scf => ⟨true, 1, 1, 4, .scf⟩
  | .fd_jr_C_e e => ⟨true, 2, 1, 7, .jrIf .c e⟩
  | .add_IY_SP => ⟨false, 2, 2, 15, .add16 .iy .sp⟩
  | .fd_ld_A_mnn nn => ⟨true, 3, 1, 13, .loadA (.abs nn)⟩
  | .fd_dec_SP => ⟨true, 1, 1, 6, .dec16 .sp⟩
  | .fd_inc_A => ⟨true, 1, 1, 4, .incLoc (.reg .a)⟩
  | .fd_dec_A => ⟨true, 1, 1, 4, .decLoc (.reg .a)⟩
  | .fd_ld_A_n n => ⟨true, 2, 1, 7, .ld8 (.reg .a) (.imm n)⟩
  | .fd_ccf => ⟨true, 1, 1, 4, .ccf⟩
  | .fd_ld_B_B => ⟨true, 1, 1, 4, .ld8 (.reg .b) (.loc (.reg .b))⟩
  | .fd_ld_B_C => ⟨true, 1, 1, 4, .ld8 (.reg .b) (.loc (.reg .c))⟩
  | .fd_ld_B_D => ⟨true, 1, 1, 4, .ld8 (.reg .b) (.loc (.reg .d))⟩
  | .fd_ld_B_E => ⟨true, 1, 1, 4, .ld8 (.reg .b) (.loc (.reg .e))⟩
  | .ld_B_IYH => ⟨false, 2, 2, 8, .ld8 (.reg .b) (.loc (.reg .iyh))⟩
  | .ld_B_IYL => ⟨false, 2, 2, 8, .ld8 (.reg .b) (.loc (.reg .iyl))⟩
  | .ld_B_mIYd d => ⟨false, 3, 2, 19, .ld8 (.reg .b) (.loc (.mem (.idx .iy d)))⟩
  | .fd_ld_B_A => ⟨true, 1, 1, 4, .ld8 (.reg .b) (.loc (.reg .a))⟩
  | .fd_ld_C_B => ⟨true, 1, 1, 4, .ld8 (.reg .c) (.loc (.reg .b))⟩
  | .fd_ld_C_C => ⟨true, 1, 1, 4, .ld8 (.reg .c) (.loc (.reg .c))⟩
  | .fd_ld_C_D => ⟨true, 1, 1, 4, .ld8 (.reg .c) (.loc (.reg .d))⟩
  | .fd_ld_C_E => ⟨true, 1, 1, 4, .ld8 (.reg .c) (.loc (.reg .e))⟩
  | .ld_C_IYH => ⟨false, 2, 2, 8, .ld8 (.reg .c) (.loc (.reg .iyh))⟩
  | .ld_C_IYL => ⟨false, 2, 2, 8, .ld8 (.reg .c) (.loc (.reg .iyl))⟩
  | .ld_C_mIYd d => ⟨false, 3, 2, 19, .ld8 (.reg .c) (.loc (.mem (.idx .iy d)))⟩
  | .fd_ld_C_A => ⟨true, 1, 1, 4, .ld8 (.reg .c) (.loc (.reg .a))⟩
  | .fd_ld_D_B => ⟨true, 1, 1, 4, .ld8 (.reg .d) (.loc (.reg .b))⟩
  | .fd_ld_D_C => ⟨true, 1, 1, 4, .ld8 (.reg .d) (.loc (.reg .c))⟩
  | .fd_ld_D_D => ⟨true, 1, 1, 4, .ld8 (.reg .d) (.loc (.reg .d))⟩
  | .fd_ld_D_E => ⟨true, 1, 1, 4, .ld8 (.reg .d) (.loc (.reg .e))⟩
  | .ld_D_IYH => ⟨false, 2, 2, 8, .ld8 (.reg .d) (.loc (.reg .iyh))⟩
  | .ld_D_IYL => ⟨false, 2, 2, 8, .ld8 (.reg .d) (.loc (.reg .iyl))⟩
  | .ld_D_mIYd d => ⟨false, 3, 2, 19, .ld8 (.reg .d) (.loc (.mem (.idx .iy d)))⟩
  | .fd_ld_D_A => ⟨true, 1, 1, 4, .ld8 (.reg .d) (.loc (.reg .a))⟩
  | .fd_ld_E_B => ⟨true, 1, 1, 4, .ld8 (.reg .e) (.loc (.reg .b))⟩
  | .fd_ld_E_C => ⟨true, 1, 1, 4, .ld8 (.reg .e) (.loc (.reg .c))⟩
  | .fd_ld_E_D => ⟨true, 1, 1, 4, .ld8 (.reg .e) (.loc (.reg .d))⟩
  | .fd_ld_E_E => ⟨true, 1, 1, 4, .ld8 (.reg .e) (.loc (.reg .e))⟩
  | .ld_E_IYH => ⟨false, 2, 2, 8, .ld8 (.reg .e) (.loc (.reg .iyh))⟩
  | .ld_E_IYL => ⟨false, 2, 2, 8, .ld8 (.reg .e) (.loc (.reg .iyl))⟩
  | .ld_E_mIYd d => ⟨false, 3, 2, 19, .ld8 (.reg .e) (.loc (.mem (.idx .iy d)))⟩
  | .fd_ld_E_A => ⟨true, 1, 1, 4, .ld8 (.reg .e) (.loc (.reg .a))⟩
  | .ld_IYH_B => ⟨false, 2, 2, 8, .ld8 (.reg .iyh) (.loc (.reg .b))⟩
  | .ld_IYH_C => ⟨false, 2, 2, 8, .ld8 (.reg .iyh) (.loc (.reg .c))⟩
  | .ld_IYH_D => ⟨false, 2, 2, 8, .ld8 (.reg .iyh) (.loc (.reg .d))⟩
  | .ld_IYH_E => ⟨false, 2, 2, 8, .ld8 (.reg .iyh) (.loc (.reg .e))⟩
  | .ld_IYH_IYH => ⟨false, 2, 2, 8, .ld8 (.reg .iyh) (.loc (.reg .iyh))⟩
  | .ld_IYH_IYL => ⟨false, 2, 2, 8, .ld8 (.reg .iyh) (.loc (.reg .iyl))⟩
  | .ld_H_mIYd d => ⟨false, 3, 2, 19, .ld8 (.reg .h) (.loc (.mem (.idx .iy d)))⟩
  | .ld_IYH_A => ⟨false, 2, 2, 8, .ld8 (.reg .iyh) (.loc (.reg .a))⟩
  | .ld_IYL_B => ⟨false, 2, 2, 8, .ld8 (.reg .iyl) (.loc (.reg .b))⟩
  | .ld_IYL_C => ⟨false, 2, 2, 8, .ld8 (.reg .iyl) (.loc (.reg .c))⟩
  | .ld_IYL_D => ⟨false, 2, 2, 8, .ld8 (.reg .iyl) (.loc (.reg .d))⟩
  | .ld_IYL_E => ⟨false, 2, 2, 8, .ld8 (.reg .iyl) (.loc (.reg .e))⟩
  | .ld_IYL_IYH => ⟨false, 2, 2, 8, .ld8 (.reg .iyl) (.loc (.reg .iyh))⟩
  | .ld_IYL_IYL => ⟨false, 2, 2, 8, .ld8 (.reg .iyl) (.loc (.reg .iyl))⟩
  | .ld_L_mIYd d => ⟨false, 3, 2, 19, .ld8 (.reg .l) (.loc (.mem (.idx .iy d)))⟩
  | .ld_IYL_A => ⟨false, 2, 2, 8, .ld8 (.reg .iyl) (.loc (.reg .a))⟩
  | .ld_mIYd_B d => ⟨false, 3, 2, 19, .ld8 (.mem (.idx .iy d)) (.loc (.reg .b))⟩
  | .ld_mIYd_C d => ⟨false, 3, 2, 19, .ld8 (.mem (.idx .iy d)) (.loc (.reg .c))⟩
  | .ld_mIYd_D d => ⟨false, 3, 2, 19, .ld8 (.mem (.idx .iy d)) (.loc (.reg .d))⟩
  | .ld_mIYd_E d => ⟨false, 3, 2, 19, .ld8 (.mem (.idx .iy d)) (.loc (.reg .e))⟩
  | .ld_mIYd_H d => ⟨false, 3, 2, 19, .ld8 (.mem (.idx .iy d)) (.loc (.reg .h))⟩
  | .ld_mIYd_L d => ⟨false, 3, 2, 19, .ld8 (.mem (.idx .iy d)) (.loc (.reg .l))⟩
  | .fd_halt => ⟨true, 1, 1, 4, .halt⟩
  | .ld_mIYd_A d => ⟨false, 3, 2, 19, .ld8 (.mem (.idx .iy d)) (.loc (.reg .a))⟩
  | .fd_ld_A_B => ⟨true, 1, 1, 4, .ld8 (.reg .a) (.loc (.reg .b))⟩
  | .fd_ld_A_C => ⟨true, 1, 1, 4, .ld8 (.reg .a) (.loc (.reg .c))⟩
  | .fd_ld_A_D => ⟨true, 1, 1, 4, .ld8 (.reg .a) (.loc (.reg .d))⟩
  | .fd_ld_A_E => ⟨true, 1, 1, 4, .ld8 (.reg .a) (.loc (.reg .e))⟩
  | .ld_A_IYH => ⟨false, 2, 2, 8, .ld8 (.reg .a) (.loc (.reg .iyh))⟩
  | .ld_A_IYL => ⟨false, 2, 2, 8, .ld8 (.reg .a) (.loc (.reg .iyl))⟩
  | .ld_A_mIYd d => ⟨false, 3, 2, 19, .ld8 (.reg .a) (.loc (.mem (.idx .iy d)))⟩
  | .fd_ld_A_A => ⟨true, 1, 1, 4, .ld8 (.reg .a) (.loc (.reg .a))⟩
  | .fd_add_A_B => ⟨true, 1, 1, 4, .alu .add (.loc (.reg .b))⟩
  | .fd_add_A_C => ⟨true, 1, 1, 4, .alu .add (.loc (.reg .c))⟩
  | .fd_add_A_D => ⟨true, 1, 1, 4, .alu .add (.loc (.reg .d))⟩
  | .fd_add_A_E => ⟨true, 1, 1, 4, .alu .add (.loc (.reg .e))⟩
  | .add_A_IYH => ⟨false, 2, 2, 8, .alu .add (.loc (.reg .iyh))⟩
  | .add_A_IYL => ⟨false, 2, 2, 8, .alu .add (.loc (.reg .iyl))⟩
  | .add_A_mIYd d => ⟨false, 3, 2, 19, .alu .add (.loc (.mem (.idx .iy d)))⟩
  | .fd_add_A_A => ⟨true, 1, 1, 4, .alu .add (.loc (.reg .a))⟩
  | .fd_adc_A_B => ⟨true, 1, 1, 4, .alu .adc (.loc (.reg .b))⟩
  | .fd_adc_A_C => ⟨true, 1, 1, 4, .alu .adc (.loc (.reg .c))⟩
  | .fd_adc_A_D => ⟨true, 1, 1, 4, .alu .adc (.loc (.reg .d))⟩
  | .fd_adc_A_E => ⟨true, 1, 1, 4, .alu .adc (.loc (.reg .e))⟩
  | .adc_A_IYH => ⟨false, 2, 2, 8, .alu .adc (.loc (.reg .iyh))⟩
  | .adc_A_IYL => ⟨false, 2, 2, 8, .alu .adc (.loc (.reg .iyl))⟩
  | .adc_A_mIYd d => ⟨false, 3, 2, 19, .alu .adc (.loc (.mem (.idx .iy d)))⟩
  | .fd_adc_A_A => ⟨true, 1, 1, 4, .alu .adc (.loc (.reg .a))⟩
  | .fd_sub_B => ⟨true, 1, 1, 4, .alu .sub (.loc (.reg .b))⟩
  | .fd_sub_C => ⟨true, 1, 1, 4, .alu .sub (.loc (.reg .c))⟩
  | .fd_sub_D => ⟨true, 1, 1, 4, .alu .sub (.loc (.reg .d))⟩
  | .fd_sub_E => ⟨true, 1, 1, 4, .alu .sub (.loc (.reg .e))⟩
  | .sub_IYH => ⟨false, 2, 2, 8, .alu .sub (.loc (.reg .iyh))⟩
  | .sub_IYL => ⟨false, 2, 2, 8, .alu .sub (.loc (.reg .iyl))⟩
  | .sub_mIYd d => ⟨false, 3, 2, 19, .alu .sub (.loc (.mem (.idx .iy d)))⟩
  | .fd_sub_A => ⟨true, 1, 1, 4, .alu .sub (.loc (.reg .a))⟩
  | .fd_sbc_A_B => ⟨true, 1, 1, 4, .alu .sbc (.loc (.reg .b))⟩
  | .fd_sbc_A_C => ⟨true, 1, 1, 4, .alu .sbc (.loc (.reg .c))⟩
  | .fd_sbc_A_D => ⟨true, 1, 1, 4, .alu .sbc (.loc (.reg .d))⟩
  | .fd_sbc_A_E => ⟨true, 1, 1, 4, .alu .sbc (.loc (.reg .e))⟩
  | .sbc_A_IYH => ⟨false, 2, 2, 8, .alu .sbc (.loc (.reg .iyh))⟩
  | .sbc_A_IYL => ⟨false, 2, 2, 8, .alu .sbc (.loc (.reg .iyl))⟩
  | .sbc_A_mIYd d => ⟨false, 3, 2, 19, .alu .sbc (.loc (.mem (.idx .iy d)))⟩
  | .fd_sbc_A_A => ⟨true, 1, 1, 4, .alu .sbc (.loc (.reg .a))⟩
  | .fd_and_B => ⟨true, 1, 1, 4, .alu .and (.loc (.reg .b))⟩
  | .fd_and_C => ⟨true, 1, 1, 4, .alu .and (.loc (.reg .c))⟩
  | .fd_and_D => ⟨true, 1, 1, 4, .alu .and (.loc (.reg .d))⟩
  | .fd_and_E => ⟨true, 1, 1, 4, .alu .and (.loc (.reg .e))⟩
  | .and_IYH => ⟨false, 2, 2, 8, .alu .and (.loc (.reg .iyh))⟩
  | .and_IYL => ⟨false, 2, 2, 8, .alu .and (.loc (.reg .iyl))⟩
  | .and_mIYd d => ⟨false, 3, 2, 19, .alu .and (.loc (.mem (.idx .iy d)))⟩
  | .fd_and_A => ⟨true, 1, 1, 4, .alu .and (.loc (.reg .a))⟩
  | .fd_xor_B => ⟨true, 1, 1, 4, .alu .xor (.loc (.reg .b))⟩
  | .fd_xor_C => ⟨true, 1, 1, 4, .alu .xor (.loc (.reg .c))⟩
  | .fd_xor_D => ⟨true, 1, 1, 4, .alu .xor (.loc (.reg .d))⟩
  | .fd_xor_E => ⟨true, 1, 1, 4, .alu .xor (.loc (.reg .e))⟩
  | .xor_IYH => ⟨false, 2, 2, 8, .alu .xor (.loc (.reg .iyh))⟩
  | .xor_IYL => ⟨false, 2, 2, 8, .alu .xor (.loc (.reg .iyl))⟩
  | .xor_mIYd d => ⟨false, 3, 2, 19, .alu .xor (.loc (.mem (.idx .iy d)))⟩
  | .fd_xor_A => ⟨true, 1, 1, 4, .alu .xor (.loc (.reg .a))⟩
  | .fd_or_B => ⟨true, 1, 1, 4, .alu .or (.loc (.reg .b))⟩
  | .fd_or_C => ⟨true, 1, 1, 4, .alu .or (.loc (.reg .c))⟩
  | .fd_or_D => ⟨true, 1, 1, 4, .alu .or (.loc (.reg .d))⟩
  | .fd_or_E => ⟨true, 1, 1, 4, .alu .or (.loc (.reg .e))⟩
  | .or_IYH => ⟨false, 2, 2, 8, .alu .or (.loc (.reg .iyh))⟩
  | .or_IYL => ⟨false, 2, 2, 8, .alu .or (.loc (.reg .iyl))⟩
  | .or_mIYd d => ⟨false, 3, 2, 19, .alu .or (.loc (.mem (.idx .iy d)))⟩
  | .fd_or_A => ⟨true, 1, 1, 4, .alu .or (.loc (.reg .a))⟩
  | .fd_cp_B => ⟨true, 1, 1, 4, .alu .cp (.loc (.reg .b))⟩
  | .fd_cp_C => ⟨true, 1, 1, 4, .alu .cp (.loc (.reg .c))⟩
  | .fd_cp_D => ⟨true, 1, 1, 4, .alu .cp (.loc (.reg .d))⟩
  | .fd_cp_E => ⟨true, 1, 1, 4, .alu .cp (.loc (.reg .e))⟩
  | .cp_IYH => ⟨false, 2, 2, 8, .alu .cp (.loc (.reg .iyh))⟩
  | .cp_IYL => ⟨false, 2, 2, 8, .alu .cp (.loc (.reg .iyl))⟩
  | .cp_mIYd d => ⟨false, 3, 2, 19, .alu .cp (.loc (.mem (.idx .iy d)))⟩
  | .fd_cp_A => ⟨true, 1, 1, 4, .alu .cp (.loc (.reg .a))⟩
  | .fd_ret_NZ => ⟨true, 1, 1, 5, .retIf .nz⟩
  | .fd_pop_BC => ⟨true, 1, 1, 10, .pop .bc⟩
  | .fd_jp_NZ_nn nn => ⟨true, 3, 1, 10, .jpIf .nz nn⟩
  | .fd_jp_nn nn => ⟨true, 3, 1, 10, .jp nn⟩
  | .fd_call_NZ_nn nn => ⟨true, 3, 1, 10, .callIf .nz nn⟩
  | .fd_push_BC => ⟨true, 1, 1, 11, .push .bc⟩
  | .fd_add_A_n n => ⟨true, 2, 1, 7, .alu .add (.imm n)⟩
  | .fd_rst_00h => ⟨true, 1, 1, 11, .rst 0x00⟩
  | .fd_ret_Z => ⟨true, 1, 1, 5, .retIf .z⟩
  | .fd_ret => ⟨true, 1, 1, 10, .ret⟩
  | .fd_jp_Z_nn nn => ⟨true, 3, 1, 10, .jpIf .z nn⟩
  | .fd_call_Z_nn nn => ⟨true, 3, 1, 10, .callIf .z nn⟩
  | .fd_call_nn nn => ⟨true, 3, 1, 17, .call nn⟩
  | .fd_adc_A_n n => ⟨true, 2, 1, 7, .alu .adc (.imm n)⟩
  | .fd_rst_08h => ⟨true, 1, 1, 11, .rst 0x08⟩
  | .fd_ret_NC => ⟨true, 1, 1, 5, .retIf .nc⟩
  | .fd_pop_DE => ⟨true, 1, 1, 10, .pop .de⟩
  | .fd_jp_NC_nn nn => ⟨true, 3, 1, 10, .jpIf .nc nn⟩
  | .fd_out_mn_A n => ⟨true, 2, 1, 11, .outA n⟩
  | .fd_call_NC_nn nn => ⟨true, 3, 1, 10, .callIf .nc nn⟩
  | .fd_push_DE => ⟨true, 1, 1, 11, .push .de⟩
  | .fd_sub_n n => ⟨true, 2, 1, 7, .alu .sub (.imm n)⟩
  | .fd_rst_10h => ⟨true, 1, 1, 11, .rst 0x10⟩
  | .fd_ret_C => ⟨true, 1, 1, 5, .retIf .c⟩
  | .fd_exx => ⟨true, 1, 1, 4, .exx⟩
  | .fd_jp_C_nn nn => ⟨true, 3, 1, 10, .jpIf .c nn⟩
  | .fd_in_A_mn n => ⟨true, 2, 1, 11, .inA n⟩
  | .fd_call_C_nn nn => ⟨true, 3, 1, 10, .callIf .c nn⟩
  | .fd_sbc_A_n n => ⟨true, 2, 1, 7, .alu .sbc (.imm n)⟩
  | .fd_rst_18h => ⟨true, 1, 1, 11, .rst 0x18⟩
  | .fd_ret_PO => ⟨true, 1, 1, 5, .retIf .po⟩
  | .pop_IY => ⟨false, 2, 2, 14, .pop .iy⟩
  | .fd_jp_PO_nn nn => ⟨true, 3, 1, 10, .jpIf .po nn⟩
  | .ex_mSP_IY => ⟨false, 2, 2, 23, .exSp .iy⟩
  | .fd_call_PO_nn nn => ⟨true, 3, 1, 10, .callIf .po nn⟩
  | .push_IY => ⟨false, 2, 2, 15, .push .iy⟩
  | .fd_and_n n => ⟨true, 2, 1, 7, .alu .and (.imm n)⟩
  | .fd_rst_20h => ⟨true, 1, 1, 11, .rst 0x20⟩
  | .fd_ret_PE => ⟨true, 1, 1, 5, .retIf .pe⟩
  | .jp_mIY => ⟨false, 2, 2, 8, .jpReg .iy⟩
  | .fd_jp_PE_nn nn => ⟨true, 3, 1, 10, .jpIf .pe nn⟩
  | .fd_ex_DE_HL => ⟨true, 1, 1, 4, .exDeHl⟩
  | .fd_call_PE_nn nn => ⟨true, 3, 1, 10, .callIf .pe nn⟩
  | .fd_xor_n n => ⟨true, 2, 1, 7, .alu .xor (.imm n)⟩
  | .fd_rst_28h => ⟨true, 1, 1, 11, .rst 0x28⟩
  | .fd_ret_P => ⟨true, 1, 1, 5, .retIf .p⟩
  | .fd_pop_AF => ⟨true, 1, 1, 10, .pop .af⟩
  | .fd_jp_P_nn nn => ⟨true, 3, 1, 10, .jpIf .p nn⟩
  | .fd_di => ⟨true, 1, 1, 4, .di⟩
  | .fd_call_P_nn nn => ⟨true, 3, 1, 10, .callIf .p nn⟩
  | .fd_push_AF => ⟨true, 1, 1, 11, .push .af⟩
  | .fd_or_n n => ⟨true, 2, 1, 7, .alu .or (.imm n)⟩
  | .fd_rst_30h => ⟨true, 1, 1, 11, .rst 0x30⟩
  | .fd_ret_M => ⟨true, 1, 1, 5, .retIf .m⟩
  | .ld_SP_IY => ⟨false, 2, 2, 10, .ldSp .iy⟩
  | .fd_jp_M_nn nn => ⟨true, 3, 1, 10, .jpIf .m nn⟩
  | .fd_ei => ⟨true, 1, 1, 4, .ei⟩
  | .fd_call_M_nn nn => ⟨true, 3, 1, 10, .callIf .m nn⟩
  | .fd_cp_n n => ⟨true, 2, 1, 7, .alu .cp (.imm n)⟩
  | .fd_rst_38h => ⟨true, 1, 1, 11, .rst 0x38⟩
  | .rlc_mIYd_B d => ⟨false, 4, 2, 23, .rotIndexed .rlc .iy d (some .b)⟩
  | .rlc_mIYd_C d => ⟨false, 4, 2, 23, .rotIndexed .rlc .iy d (some .c)⟩
  | .rlc_mIYd_D d => ⟨false, 4, 2, 23, .rotIndexed .rlc .iy d (some .d)⟩
  | .rlc_mIYd_E d => ⟨false, 4, 2, 23, .rotIndexed .rlc .iy d (some .e)⟩
  | .rlc_mIYd_H d => ⟨false, 4, 2, 23, .rotIndexed .rlc .iy d (some .h)⟩
  | .rlc_mIYd_L d => ⟨false, 4, 2, 23, .rotIndexed .rlc .iy d (some .l)⟩
  | .rlc_mIYd d => ⟨false, 4, 2, 23, .rotIndexed .rlc .iy d none⟩
  | .rlc_mIYd_A d => ⟨false, 4, 2, 23, .rotIndexed .rlc .iy d (some .a)⟩
  | .rrc_mIYd_B d => ⟨false, 4, 2, 23, .rotIndexed .rrc .iy d (some .b)⟩
  | .rrc_mIYd_C d => ⟨false, 4, 2, 23, .rotIndexed .rrc .iy d (some .c)⟩
  | .rrc_mIYd_D d => ⟨false, 4, 2, 23, .rotIndexed .rrc .iy d (some .d)⟩
  | .rrc_mIYd_E d => ⟨false, 4, 2, 23, .rotIndexed .rrc .iy d (some .e)⟩
  | .rrc_mIYd_H d => ⟨false, 4, 2, 23, .rotIndexed .rrc .iy d (some .h)⟩
  | .rrc_mIYd_L d => ⟨false, 4, 2, 23, .rotIndexed .rrc .iy d (some .l)⟩
  | .rrc_mIYd d => ⟨false, 4, 2, 23, .rotIndexed .rrc .iy d none⟩
  | .rrc_mIYd_A d => ⟨false, 4, 2, 23, .rotIndexed .rrc .iy d (some .a)⟩
  | .rl_mIYd_B d => ⟨false, 4, 2, 23, .rotIndexed .rl .iy d (some .b)⟩
  | .rl_mIYd_C d => ⟨false, 4, 2, 23, .rotIndexed .rl .iy d (some .c)⟩
  | .rl_mIYd_D d => ⟨false, 4, 2, 23, .rotIndexed .rl .iy d (some .d)⟩
  | .rl_mIYd_E d => ⟨false, 4, 2, 23, .rotIndexed .rl .iy d (some .e)⟩
  | .rl_mIYd_H d => ⟨false, 4, 2, 23, .rotIndexed .rl .iy d (some .h)⟩
  | .rl_mIYd_L d => ⟨false, 4, 2, 23, .rotIndexed .rl .iy d (some .l)⟩
  | .rl_mIYd d => ⟨false, 4, 2, 23, .rotIndexed .rl .iy d none⟩
  | .rl_mIYd_A d => ⟨false, 4, 2, 23, .rotIndexed .rl .iy d (some .a)⟩
  | .rr_mIYd_B d => ⟨false, 4, 2, 23, .rotIndexed .rr .iy d (some .b)⟩
  | .rr_mIYd_C d => ⟨false, 4, 2, 23, .rotIndexed .rr .iy d (some .c)⟩
  | .rr_mIYd_D d => ⟨false, 4, 2, 23, .rotIndexed .rr .iy d (some .d)⟩
  | .rr_mIYd_E d => ⟨false, 4, 2, 23, .rotIndexed .rr .iy d (some .e)⟩
  | .rr_mIYd_H d => ⟨false, 4, 2, 23, .rotIndexed .rr .iy d (some .h)⟩
  | .rr_mIYd_L d => ⟨false, 4, 2, 23, .rotIndexed .rr .iy d (some .l)⟩
  | .rr_mIYd d => ⟨false, 4, 2, 23, .rotIndexed .rr .iy d none⟩
  | .rr_mIYd_A d => ⟨false, 4, 2, 23, .rotIndexed .rr .iy d (some .a)⟩
  | .sla_mIYd_B d => ⟨false, 4, 2, 23, .rotIndexed .sla .iy d (some .b)⟩
  | .sla_mIYd_C d => ⟨false, 4, 2, 23, .rotIndexed .sla .iy d (some .c)⟩
  | .sla_mIYd_D d => ⟨false, 4, 2, 23, .rotIndexed .sla .iy d (some .d)⟩
  | .sla_mIYd_E d => ⟨false, 4, 2, 23, .rotIndexed .sla .iy d (some .e)⟩
  | .sla_mIYd_H d => ⟨false, 4, 2, 23, .rotIndexed .sla .iy d (some .h)⟩
  | .sla_mIYd_L d => ⟨false, 4, 2, 23, .rotIndexed .sla .iy d (some .l)⟩
  | .sla_mIYd d => ⟨false, 4, 2, 23, .rotIndexed .sla .iy d none⟩
  | .sla_mIYd_A d => ⟨false, 4, 2, 23, .rotIndexed .sla .iy d (some .a)⟩
  | .sra_mIYd_B d => ⟨false, 4, 2, 23, .rotIndexed .sra .iy d (some .b)⟩
  | .sra_mIYd_C d => ⟨false, 4, 2, 23, .rotIndexed .sra .iy d (some .c)⟩
  | .sra_mIYd_D d => ⟨false, 4, 2, 23, .rotIndexed .sra .iy d (some .d)⟩
  | .sra_mIYd_E d => ⟨false, 4, 2, 23, .rotIndexed .sra .iy d (some .e)⟩
  | .sra_mIYd_H d => ⟨false, 4, 2, 23, .rotIndexed .sra .iy d (some .h)⟩
  | .sra_mIYd_L d => ⟨false, 4, 2, 23, .rotIndexed .sra .iy d (some .l)⟩
  | .sra_mIYd d => ⟨false, 4, 2, 23, .rotIndexed .sra .iy d none⟩
  | .sra_mIYd_A d => ⟨false, 4, 2, 23, .rotIndexed .sra .iy d (some .a)⟩
  | .sll_mIYd_B d => ⟨false, 4, 2, 23, .rotIndexed .sll .iy d (some .b)⟩
  | .sll_mIYd_C d => ⟨false, 4, 2, 23, .rotIndexed .sll .iy d (some .c)⟩
  | .sll_mIYd_D d => ⟨false, 4, 2, 23, .rotIndexed .sll .iy d (some .d)⟩
  | .sll_mIYd_E d => ⟨false, 4, 2, 23, .rotIndexed .sll .iy d (some .e)⟩
  | .sll_mIYd_H d => ⟨false, 4, 2, 23, .rotIndexed .sll .iy d (some .h)⟩
  | .sll_mIYd_L d => ⟨false, 4, 2, 23, .rotIndexed .sll .iy d (some .l)⟩
  | .sll_mIYd d => ⟨false, 4, 2, 23, .rotIndexed .sll .iy d none⟩
  | .sll_mIYd_A d => ⟨false, 4, 2, 23, .rotIndexed .sll .iy d (some .a)⟩
  | .srl_mIYd_B d => ⟨false, 4, 2, 23, .rotIndexed .srl .iy d (some .b)⟩
  | .srl_mIYd_C d => ⟨false, 4, 2, 23, .rotIndexed .srl .iy d (some .c)⟩
  | .srl_mIYd_D d => ⟨false, 4, 2, 23, .rotIndexed .srl .iy d (some .d)⟩
  | .srl_mIYd_E d => ⟨false, 4, 2, 23, .rotIndexed .srl .iy d (some .e)⟩
  | .srl_mIYd_H d => ⟨false, 4, 2, 23, .rotIndexed .srl .iy d (some .h)⟩
  | .srl_mIYd_L d => ⟨false, 4, 2, 23, .rotIndexed .srl .iy d (some .l)⟩
  | .srl_mIYd d => ⟨false, 4, 2, 23, .rotIndexed .srl .iy d none⟩
  | .srl_mIYd_A d => ⟨false, 4, 2, 23, .rotIndexed .srl .iy d (some .a)⟩
  | .bit_0_mIYd _ d => ⟨false, 4, 2, 20, .bitMem 0 (.idx .iy d)⟩
  | .bit_1_mIYd _ d => ⟨false, 4, 2, 20, .bitMem 1 (.idx .iy d)⟩
  | .bit_2_mIYd _ d => ⟨false, 4, 2, 20, .bitMem 2 (.idx .iy d)⟩
  | .bit_3_mIYd _ d => ⟨false, 4, 2, 20, .bitMem 3 (.idx .iy d)⟩
  | .bit_4_mIYd _ d => ⟨false, 4, 2, 20, .bitMem 4 (.idx .iy d)⟩
  | .bit_5_mIYd _ d => ⟨false, 4, 2, 20, .bitMem 5 (.idx .iy d)⟩
  | .bit_6_mIYd _ d => ⟨false, 4, 2, 20, .bitMem 6 (.idx .iy d)⟩
  | .bit_7_mIYd _ d => ⟨false, 4, 2, 20, .bitMem 7 (.idx .iy d)⟩
  | .res_0_mIYd_B d => ⟨false, 4, 2, 23, .resIndexed 0 .iy d (some .b)⟩
  | .res_0_mIYd_C d => ⟨false, 4, 2, 23, .resIndexed 0 .iy d (some .c)⟩
  | .res_0_mIYd_D d => ⟨false, 4, 2, 23, .resIndexed 0 .iy d (some .d)⟩
  | .res_0_mIYd_E d => ⟨false, 4, 2, 23, .resIndexed 0 .iy d (some .e)⟩
  | .res_0_mIYd_H d => ⟨false, 4, 2, 23, .resIndexed 0 .iy d (some .h)⟩
  | .res_0_mIYd_L d => ⟨false, 4, 2, 23, .resIndexed 0 .iy d (some .l)⟩
  | .res_0_mIYd d => ⟨false, 4, 2, 23, .resIndexed 0 .iy d none⟩
  | .res_0_mIYd_A d => ⟨false, 4, 2, 23, .resIndexed 0 .iy d (some .a)⟩
  | .res_1_mIYd_B d => ⟨false, 4, 2, 23, .resIndexed 1 .iy d (some .b)⟩
  | .res_1_mIYd_C d => ⟨false, 4, 2, 23, .resIndexed 1 .iy d (some .c)⟩
  | .res_1_mIYd_D d => ⟨false, 4, 2, 23, .resIndexed 1 .iy d (some .d)⟩
  | .res_1_mIYd_E d => ⟨false, 4, 2, 23, .resIndexed 1 .iy d (some .e)⟩
  | .res_1_mIYd_H d => ⟨false, 4, 2, 23, .resIndexed 1 .iy d (some .h)⟩
  | .res_1_mIYd_L d => ⟨false, 4, 2, 23, .resIndexed 1 .iy d (some .l)⟩
  | .res_1_mIYd d => ⟨false, 4, 2, 23, .resIndexed 1 .iy d none⟩
  | .res_1_mIYd_A d => ⟨false, 4, 2, 23, .resIndexed 1 .iy d (some .a)⟩
  | .res_2_mIYd_B d => ⟨false, 4, 2, 23, .resIndexed 2 .iy d (some .b)⟩
  | .res_2_mIYd_C d => ⟨false, 4, 2, 23, .resIndexed 2 .iy d (some .c)⟩
  | .res_2_mIYd_D d => ⟨false, 4, 2, 23, .resIndexed 2 .iy d (some .d)⟩
  | .res_2_mIYd_E d => ⟨false, 4, 2, 23, .resIndexed 2 .iy d (some .e)⟩
  | .res_2_mIYd_H d => ⟨false, 4, 2, 23, .resIndexed 2 .iy d (some .h)⟩
  | .res_2_mIYd_L d => ⟨false, 4, 2, 23, .resIndexed 2 .iy d (some .l)⟩
  | .res_2_mIYd d => ⟨false, 4, 2, 23, .resIndexed 2 .iy d none⟩
  | .res_2_mIYd_A d => ⟨false, 4, 2, 23, .resIndexed 2 .iy d (some .a)⟩
  | .res_3_mIYd_B d => ⟨false, 4, 2, 23, .resIndexed 3 .iy d (some .b)⟩
  | .res_3_mIYd_C d => ⟨false, 4, 2, 23, .resIndexed 3 .iy d (some .c)⟩
  | .res_3_mIYd_D d => ⟨false, 4, 2, 23, .resIndexed 3 .iy d (some .d)⟩
  | .res_3_mIYd_E d => ⟨false, 4, 2, 23, .resIndexed 3 .iy d (some .e)⟩
  | .res_3_mIYd_H d => ⟨false, 4, 2, 23, .resIndexed 3 .iy d (some .h)⟩
  | .res_3_mIYd_L d => ⟨false, 4, 2, 23, .resIndexed 3 .iy d (some .l)⟩
  | .res_3_mIYd d => ⟨false, 4, 2, 23, .resIndexed 3 .iy d none⟩
  | .res_3_mIYd_A d => ⟨false, 4, 2, 23, .resIndexed 3 .iy d (some .a)⟩
  | .res_4_mIYd_B d => ⟨false, 4, 2, 23, .resIndexed 4 .iy d (some .b)⟩
  | .res_4_mIYd_C d => ⟨false, 4, 2, 23, .resIndexed 4 .iy d (some .c)⟩
  | .res_4_mIYd_D d => ⟨false, 4, 2, 23, .resIndexed 4 .iy d (some .d)⟩
  | .res_4_mIYd_E d => ⟨false, 4, 2, 23, .resIndexed 4 .iy d (some .e)⟩
  | .res_4_mIYd_H d => ⟨false, 4, 2, 23, .resIndexed 4 .iy d (some .h)⟩
  | .res_4_mIYd_L d => ⟨false, 4, 2, 23, .resIndexed 4 .iy d (some .l)⟩
  | .res_4_mIYd d => ⟨false, 4, 2, 23, .resIndexed 4 .iy d none⟩
  | .res_4_mIYd_A d => ⟨false, 4, 2, 23, .resIndexed 4 .iy d (some .a)⟩
  | .res_5_mIYd_B d => ⟨false, 4, 2, 23, .resIndexed 5 .iy d (some .b)⟩
  | .res_5_mIYd_C d => ⟨false, 4, 2, 23, .resIndexed 5 .iy d (some .c)⟩
  | .res_5_mIYd_D d => ⟨false, 4, 2, 23, .resIndexed 5 .iy d (some .d)⟩
  | .res_5_mIYd_E d => ⟨false, 4, 2, 23, .resIndexed 5 .iy d (some .e)⟩
  | .res_5_mIYd_H d => ⟨false, 4, 2, 23, .resIndexed 5 .iy d (some .h)⟩
  | .res_5_mIYd_L d => ⟨false, 4, 2, 23, .resIndexed 5 .iy d (some .l)⟩
  | .res_5_mIYd d => ⟨false, 4, 2, 23, .resIndexed 5 .iy d none⟩
  | .res_5_mIYd_A d => ⟨false, 4, 2, 23, .resIndexed 5 .iy d (some .a)⟩
  | .res_6_mIYd_B d => ⟨false, 4, 2, 23, .resIndexed 6 .iy d (some .b)⟩
  | .res_6_mIYd_C d => ⟨false, 4, 2, 23, .resIndexed 6 .iy d (some .c)⟩
  | .res_6_mIYd_D d => ⟨false, 4, 2, 23, .resIndexed 6 .iy d (some .d)⟩
  | .res_6_mIYd_E d => ⟨false, 4, 2, 23, .resIndexed 6 .iy d (some .e)⟩
  | .res_6_mIYd_H d => ⟨false, 4, 2, 23, .resIndexed 6 .iy d (some .h)⟩
  | .res_6_mIYd_L d => ⟨false, 4, 2, 23, .resIndexed 6 .iy d (some .l)⟩
  | .res_6_mIYd d => ⟨false, 4, 2, 23, .resIndexed 6 .iy d none⟩
  | .res_6_mIYd_A d => ⟨false, 4, 2, 23, .resIndexed 6 .iy d (some .a)⟩
  | .res_7_mIYd_B d => ⟨false, 4, 2, 23, .resIndexed 7 .iy d (some .b)⟩
  | .res_7_mIYd_C d => ⟨false, 4, 2, 23, .resIndexed 7 .iy d (some .c)⟩
  | .res_7_mIYd_D d => ⟨false, 4, 2, 23, .resIndexed 7 .iy d (some .d)⟩
  | .res_7_mIYd_E d => ⟨false, 4, 2, 23, .resIndexed 7 .iy d (some .e)⟩
  | .res_7_mIYd_H d => ⟨false, 4, 2, 23, .resIndexed 7 .iy d (some .h)⟩
  | .res_7_mIYd_L d => ⟨false, 4, 2, 23, .resIndexed 7 .iy d (some .l)⟩
  | .res_7_mIYd d => ⟨false, 4, 2, 23, .resIndexed 7 .iy d none⟩
  | .res_7_mIYd_A d => ⟨false, 4, 2, 23, .resIndexed 7 .iy d (some .a)⟩
  | .set_0_mIYd_B d => ⟨false, 4, 2, 23, .setIndexed 0 .iy d (some .b)⟩
  | .set_0_mIYd_C d => ⟨false, 4, 2, 23, .setIndexed 0 .iy d (some .c)⟩
  | .set_0_mIYd_D d => ⟨false, 4, 2, 23, .setIndexed 0 .iy d (some .d)⟩
  | .set_0_mIYd_E d => ⟨false, 4, 2, 23, .setIndexed 0 .iy d (some .e)⟩
  | .set_0_mIYd_H d => ⟨false, 4, 2, 23, .setIndexed 0 .iy d (some .h)⟩
  | .set_0_mIYd_L d => ⟨false, 4, 2, 23, .setIndexed 0 .iy d (some .l)⟩
  | .set_0_mIYd d => ⟨false, 4, 2, 23, .setIndexed 0 .iy d none⟩
  | .set_0_mIYd_A d => ⟨false, 4, 2, 23, .setIndexed 0 .iy d (some .a)⟩
  | .set_1_mIYd_B d => ⟨false, 4, 2, 23, .setIndexed 1 .iy d (some .b)⟩
  | .set_1_mIYd_C d => ⟨false, 4, 2, 23, .setIndexed 1 .iy d (some .c)⟩
  | .set_1_mIYd_D d => ⟨false, 4, 2, 23, .setIndexed 1 .iy d (some .d)⟩
  | .set_1_mIYd_E d => ⟨false, 4, 2, 23, .setIndexed 1 .iy d (some .e)⟩
  | .set_1_mIYd_H d => ⟨false, 4, 2, 23, .setIndexed 1 .iy d (some .h)⟩
  | .set_1_mIYd_L d => ⟨false, 4, 2, 23, .setIndexed 1 .iy d (some .l)⟩
  | .set_1_mIYd d => ⟨false, 4, 2, 23, .setIndexed 1 .iy d none⟩
  | .set_1_mIYd_A d => ⟨false, 4, 2, 23, .setIndexed 1 .iy d (some .a)⟩
  | .set_2_mIYd_B d => ⟨false, 4, 2, 23, .setIndexed 2 .iy d (some .b)⟩
  | .set_2_mIYd_C d => ⟨false, 4, 2, 23, .setIndexed 2 .iy d (some .c)⟩
  | .set_2_mIYd_D d => ⟨false, 4, 2, 23, .setIndexed 2 .iy d (some .d)⟩
  | .set_2_mIYd_E d => ⟨false, 4, 2, 23, .setIndexed 2 .iy d (some .e)⟩
  | .set_2_mIYd_H d => ⟨false, 4, 2, 23, .setIndexed 2 .iy d (some .h)⟩
  | .set_2_mIYd_L d => ⟨false, 4, 2, 23, .setIndexed 2 .iy d (some .l)⟩
  | .set_2_mIYd d => ⟨false, 4, 2, 23, .setIndexed 2 .iy d none⟩
  | .set_2_mIYd_A d => ⟨false, 4, 2, 23, .setIndexed 2 .iy d (some .a)⟩
  | .set_3_mIYd_B d => ⟨false, 4, 2, 23, .setIndexed 3 .iy d (some .b)⟩
  | .set_3_mIYd_C d => ⟨false, 4, 2, 23, .setIndexed 3 .iy d (some .c)⟩
  | .set_3_mIYd_D d => ⟨false, 4, 2, 23, .setIndexed 3 .iy d (some .d)⟩
  | .set_3_mIYd_E d => ⟨false, 4, 2, 23, .setIndexed 3 .iy d (some .e)⟩
  | .set_3_mIYd_H d => ⟨false, 4, 2, 23, .setIndexed 3 .iy d (some .h)⟩
  | .set_3_mIYd_L d => ⟨false, 4, 2, 23, .setIndexed 3 .iy d (some .l)⟩
  | .set_3_mIYd d => ⟨false, 4, 2, 23, .setIndexed 3 .iy d none⟩
  | .set_3_mIYd_A d => ⟨false, 4, 2, 23, .setIndexed 3 .iy d (some .a)⟩
  | .set_4_mIYd_B d => ⟨false, 4, 2, 23, .setIndexed 4 .iy d (some .b)⟩
  | .set_4_mIYd_C d => ⟨false, 4, 2, 23, .setIndexed 4 .iy d (some .c)⟩
  | .set_4_mIYd_D d => ⟨false, 4, 2, 23, .setIndexed 4 .iy d (some .d)⟩
  | .set_4_mIYd_E d => ⟨false, 4, 2, 23, .setIndexed 4 .iy d (some .e)⟩
  | .set_4_mIYd_H d => ⟨false, 4, 2, 23, .setIndexed 4 .iy d (some .h)⟩
  | .set_4_mIYd_L d => ⟨false, 4, 2, 23, .setIndexed 4 .iy d (some .l)⟩
  | .set_4_mIYd d => ⟨false, 4, 2, 23, .setIndexed 4 .iy d none⟩
  | .set_4_mIYd_A d => ⟨false, 4, 2, 23, .setIndexed 4 .iy d (some .a)⟩
  | .set_5_mIYd_B d => ⟨false, 4, 2, 23, .setIndexed 5 .iy d (some .b)⟩
  | .set_5_mIYd_C d => ⟨false, 4, 2, 23, .setIndexed 5 .iy d (some .c)⟩
  | .set_5_mIYd_D d => ⟨false, 4, 2, 23, .setIndexed 5 .iy d (some .d)⟩
  | .set_5_mIYd_E d => ⟨false, 4, 2, 23, .setIndexed 5 .iy d (some .e)⟩
  | .set_5_mIYd_H d => ⟨false, 4, 2, 23, .setIndexed 5 .iy d (some .h)⟩
  | .set_5_mIYd_L d => ⟨false, 4, 2, 23, .setIndexed 5 .iy d (some .l)⟩
  | .set_5_mIYd d => ⟨false, 4, 2, 23, .setIndexed 5 .iy d none⟩
  | .set_5_mIYd_A d => ⟨false, 4, 2, 23, .setIndexed 5 .iy d (some .a)⟩
  | .set_6_mIYd_B d => ⟨false, 4, 2, 23, .setIndexed 6 .iy d (some .b)⟩
  | .set_6_mIYd_C d => ⟨false, 4, 2, 23, .setIndexed 6 .iy d (some .c)⟩
  | .set_6_mIYd_D d => ⟨false, 4, 2, 23, .setIndexed 6 .iy d (some .d)⟩
  | .set_6_mIYd_E d => ⟨false, 4, 2, 23, .setIndexed 6 .iy d (some .e)⟩
  | .set_6_mIYd_H d => ⟨false, 4, 2, 23, .setIndexed 6 .iy d (some .h)⟩
  | .set_6_mIYd_L d => ⟨false, 4, 2, 23, .setIndexed 6 .iy d (some .l)⟩
  | .set_6_mIYd d => ⟨false, 4, 2, 23, .setIndexed 6 .iy d none⟩
  | .set_6_mIYd_A d => ⟨false, 4, 2, 23, .setIndexed 6 .iy d (some .a)⟩
  | .set_7_mIYd_B d => ⟨false, 4, 2, 23, .setIndexed 7 .iy d (some .b)⟩
  | .set_7_mIYd_C d => ⟨false, 4, 2, 23, .setIndexed 7 .iy d (some .c)⟩
  | .set_7_mIYd_D d => ⟨false, 4, 2, 23, .setIndexed 7 .iy d (some .d)⟩
  | .set_7_mIYd_E d => ⟨false, 4, 2, 23, .setIndexed 7 .iy d (some .e)⟩
  | .set_7_mIYd_H d => ⟨false, 4, 2, 23, .setIndexed 7 .iy d (some .h)⟩
  | .set_7_mIYd_L d => ⟨false, 4, 2, 23, .setIndexed 7 .iy d (some .l)⟩
  | .set_7_mIYd d => ⟨false, 4, 2, 23, .setIndexed 7 .iy d none⟩
  | .set_7_mIYd_A d => ⟨false, 4, 2, 23, .setIndexed 7 .iy d (some .a)⟩
  | .redundant_FD => ⟨false, 1, 1, 4, .nop⟩
  | .ignored_FD_before_ED => ⟨false, 1, 1, 4, .nop⟩

/-! ## Every instruction runs its plan. The constructors are taken in slices, last slice first: each slice is one proof that
the elaborator finishes within its usual limits. -/

theorem exec_eq_plan_from_1000 (i : Instr) (s : State) (h : Nat.ble 1000 i.ctorIdx = true) :
    exec i s = .next ((instrPlan i).run s) := by
  cases i <;> first | exact absurd h Bool.false_ne_true | rfl

theorem exec_eq_plan_from_520 (i : Instr) (s : State) (h : Nat.ble 520 i.ctorIdx = true) :
    exec i s = .next ((instrPlan i).run s) := by
  cases i <;> first | exact absurd h Bool.false_ne_true | exact exec_eq_plan_from_1000 _ s rfl | rfl

/-- Every instruction answers a next state, that of its plan. -/
theorem exec_eq_plan (i : Instr) (s : State) :
    exec i s = .next ((instrPlan i).run s) := by
  cases i <;> first | exact exec_eq_plan_from_520 _ s rfl | rfl

/-- No instruction stops the machine (60_exceptions.md R511). -/
theorem exec_next (i : Instr) (s : State) : ∃ t, exec i s = .next t := ⟨_, exec_eq_plan i s⟩

end Sys2Proof.Machine
end

