-- ==== Sys2Proof/Laws/Acts.lean ====
section
/-!
SUPPORT. What each shared operation leaves unchanged, field by field, and that each keeps memory in canonical form. A fact
about every instruction follows with `exec_eq_plan` (Laws/Plan.lean).
-/

set_option linter.unusedSimpArgs false
set_option Elab.async false

namespace Sys2Proof.Machine

/-! ## The devices change the devices alone (60_exceptions.md R540 to R572) -/

/-- The parts of the state that a port access never changes are those of the CPU and memory. -/
structure State.SameCpu (s t : State) : Prop where
  main : t.main = s.main
  shadow : t.shadow = s.shadow
  ix : t.ix = s.ix
  iy : t.iy = s.iy
  sp : t.sp = s.sp
  pc : t.pc = s.pc
  wz : t.wz = s.wz
  i : t.i = s.i
  r : t.r = s.r
  iff1 : t.iff1 = s.iff1
  iff2 : t.iff2 = s.iff2
  im : t.im = s.im
  halted : t.halted = s.halted
  iffDelay : t.iffDelay = s.iffDelay
  cyc : t.cyc = s.cyc
  intPending : t.intPending = s.intPending
  intVector : t.intVector = s.intVector
  nmiPending : t.nmiPending = s.nmiPending
  mem : t.mem = s.mem
  c7Latch : t.c7Latch = s.c7Latch
  params : t.params = s.params

theorem State.SameCpu.rfl' (s : State) : s.SameCpu s := ⟨rfl, rfl, rfl, rfl, rfl, rfl, rfl, rfl, rfl, rfl, rfl, rfl, rfl, rfl, rfl, rfl, rfl, rfl, rfl, rfl, rfl⟩

theorem State.takeQueued_cpu (s : State) : s.SameCpu s.takeQueued.2 := by
  unfold State.takeQueued
  split <;> exact ⟨rfl, rfl, rfl, rfl, rfl, rfl, rfl, rfl, rfl, rfl, rfl, rfl, rfl, rfl, rfl, rfl, rfl, rfl, rfl, rfl, rfl⟩

theorem State.usartRead_cpu (s : State) : s.SameCpu s.usartRead.2 := by
  have h := State.takeQueued_cpu s.touchUsart
  exact ⟨h.main, h.shadow, h.ix, h.iy, h.sp, h.pc, h.wz, h.i, h.r, h.iff1, h.iff2, h.im, h.halted, h.iffDelay, h.cyc, h.intPending, h.intVector, h.nmiPending, h.mem, h.c7Latch, h.params⟩

theorem State.sdDataRead_cpu (s : State) : s.SameCpu s.sdDataRead.2 := by
  unfold State.sdDataRead
  repeat' split
  all_goals exact ⟨rfl, rfl, rfl, rfl, rfl, rfl, rfl, rfl, rfl, rfl, rfl, rfl, rfl, rfl, rfl, rfl, rfl, rfl, rfl, rfl, rfl⟩

theorem State.sdDataWrite_cpu (s : State) (v : Byte) : s.SameCpu (s.sdDataWrite v) := by
  unfold State.sdDataWrite
  repeat' split
  all_goals exact ⟨rfl, rfl, rfl, rfl, rfl, rfl, rfl, rfl, rfl, rfl, rfl, rfl, rfl, rfl, rfl, rfl, rfl, rfl, rfl, rfl, rfl⟩

theorem State.sdOpened_cpu (s : State) (opening : Opening) (answer : Option (FileStore × Nat)) :
    s.SameCpu (s.sdOpened opening answer) := by
  unfold State.sdOpened
  split <;> exact ⟨rfl, rfl, rfl, rfl, rfl, rfl, rfl, rfl, rfl, rfl, rfl, rfl, rfl, rfl, rfl, rfl, rfl, rfl, rfl, rfl, rfl⟩

theorem State.sdSeek_cpu (s : State) (offset : Nat) : s.SameCpu (s.sdSeek offset) := by
  unfold State.sdSeek
  repeat' split
  all_goals exact ⟨rfl, rfl, rfl, rfl, rfl, rfl, rfl, rfl, rfl, rfl, rfl, rfl, rfl, rfl, rfl, rfl, rfl, rfl, rfl, rfl, rfl⟩

theorem State.sdCommand_cpu (s : State) (v : Byte) : s.SameCpu (s.sdCommand v) := by
  unfold State.sdCommand
  split
  · exact State.sdOpened_cpu s _ _
  · exact State.sdOpened_cpu s _ _
  · exact State.sdOpened_cpu s _ _
  · exact State.sdSeek_cpu s _
  · exact ⟨rfl, rfl, rfl, rfl, rfl, rfl, rfl, rfl, rfl, rfl, rfl, rfl, rfl, rfl, rfl, rfl, rfl, rfl, rfl, rfl, rfl⟩
  · exact ⟨rfl, rfl, rfl, rfl, rfl, rfl, rfl, rfl, rfl, rfl, rfl, rfl, rfl, rfl, rfl, rfl, rfl, rfl, rfl, rfl, rfl⟩
  · exact State.sdOpened_cpu s _ _
  · exact State.sdSeek_cpu s _
  · exact State.SameCpu.rfl' s

/-- A port read changes no part of the CPU and no memory. -/
theorem State.portIn_cpu (s : State) (p : Word) : s.SameCpu (s.portIn p).2 := by
  unfold State.portIn
  split
  · exact State.usartRead_cpu s
  · exact ⟨rfl, rfl, rfl, rfl, rfl, rfl, rfl, rfl, rfl, rfl, rfl, rfl, rfl, rfl, rfl, rfl, rfl, rfl, rfl, rfl, rfl⟩
  · exact State.SameCpu.rfl' s
  · exact State.sdDataRead_cpu s
  · exact State.SameCpu.rfl' s
  · exact State.takeQueued_cpu s
  all_goals exact State.SameCpu.rfl' s

/-- A port write changes no part of the CPU and no memory. -/
theorem State.portOut_cpu (s : State) (p : Word) (v : Byte) : s.SameCpu (s.portOut p v) := by
  unfold State.portOut
  split
  · exact ⟨rfl, rfl, rfl, rfl, rfl, rfl, rfl, rfl, rfl, rfl, rfl, rfl, rfl, rfl, rfl, rfl, rfl, rfl, rfl, rfl, rfl⟩
  · exact ⟨rfl, rfl, rfl, rfl, rfl, rfl, rfl, rfl, rfl, rfl, rfl, rfl, rfl, rfl, rfl, rfl, rfl, rfl, rfl, rfl, rfl⟩
  · exact State.sdCommand_cpu s v
  · exact State.sdDataWrite_cpu s v
  · exact ⟨rfl, rfl, rfl, rfl, rfl, rfl, rfl, rfl, rfl, rfl, rfl, rfl, rfl, rfl, rfl, rfl, rfl, rfl, rfl, rfl, rfl⟩
  · exact ⟨rfl, rfl, rfl, rfl, rfl, rfl, rfl, rfl, rfl, rfl, rfl, rfl, rfl, rfl, rfl, rfl, rfl, rfl, rfl, rfl, rfl⟩
  · exact ⟨rfl, rfl, rfl, rfl, rfl, rfl, rfl, rfl, rfl, rfl, rfl, rfl, rfl, rfl, rfl, rfl, rfl, rfl, rfl, rfl, rfl⟩
  · exact ⟨rfl, rfl, rfl, rfl, rfl, rfl, rfl, rfl, rfl, rfl, rfl, rfl, rfl, rfl, rfl, rfl, rfl, rfl, rfl, rfl, rfl⟩
  · exact ⟨rfl, rfl, rfl, rfl, rfl, rfl, rfl, rfl, rfl, rfl, rfl, rfl, rfl, rfl, rfl, rfl, rfl, rfl, rfl, rfl, rfl⟩
  all_goals exact State.SameCpu.rfl' s

@[simp] theorem State.portIn_main (s : State) (p : Word) : (s.portIn p).2.main = s.main := (State.portIn_cpu s p).main
@[simp] theorem State.portOut_main (s : State) (p : Word) (v : Byte) : (s.portOut p v).main = s.main := (State.portOut_cpu s p v).main
@[simp] theorem State.portIn_shadow (s : State) (p : Word) : (s.portIn p).2.shadow = s.shadow := (State.portIn_cpu s p).shadow
@[simp] theorem State.portOut_shadow (s : State) (p : Word) (v : Byte) : (s.portOut p v).shadow = s.shadow := (State.portOut_cpu s p v).shadow
@[simp] theorem State.portIn_ix (s : State) (p : Word) : (s.portIn p).2.ix = s.ix := (State.portIn_cpu s p).ix
@[simp] theorem State.portOut_ix (s : State) (p : Word) (v : Byte) : (s.portOut p v).ix = s.ix := (State.portOut_cpu s p v).ix
@[simp] theorem State.portIn_iy (s : State) (p : Word) : (s.portIn p).2.iy = s.iy := (State.portIn_cpu s p).iy
@[simp] theorem State.portOut_iy (s : State) (p : Word) (v : Byte) : (s.portOut p v).iy = s.iy := (State.portOut_cpu s p v).iy
@[simp] theorem State.portIn_sp (s : State) (p : Word) : (s.portIn p).2.sp = s.sp := (State.portIn_cpu s p).sp
@[simp] theorem State.portOut_sp (s : State) (p : Word) (v : Byte) : (s.portOut p v).sp = s.sp := (State.portOut_cpu s p v).sp
@[simp] theorem State.portIn_pc (s : State) (p : Word) : (s.portIn p).2.pc = s.pc := (State.portIn_cpu s p).pc
@[simp] theorem State.portOut_pc (s : State) (p : Word) (v : Byte) : (s.portOut p v).pc = s.pc := (State.portOut_cpu s p v).pc
@[simp] theorem State.portIn_wz (s : State) (p : Word) : (s.portIn p).2.wz = s.wz := (State.portIn_cpu s p).wz
@[simp] theorem State.portOut_wz (s : State) (p : Word) (v : Byte) : (s.portOut p v).wz = s.wz := (State.portOut_cpu s p v).wz
@[simp] theorem State.portIn_i (s : State) (p : Word) : (s.portIn p).2.i = s.i := (State.portIn_cpu s p).i
@[simp] theorem State.portOut_i (s : State) (p : Word) (v : Byte) : (s.portOut p v).i = s.i := (State.portOut_cpu s p v).i
@[simp] theorem State.portIn_r (s : State) (p : Word) : (s.portIn p).2.r = s.r := (State.portIn_cpu s p).r
@[simp] theorem State.portOut_r (s : State) (p : Word) (v : Byte) : (s.portOut p v).r = s.r := (State.portOut_cpu s p v).r
@[simp] theorem State.portIn_iff1 (s : State) (p : Word) : (s.portIn p).2.iff1 = s.iff1 := (State.portIn_cpu s p).iff1
@[simp] theorem State.portOut_iff1 (s : State) (p : Word) (v : Byte) : (s.portOut p v).iff1 = s.iff1 := (State.portOut_cpu s p v).iff1
@[simp] theorem State.portIn_iff2 (s : State) (p : Word) : (s.portIn p).2.iff2 = s.iff2 := (State.portIn_cpu s p).iff2
@[simp] theorem State.portOut_iff2 (s : State) (p : Word) (v : Byte) : (s.portOut p v).iff2 = s.iff2 := (State.portOut_cpu s p v).iff2
@[simp] theorem State.portIn_im (s : State) (p : Word) : (s.portIn p).2.im = s.im := (State.portIn_cpu s p).im
@[simp] theorem State.portOut_im (s : State) (p : Word) (v : Byte) : (s.portOut p v).im = s.im := (State.portOut_cpu s p v).im
@[simp] theorem State.portIn_halted (s : State) (p : Word) : (s.portIn p).2.halted = s.halted := (State.portIn_cpu s p).halted
@[simp] theorem State.portOut_halted (s : State) (p : Word) (v : Byte) : (s.portOut p v).halted = s.halted := (State.portOut_cpu s p v).halted
@[simp] theorem State.portIn_iffDelay (s : State) (p : Word) : (s.portIn p).2.iffDelay = s.iffDelay := (State.portIn_cpu s p).iffDelay
@[simp] theorem State.portOut_iffDelay (s : State) (p : Word) (v : Byte) : (s.portOut p v).iffDelay = s.iffDelay := (State.portOut_cpu s p v).iffDelay
@[simp] theorem State.portIn_cyc (s : State) (p : Word) : (s.portIn p).2.cyc = s.cyc := (State.portIn_cpu s p).cyc
@[simp] theorem State.portOut_cyc (s : State) (p : Word) (v : Byte) : (s.portOut p v).cyc = s.cyc := (State.portOut_cpu s p v).cyc
@[simp] theorem State.portIn_intPending (s : State) (p : Word) : (s.portIn p).2.intPending = s.intPending := (State.portIn_cpu s p).intPending
@[simp] theorem State.portOut_intPending (s : State) (p : Word) (v : Byte) : (s.portOut p v).intPending = s.intPending := (State.portOut_cpu s p v).intPending
@[simp] theorem State.portIn_intVector (s : State) (p : Word) : (s.portIn p).2.intVector = s.intVector := (State.portIn_cpu s p).intVector
@[simp] theorem State.portOut_intVector (s : State) (p : Word) (v : Byte) : (s.portOut p v).intVector = s.intVector := (State.portOut_cpu s p v).intVector
@[simp] theorem State.portIn_nmiPending (s : State) (p : Word) : (s.portIn p).2.nmiPending = s.nmiPending := (State.portIn_cpu s p).nmiPending
@[simp] theorem State.portOut_nmiPending (s : State) (p : Word) (v : Byte) : (s.portOut p v).nmiPending = s.nmiPending := (State.portOut_cpu s p v).nmiPending
@[simp] theorem State.portIn_mem (s : State) (p : Word) : (s.portIn p).2.mem = s.mem := (State.portIn_cpu s p).mem
@[simp] theorem State.portOut_mem (s : State) (p : Word) (v : Byte) : (s.portOut p v).mem = s.mem := (State.portOut_cpu s p v).mem
@[simp] theorem State.portIn_c7Latch (s : State) (p : Word) : (s.portIn p).2.c7Latch = s.c7Latch := (State.portIn_cpu s p).c7Latch
@[simp] theorem State.portOut_c7Latch (s : State) (p : Word) (v : Byte) : (s.portOut p v).c7Latch = s.c7Latch := (State.portOut_cpu s p v).c7Latch
@[simp] theorem State.portIn_params (s : State) (p : Word) : (s.portIn p).2.params = s.params := (State.portIn_cpu s p).params
@[simp] theorem State.portOut_params (s : State) (p : Word) (v : Byte) : (s.portOut p v).params = s.params := (State.portOut_cpu s p v).params

/-! ## The named operations with a choice inside -/

@[simp] theorem State.writeLoc_i (s : State) (l : Loc) (v : Byte) : (s.writeLoc l v).i = s.i := by
  cases l <;> simp [State.writeLoc]
@[simp] theorem State.copyTo_i (s : State) (c : Option Reg8) (v : Byte) : (s.copyTo c v).i = s.i := by
  cases c <;> simp [State.copyTo]
@[simp] theorem State.writeLoc_r (s : State) (l : Loc) (v : Byte) : (s.writeLoc l v).r = s.r := by
  cases l <;> simp [State.writeLoc]
@[simp] theorem State.copyTo_r (s : State) (c : Option Reg8) (v : Byte) : (s.copyTo c v).r = s.r := by
  cases c <;> simp [State.copyTo]
@[simp] theorem State.writeLoc_iff1 (s : State) (l : Loc) (v : Byte) : (s.writeLoc l v).iff1 = s.iff1 := by
  cases l <;> simp [State.writeLoc]
@[simp] theorem State.copyTo_iff1 (s : State) (c : Option Reg8) (v : Byte) : (s.copyTo c v).iff1 = s.iff1 := by
  cases c <;> simp [State.copyTo]
@[simp] theorem State.writeLoc_iff2 (s : State) (l : Loc) (v : Byte) : (s.writeLoc l v).iff2 = s.iff2 := by
  cases l <;> simp [State.writeLoc]
@[simp] theorem State.copyTo_iff2 (s : State) (c : Option Reg8) (v : Byte) : (s.copyTo c v).iff2 = s.iff2 := by
  cases c <;> simp [State.copyTo]
@[simp] theorem State.writeLoc_im (s : State) (l : Loc) (v : Byte) : (s.writeLoc l v).im = s.im := by
  cases l <;> simp [State.writeLoc]
@[simp] theorem State.copyTo_im (s : State) (c : Option Reg8) (v : Byte) : (s.copyTo c v).im = s.im := by
  cases c <;> simp [State.copyTo]
@[simp] theorem State.writeLoc_halted (s : State) (l : Loc) (v : Byte) : (s.writeLoc l v).halted = s.halted := by
  cases l <;> simp [State.writeLoc]
@[simp] theorem State.copyTo_halted (s : State) (c : Option Reg8) (v : Byte) : (s.copyTo c v).halted = s.halted := by
  cases c <;> simp [State.copyTo]
@[simp] theorem State.writeLoc_iffDelay (s : State) (l : Loc) (v : Byte) : (s.writeLoc l v).iffDelay = s.iffDelay := by
  cases l <;> simp [State.writeLoc]
@[simp] theorem State.copyTo_iffDelay (s : State) (c : Option Reg8) (v : Byte) : (s.copyTo c v).iffDelay = s.iffDelay := by
  cases c <;> simp [State.copyTo]
@[simp] theorem State.writeLoc_intPending (s : State) (l : Loc) (v : Byte) : (s.writeLoc l v).intPending = s.intPending := by
  cases l <;> simp [State.writeLoc]
@[simp] theorem State.copyTo_intPending (s : State) (c : Option Reg8) (v : Byte) : (s.copyTo c v).intPending = s.intPending := by
  cases c <;> simp [State.copyTo]
@[simp] theorem State.writeLoc_intVector (s : State) (l : Loc) (v : Byte) : (s.writeLoc l v).intVector = s.intVector := by
  cases l <;> simp [State.writeLoc]
@[simp] theorem State.copyTo_intVector (s : State) (c : Option Reg8) (v : Byte) : (s.copyTo c v).intVector = s.intVector := by
  cases c <;> simp [State.copyTo]
@[simp] theorem State.writeLoc_nmiPending (s : State) (l : Loc) (v : Byte) : (s.writeLoc l v).nmiPending = s.nmiPending := by
  cases l <;> simp [State.writeLoc]
@[simp] theorem State.copyTo_nmiPending (s : State) (c : Option Reg8) (v : Byte) : (s.copyTo c v).nmiPending = s.nmiPending := by
  cases c <;> simp [State.copyTo]
@[simp] theorem State.writeLoc_c7Latch (s : State) (l : Loc) (v : Byte) : (s.writeLoc l v).c7Latch = s.c7Latch := by
  cases l <;> simp [State.writeLoc]
@[simp] theorem State.copyTo_c7Latch (s : State) (c : Option Reg8) (v : Byte) : (s.copyTo c v).c7Latch = s.c7Latch := by
  cases c <;> simp [State.copyTo]
@[simp] theorem State.writeLoc_params (s : State) (l : Loc) (v : Byte) : (s.writeLoc l v).params = s.params := by
  cases l <;> simp [State.writeLoc]
@[simp] theorem State.copyTo_params (s : State) (c : Option Reg8) (v : Byte) : (s.copyTo c v).params = s.params := by
  cases c <;> simp [State.copyTo]
@[simp] theorem State.writeLoc_shadow (s : State) (l : Loc) (v : Byte) : (s.writeLoc l v).shadow = s.shadow := by
  cases l <;> simp [State.writeLoc]
@[simp] theorem State.copyTo_shadow (s : State) (c : Option Reg8) (v : Byte) : (s.copyTo c v).shadow = s.shadow := by
  cases c <;> simp [State.copyTo]
@[simp] theorem State.writeLoc_queue (s : State) (l : Loc) (v : Byte) : (s.writeLoc l v).queue = s.queue := by
  cases l <;> simp [State.writeLoc]
@[simp] theorem State.copyTo_queue (s : State) (c : Option Reg8) (v : Byte) : (s.copyTo c v).queue = s.queue := by
  cases c <;> simp [State.copyTo]
@[simp] theorem State.writeLoc_sink (s : State) (l : Loc) (v : Byte) : (s.writeLoc l v).sink = s.sink := by
  cases l <;> simp [State.writeLoc]
@[simp] theorem State.copyTo_sink (s : State) (c : Option Reg8) (v : Byte) : (s.copyTo c v).sink = s.sink := by
  cases c <;> simp [State.copyTo]
@[simp] theorem State.writeLoc_uses8251 (s : State) (l : Loc) (v : Byte) : (s.writeLoc l v).uses8251 = s.uses8251 := by
  cases l <;> simp [State.writeLoc]
@[simp] theorem State.copyTo_uses8251 (s : State) (c : Option Reg8) (v : Byte) : (s.copyTo c v).uses8251 = s.uses8251 := by
  cases c <;> simp [State.copyTo]
@[simp] theorem State.writeLoc_aciaCtrl (s : State) (l : Loc) (v : Byte) : (s.writeLoc l v).aciaCtrl = s.aciaCtrl := by
  cases l <;> simp [State.writeLoc]
@[simp] theorem State.copyTo_aciaCtrl (s : State) (c : Option Reg8) (v : Byte) : (s.copyTo c v).aciaCtrl = s.aciaCtrl := by
  cases c <;> simp [State.copyTo]
@[simp] theorem State.writeLoc_sd (s : State) (l : Loc) (v : Byte) : (s.writeLoc l v).sd = s.sd := by
  cases l <;> simp [State.writeLoc]
@[simp] theorem State.copyTo_sd (s : State) (c : Option Reg8) (v : Byte) : (s.copyTo c v).sd = s.sd := by
  cases c <;> simp [State.copyTo]
@[simp] theorem State.writeLoc_files (s : State) (l : Loc) (v : Byte) : (s.writeLoc l v).files = s.files := by
  cases l <;> simp [State.writeLoc]
@[simp] theorem State.copyTo_files (s : State) (c : Option Reg8) (v : Byte) : (s.copyTo c v).files = s.files := by
  cases c <;> simp [State.copyTo]
@[simp] theorem State.writeLoc_cyc (s : State) (l : Loc) (v : Byte) : (s.writeLoc l v).cyc = s.cyc := by
  cases l <;> simp [State.writeLoc]
@[simp] theorem State.copyTo_cyc (s : State) (c : Option Reg8) (v : Byte) : (s.copyTo c v).cyc = s.cyc := by
  cases c <;> simp [State.copyTo]

/-! ## Which operation writes which field -/

/-- Which operation writes `i`. -/
theorem act_run_i (act : Act) (s : State) (h0 : act ≠ .ldIA) : (act.run s).i = s.i := by
  cases act
  case ldIA => exact absurd rfl h0
  case blockLoadRepeat d => simp only [Act.run, blockLoadRepeat]; split <;> simp [blockLoad, State.repeatBlockWz, State.repeatBlock]
  case blockCompareRepeat d => simp only [Act.run, blockCompareRepeat]; split <;> simp [blockCompare, State.repeatBlockWz, State.repeatBlock]
  case blockInRepeat d => simp only [Act.run, blockInRepeat]; split <;> simp [blockIn, State.repeatBlock]
  case blockOutRepeat d => simp only [Act.run, blockOutRepeat]; split <;> simp [blockOut, State.repeatBlock]
  all_goals first | rfl | (simp only [Act.run, ld8, loadA, storeA, ldAI, ldAR, ldIA, ldRA, ld16, store16, load16, ldSp, push, pop, exDeHl, exSp, exAf, exx, alu, incLoc, decLoc, daa, cpl, neg, scf, ccf, add16, adc16, sbc16, inc16, dec16, rotA, rot, rotIndexed, rld, rrd, bitReg, bitMem, resLoc, setLoc, resIndexed, setIndexed, jp, jpIf, jpReg, jr, jrIf, djnz, call, callIf, ret, retIf, reti, retn, rst, blockLoad, blockLoadRepeat, blockCompare, blockCompareRepeat, blockIn, blockInRepeat, blockOut, blockOutRepeat, inA, outA, inC, outC, halt, di, ei, setIm, State.enterAt, State.returnToCaller, State.returnFromHandler, State.dropped16, State.repeatBlockWz]; (repeat' split) <;> first | rfl | simp)

/-- Which operation writes `iff1`. -/
theorem act_run_iff1 (act : Act) (s : State) (h0 : act ≠ .di) (h1 : act ≠ .ei) (h2 : act ≠ .reti) (h3 : act ≠ .retn) : (act.run s).iff1 = s.iff1 := by
  cases act
  case di => exact absurd rfl h0
  case ei => exact absurd rfl h1
  case reti => exact absurd rfl h2
  case retn => exact absurd rfl h3
  case blockLoadRepeat d => simp only [Act.run, blockLoadRepeat]; split <;> simp [blockLoad, State.repeatBlockWz, State.repeatBlock]
  case blockCompareRepeat d => simp only [Act.run, blockCompareRepeat]; split <;> simp [blockCompare, State.repeatBlockWz, State.repeatBlock]
  case blockInRepeat d => simp only [Act.run, blockInRepeat]; split <;> simp [blockIn, State.repeatBlock]
  case blockOutRepeat d => simp only [Act.run, blockOutRepeat]; split <;> simp [blockOut, State.repeatBlock]
  all_goals first | rfl | (simp only [Act.run, ld8, loadA, storeA, ldAI, ldAR, ldIA, ldRA, ld16, store16, load16, ldSp, push, pop, exDeHl, exSp, exAf, exx, alu, incLoc, decLoc, daa, cpl, neg, scf, ccf, add16, adc16, sbc16, inc16, dec16, rotA, rot, rotIndexed, rld, rrd, bitReg, bitMem, resLoc, setLoc, resIndexed, setIndexed, jp, jpIf, jpReg, jr, jrIf, djnz, call, callIf, ret, retIf, reti, retn, rst, blockLoad, blockLoadRepeat, blockCompare, blockCompareRepeat, blockIn, blockInRepeat, blockOut, blockOutRepeat, inA, outA, inC, outC, halt, di, ei, setIm, State.enterAt, State.returnToCaller, State.returnFromHandler, State.dropped16, State.repeatBlockWz]; (repeat' split) <;> first | rfl | simp)

/-- Which operation writes `iff2`: a return leaves it as it was. -/
theorem act_run_iff2 (act : Act) (s : State) (h0 : act ≠ .di) (h1 : act ≠ .ei) : (act.run s).iff2 = s.iff2 := by
  cases act
  case di => exact absurd rfl h0
  case ei => exact absurd rfl h1
  case blockLoadRepeat d => simp only [Act.run, blockLoadRepeat]; split <;> simp [blockLoad, State.repeatBlockWz, State.repeatBlock]
  case blockCompareRepeat d => simp only [Act.run, blockCompareRepeat]; split <;> simp [blockCompare, State.repeatBlockWz, State.repeatBlock]
  case blockInRepeat d => simp only [Act.run, blockInRepeat]; split <;> simp [blockIn, State.repeatBlock]
  case blockOutRepeat d => simp only [Act.run, blockOutRepeat]; split <;> simp [blockOut, State.repeatBlock]
  all_goals first | rfl | (simp only [Act.run, ld8, loadA, storeA, ldAI, ldAR, ldIA, ldRA, ld16, store16, load16, ldSp, push, pop, exDeHl, exSp, exAf, exx, alu, incLoc, decLoc, daa, cpl, neg, scf, ccf, add16, adc16, sbc16, inc16, dec16, rotA, rot, rotIndexed, rld, rrd, bitReg, bitMem, resLoc, setLoc, resIndexed, setIndexed, jp, jpIf, jpReg, jr, jrIf, djnz, call, callIf, ret, retIf, reti, retn, rst, blockLoad, blockLoadRepeat, blockCompare, blockCompareRepeat, blockIn, blockInRepeat, blockOut, blockOutRepeat, inA, outA, inC, outC, halt, di, ei, setIm, State.enterAt, State.returnToCaller, State.returnFromHandler, State.dropped16, State.repeatBlockWz]; (repeat' split) <;> first | rfl | simp)

/-- Which operation writes `im`. -/
theorem act_run_im (act : Act) (s : State) (h0 : ∀ m, act ≠ .setIm m) : (act.run s).im = s.im := by
  cases act
  case setIm m => exact absurd rfl (h0 m)
  case blockLoadRepeat d => simp only [Act.run, blockLoadRepeat]; split <;> simp [blockLoad, State.repeatBlockWz, State.repeatBlock]
  case blockCompareRepeat d => simp only [Act.run, blockCompareRepeat]; split <;> simp [blockCompare, State.repeatBlockWz, State.repeatBlock]
  case blockInRepeat d => simp only [Act.run, blockInRepeat]; split <;> simp [blockIn, State.repeatBlock]
  case blockOutRepeat d => simp only [Act.run, blockOutRepeat]; split <;> simp [blockOut, State.repeatBlock]
  all_goals first | rfl | (simp only [Act.run, ld8, loadA, storeA, ldAI, ldAR, ldIA, ldRA, ld16, store16, load16, ldSp, push, pop, exDeHl, exSp, exAf, exx, alu, incLoc, decLoc, daa, cpl, neg, scf, ccf, add16, adc16, sbc16, inc16, dec16, rotA, rot, rotIndexed, rld, rrd, bitReg, bitMem, resLoc, setLoc, resIndexed, setIndexed, jp, jpIf, jpReg, jr, jrIf, djnz, call, callIf, ret, retIf, reti, retn, rst, blockLoad, blockLoadRepeat, blockCompare, blockCompareRepeat, blockIn, blockInRepeat, blockOut, blockOutRepeat, inA, outA, inC, outC, halt, di, ei, setIm, State.enterAt, State.returnToCaller, State.returnFromHandler, State.dropped16, State.repeatBlockWz]; (repeat' split) <;> first | rfl | simp)

/-- Which operation writes `halted`. -/
theorem act_run_halted (act : Act) (s : State) (h0 : act ≠ .halt) : (act.run s).halted = s.halted := by
  cases act
  case halt => exact absurd rfl h0
  case blockLoadRepeat d => simp only [Act.run, blockLoadRepeat]; split <;> simp [blockLoad, State.repeatBlockWz, State.repeatBlock]
  case blockCompareRepeat d => simp only [Act.run, blockCompareRepeat]; split <;> simp [blockCompare, State.repeatBlockWz, State.repeatBlock]
  case blockInRepeat d => simp only [Act.run, blockInRepeat]; split <;> simp [blockIn, State.repeatBlock]
  case blockOutRepeat d => simp only [Act.run, blockOutRepeat]; split <;> simp [blockOut, State.repeatBlock]
  all_goals first | rfl | (simp only [Act.run, ld8, loadA, storeA, ldAI, ldAR, ldIA, ldRA, ld16, store16, load16, ldSp, push, pop, exDeHl, exSp, exAf, exx, alu, incLoc, decLoc, daa, cpl, neg, scf, ccf, add16, adc16, sbc16, inc16, dec16, rotA, rot, rotIndexed, rld, rrd, bitReg, bitMem, resLoc, setLoc, resIndexed, setIndexed, jp, jpIf, jpReg, jr, jrIf, djnz, call, callIf, ret, retIf, reti, retn, rst, blockLoad, blockLoadRepeat, blockCompare, blockCompareRepeat, blockIn, blockInRepeat, blockOut, blockOutRepeat, inA, outA, inC, outC, halt, di, ei, setIm, State.enterAt, State.returnToCaller, State.returnFromHandler, State.dropped16, State.repeatBlockWz]; (repeat' split) <;> first | rfl | simp)

/-- Which operation writes `iffDelay`. -/
theorem act_run_iffDelay (act : Act) (s : State) (h0 : act ≠ .ei) : (act.run s).iffDelay = s.iffDelay := by
  cases act
  case ei => exact absurd rfl h0
  case blockLoadRepeat d => simp only [Act.run, blockLoadRepeat]; split <;> simp [blockLoad, State.repeatBlockWz, State.repeatBlock]
  case blockCompareRepeat d => simp only [Act.run, blockCompareRepeat]; split <;> simp [blockCompare, State.repeatBlockWz, State.repeatBlock]
  case blockInRepeat d => simp only [Act.run, blockInRepeat]; split <;> simp [blockIn, State.repeatBlock]
  case blockOutRepeat d => simp only [Act.run, blockOutRepeat]; split <;> simp [blockOut, State.repeatBlock]
  all_goals first | rfl | (simp only [Act.run, ld8, loadA, storeA, ldAI, ldAR, ldIA, ldRA, ld16, store16, load16, ldSp, push, pop, exDeHl, exSp, exAf, exx, alu, incLoc, decLoc, daa, cpl, neg, scf, ccf, add16, adc16, sbc16, inc16, dec16, rotA, rot, rotIndexed, rld, rrd, bitReg, bitMem, resLoc, setLoc, resIndexed, setIndexed, jp, jpIf, jpReg, jr, jrIf, djnz, call, callIf, ret, retIf, reti, retn, rst, blockLoad, blockLoadRepeat, blockCompare, blockCompareRepeat, blockIn, blockInRepeat, blockOut, blockOutRepeat, inA, outA, inC, outC, halt, di, ei, setIm, State.enterAt, State.returnToCaller, State.returnFromHandler, State.dropped16, State.repeatBlockWz]; (repeat' split) <;> first | rfl | simp)

/-- Which operation writes `shadow`. -/
theorem act_run_shadow (act : Act) (s : State) (h0 : act ≠ .exAf) (h1 : act ≠ .exx) : (act.run s).shadow = s.shadow := by
  cases act
  case exAf => exact absurd rfl h0
  case exx => exact absurd rfl h1
  case blockLoadRepeat d => simp only [Act.run, blockLoadRepeat]; split <;> simp [blockLoad, State.repeatBlockWz, State.repeatBlock]
  case blockCompareRepeat d => simp only [Act.run, blockCompareRepeat]; split <;> simp [blockCompare, State.repeatBlockWz, State.repeatBlock]
  case blockInRepeat d => simp only [Act.run, blockInRepeat]; split <;> simp [blockIn, State.repeatBlock]
  case blockOutRepeat d => simp only [Act.run, blockOutRepeat]; split <;> simp [blockOut, State.repeatBlock]
  all_goals first | rfl | (simp only [Act.run, ld8, loadA, storeA, ldAI, ldAR, ldIA, ldRA, ld16, store16, load16, ldSp, push, pop, exDeHl, exSp, exAf, exx, alu, incLoc, decLoc, daa, cpl, neg, scf, ccf, add16, adc16, sbc16, inc16, dec16, rotA, rot, rotIndexed, rld, rrd, bitReg, bitMem, resLoc, setLoc, resIndexed, setIndexed, jp, jpIf, jpReg, jr, jrIf, djnz, call, callIf, ret, retIf, reti, retn, rst, blockLoad, blockLoadRepeat, blockCompare, blockCompareRepeat, blockIn, blockInRepeat, blockOut, blockOutRepeat, inA, outA, inC, outC, halt, di, ei, setIm, State.enterAt, State.returnToCaller, State.returnFromHandler, State.dropped16, State.repeatBlockWz]; (repeat' split) <;> first | rfl | simp)

/-- Which operation writes `intPending`. -/
theorem act_run_intPending (act : Act) (s : State) : (act.run s).intPending = s.intPending := by
  cases act
  case blockLoadRepeat d => simp only [Act.run, blockLoadRepeat]; split <;> simp [blockLoad, State.repeatBlockWz, State.repeatBlock]
  case blockCompareRepeat d => simp only [Act.run, blockCompareRepeat]; split <;> simp [blockCompare, State.repeatBlockWz, State.repeatBlock]
  case blockInRepeat d => simp only [Act.run, blockInRepeat]; split <;> simp [blockIn, State.repeatBlock]
  case blockOutRepeat d => simp only [Act.run, blockOutRepeat]; split <;> simp [blockOut, State.repeatBlock]
  all_goals first | rfl | (simp only [Act.run, ld8, loadA, storeA, ldAI, ldAR, ldIA, ldRA, ld16, store16, load16, ldSp, push, pop, exDeHl, exSp, exAf, exx, alu, incLoc, decLoc, daa, cpl, neg, scf, ccf, add16, adc16, sbc16, inc16, dec16, rotA, rot, rotIndexed, rld, rrd, bitReg, bitMem, resLoc, setLoc, resIndexed, setIndexed, jp, jpIf, jpReg, jr, jrIf, djnz, call, callIf, ret, retIf, reti, retn, rst, blockLoad, blockLoadRepeat, blockCompare, blockCompareRepeat, blockIn, blockInRepeat, blockOut, blockOutRepeat, inA, outA, inC, outC, halt, di, ei, setIm, State.enterAt, State.returnToCaller, State.returnFromHandler, State.dropped16, State.repeatBlockWz]; (repeat' split) <;> first | rfl | simp)

/-- Which operation writes `intVector`. -/
theorem act_run_intVector (act : Act) (s : State) : (act.run s).intVector = s.intVector := by
  cases act
  case blockLoadRepeat d => simp only [Act.run, blockLoadRepeat]; split <;> simp [blockLoad, State.repeatBlockWz, State.repeatBlock]
  case blockCompareRepeat d => simp only [Act.run, blockCompareRepeat]; split <;> simp [blockCompare, State.repeatBlockWz, State.repeatBlock]
  case blockInRepeat d => simp only [Act.run, blockInRepeat]; split <;> simp [blockIn, State.repeatBlock]
  case blockOutRepeat d => simp only [Act.run, blockOutRepeat]; split <;> simp [blockOut, State.repeatBlock]
  all_goals first | rfl | (simp only [Act.run, ld8, loadA, storeA, ldAI, ldAR, ldIA, ldRA, ld16, store16, load16, ldSp, push, pop, exDeHl, exSp, exAf, exx, alu, incLoc, decLoc, daa, cpl, neg, scf, ccf, add16, adc16, sbc16, inc16, dec16, rotA, rot, rotIndexed, rld, rrd, bitReg, bitMem, resLoc, setLoc, resIndexed, setIndexed, jp, jpIf, jpReg, jr, jrIf, djnz, call, callIf, ret, retIf, reti, retn, rst, blockLoad, blockLoadRepeat, blockCompare, blockCompareRepeat, blockIn, blockInRepeat, blockOut, blockOutRepeat, inA, outA, inC, outC, halt, di, ei, setIm, State.enterAt, State.returnToCaller, State.returnFromHandler, State.dropped16, State.repeatBlockWz]; (repeat' split) <;> first | rfl | simp)

/-- Which operation writes `nmiPending`. -/
theorem act_run_nmiPending (act : Act) (s : State) : (act.run s).nmiPending = s.nmiPending := by
  cases act
  case blockLoadRepeat d => simp only [Act.run, blockLoadRepeat]; split <;> simp [blockLoad, State.repeatBlockWz, State.repeatBlock]
  case blockCompareRepeat d => simp only [Act.run, blockCompareRepeat]; split <;> simp [blockCompare, State.repeatBlockWz, State.repeatBlock]
  case blockInRepeat d => simp only [Act.run, blockInRepeat]; split <;> simp [blockIn, State.repeatBlock]
  case blockOutRepeat d => simp only [Act.run, blockOutRepeat]; split <;> simp [blockOut, State.repeatBlock]
  all_goals first | rfl | (simp only [Act.run, ld8, loadA, storeA, ldAI, ldAR, ldIA, ldRA, ld16, store16, load16, ldSp, push, pop, exDeHl, exSp, exAf, exx, alu, incLoc, decLoc, daa, cpl, neg, scf, ccf, add16, adc16, sbc16, inc16, dec16, rotA, rot, rotIndexed, rld, rrd, bitReg, bitMem, resLoc, setLoc, resIndexed, setIndexed, jp, jpIf, jpReg, jr, jrIf, djnz, call, callIf, ret, retIf, reti, retn, rst, blockLoad, blockLoadRepeat, blockCompare, blockCompareRepeat, blockIn, blockInRepeat, blockOut, blockOutRepeat, inA, outA, inC, outC, halt, di, ei, setIm, State.enterAt, State.returnToCaller, State.returnFromHandler, State.dropped16, State.repeatBlockWz]; (repeat' split) <;> first | rfl | simp)

/-- Which operation writes `c7Latch`. -/
theorem act_run_c7Latch (act : Act) (s : State) : (act.run s).c7Latch = s.c7Latch := by
  cases act
  case blockLoadRepeat d => simp only [Act.run, blockLoadRepeat]; split <;> simp [blockLoad, State.repeatBlockWz, State.repeatBlock]
  case blockCompareRepeat d => simp only [Act.run, blockCompareRepeat]; split <;> simp [blockCompare, State.repeatBlockWz, State.repeatBlock]
  case blockInRepeat d => simp only [Act.run, blockInRepeat]; split <;> simp [blockIn, State.repeatBlock]
  case blockOutRepeat d => simp only [Act.run, blockOutRepeat]; split <;> simp [blockOut, State.repeatBlock]
  all_goals first | rfl | (simp only [Act.run, ld8, loadA, storeA, ldAI, ldAR, ldIA, ldRA, ld16, store16, load16, ldSp, push, pop, exDeHl, exSp, exAf, exx, alu, incLoc, decLoc, daa, cpl, neg, scf, ccf, add16, adc16, sbc16, inc16, dec16, rotA, rot, rotIndexed, rld, rrd, bitReg, bitMem, resLoc, setLoc, resIndexed, setIndexed, jp, jpIf, jpReg, jr, jrIf, djnz, call, callIf, ret, retIf, reti, retn, rst, blockLoad, blockLoadRepeat, blockCompare, blockCompareRepeat, blockIn, blockInRepeat, blockOut, blockOutRepeat, inA, outA, inC, outC, halt, di, ei, setIm, State.enterAt, State.returnToCaller, State.returnFromHandler, State.dropped16, State.repeatBlockWz]; (repeat' split) <;> first | rfl | simp)

/-- Which operation writes `params`. -/
theorem act_run_params (act : Act) (s : State) : (act.run s).params = s.params := by
  cases act
  case blockLoadRepeat d => simp only [Act.run, blockLoadRepeat]; split <;> simp [blockLoad, State.repeatBlockWz, State.repeatBlock]
  case blockCompareRepeat d => simp only [Act.run, blockCompareRepeat]; split <;> simp [blockCompare, State.repeatBlockWz, State.repeatBlock]
  case blockInRepeat d => simp only [Act.run, blockInRepeat]; split <;> simp [blockIn, State.repeatBlock]
  case blockOutRepeat d => simp only [Act.run, blockOutRepeat]; split <;> simp [blockOut, State.repeatBlock]
  all_goals first | rfl | (simp only [Act.run, ld8, loadA, storeA, ldAI, ldAR, ldIA, ldRA, ld16, store16, load16, ldSp, push, pop, exDeHl, exSp, exAf, exx, alu, incLoc, decLoc, daa, cpl, neg, scf, ccf, add16, adc16, sbc16, inc16, dec16, rotA, rot, rotIndexed, rld, rrd, bitReg, bitMem, resLoc, setLoc, resIndexed, setIndexed, jp, jpIf, jpReg, jr, jrIf, djnz, call, callIf, ret, retIf, reti, retn, rst, blockLoad, blockLoadRepeat, blockCompare, blockCompareRepeat, blockIn, blockInRepeat, blockOut, blockOutRepeat, inA, outA, inC, outC, halt, di, ei, setIm, State.enterAt, State.returnToCaller, State.returnFromHandler, State.dropped16, State.repeatBlockWz]; (repeat' split) <;> first | rfl | simp)

end Sys2Proof.Machine
end

