-- ==== Sys2Proof/Tests/Slice0.lean ====
section
/-!
SUPPORT. The model's own tests. The words of the decode tests are those of spec/opcode_table.json with an operand of 0x1234,
0xA7, 0xFE (d) or 0x85 (e); the states before and after a step are those of spec/95_test_vectors.md, the vector's number in
the name. The `witness_` theorems show a state and operands that meet the hypotheses of the obligation they name, one for
each clause.
-/

set_option Elab.async false

namespace Sys2Proof.Tests

open Sys2Proof.Machine

/-! ## A small machine -/

/-- "A.TXT". -/
def aTxt : FileName := [0x41, 0x2E, 0x54, 0x58, 0x54]

/-- A store with A.TXT alone. -/
def oneFile (bytes : List Byte) : FileStore := [(aTxt, bytes)]

/-- A store with FOO and BAR. -/
def twoFiles : FileStore := [([0x46, 0x4F, 0x4F], [1]), ([0x42, 0x41, 0x52], [])]

/-- A handle of A.TXT, "hi". -/
def handle (opening : Opening) : Handle := { name := aTxt, opening := opening, store := oneFile [0x68, 0x69] }

/-- A backend that grants what the tests ask of A.TXT, "hi", but for a seek on an append handle, and lists BAR before FOO. -/
def policy : StoragePolicy :=
  { answers :=
      [.openRead aTxt, .openReadWrite aTxt, .openWriteTrunc aTxt, .openAppend aTxt, .seek (handle .writeTrunc) 2 0,
        .writeByte (handle .readWrite) 0 0x39, .writeByte (handle .readWrite) 1 0xFF, .writeByte (handle .writeTrunc) 2 0xFF,
        .writeByte (handle .append) 2 0x33, .writeByte (handle .writeTrunc) 2 0x00].map
        (fun op => (oneFile [0x68, 0x69], op, false)) ++
      [(oneFile [0x68, 0x69], .seek (handle .append) 2 0, true), (oneFile [], .writeByte (handle .writeTrunc) 0 0x31, false),
        ([], .openAppend aTxt, false), ([], .openWriteTrunc aTxt, true)]
    orders := [([], []), (twoFiles, [[0x42, 0x41, 0x52], [0x46, 0x4F, 0x4F]])] }

/-- Parameters for the tests: no ROM, memory 0 where a vector names nothing, one choice of the SD parameters. -/
def params : Params :=
  { romCeiling := 0
    sd := { codes := { openRead := 0x01, create := 0x02, openAppend := 0x03, seekToStart := 0x04, close := 0x06,
                       listDirectory := 0x05, openReadWrite := 0x07, seekToByte := 0x08 }
            readyBit := 0, errorBit := 1, availBit := 2, fnameCap := 32 }
    policy := policy, initial := { listed := [], rest := some 0 } }

/-- The reset state with these parameters and no files, PC at 0x4000. -/
def cpu : State := { State.reset with params := params, files := [], pc := 0x4000 }

/-- The bytes of an instruction at 0x4000 and some bytes elsewhere. -/
def start (code : List Byte) (cells : List (Word × Byte)) : State :=
  cells.foldl (fun s c => s.loadByte c.1 c.2) (cpu.loadBytes 0x4000 code)

/-- The outcome is a next state with this property. -/
def ends (o : Host.Outcome State Fault Refusal) (p : State → Bool) : Bool :=
  match o with
  | .next t => p t
  | .fault _ => false
  | .refused _ => false

/-- Each row's word decodes to its instruction. -/
abbrev reads (rows : List (Nat × Nat × Instr)) : Prop :=
  rows.map (fun r => decodeTableWord r.1 r.2.1) = rows.map (fun r => some r.2.2)

/-! ## Steps -/

theorem test_V1_DD_FD_21_nn_last_prefix_wins :
    ends (step (start [0xDD, 0xFD, 0x21, 0x34, 0x12] []))
      (fun t => t.iy == 0x1234 && t.pc == 0x4005 && t.cyc == 18) = true := by
  decide +kernel

theorem test_V2_DD_ED_44_NEG_with_ignored_DD_12T :
    ends (step { start [0xDD, 0xED, 0x44] [] with main := { Bank.zero with a := 0x01 } })
      (fun t => t.main.a == 0xFF && t.main.f == 0xBB && t.pc == 0x4003 && t.cyc == 12) = true := by
  decide +kernel

theorem test_V3_FD_00_NOP_with_ignored_prefix_8T :
    ends (step (start [0xFD, 0x00] []))
      (fun t => t.pc == 0x4002 && t.cyc == 8) = true := by
  decide +kernel

theorem test_V4_LD_B_C :
    ends (step { start [0x41] [] with main := { Bank.zero with c := 0x5A } })
      (fun t => t.main.b == 0x5A && t.pc == 0x4001 && t.cyc == 4) = true := by
  decide +kernel

theorem test_V6_LD_E_n :
    ends (step (start [0x1E, 0x99] []))
      (fun t => t.main.e == 0x99 && t.pc == 0x4002 && t.cyc == 7) = true := by
  decide +kernel

theorem test_V7_LD_A_at_HL :
    ends (step { start [0x7E] [(0x5000, 0x3C)] with main := { Bank.zero with h := 0x50, l := 0x00 } })
      (fun t => t.main.a == 0x3C && t.pc == 0x4001 && t.cyc == 7) = true := by
  decide +kernel

theorem test_V8_LD_at_HL_H :
    ends (step { start [0x74] [] with main := { Bank.zero with h := 0x50, l := 0x10 } })
      (fun t => t.readMem 0x5010 == 0x50 && t.pc == 0x4001 && t.cyc == 7) = true := by
  decide +kernel

theorem test_V9_LD_at_HL_n :
    ends (step { start [0x36, 0xA5] [] with main := { Bank.zero with h := 0x50, l := 0x20 } })
      (fun t => t.readMem 0x5020 == 0xA5 && t.pc == 0x4002 && t.cyc == 10) = true := by
  decide +kernel

theorem test_V10_LD_B_at_IX_minus_1_negative_d :
    ends (step { start [0xDD, 0x46, 0xFF] [(0x5000, 0x77)] with ix := 0x5001 })
      (fun t => t.main.b == 0x77 && t.pc == 0x4003 && t.wz == 0x5000 && t.cyc == 19) = true := by
  decide +kernel

theorem test_V11_LD_H_at_IX_plus_2_writes_H_not_IXH :
    ends (step { start [0xDD, 0x66, 0x02] [(0x5002, 0x11)] with ix := 0x5000 })
      (fun t => t.main.h == 0x11 && t.pc == 0x4003 && t.wz == 0x5002 && t.cyc == 19) = true := by
  decide +kernel

theorem test_V13_LD_at_IX_plus_3_n :
    ends (step { start [0xDD, 0x36, 0x03, 0x9C] [] with ix := 0x5000 })
      (fun t => t.readMem 0x5003 == 0x9C && t.pc == 0x4004 && t.wz == 0x5003 && t.cyc == 19) = true := by
  decide +kernel

theorem test_V15_LD_IYL_A :
    ends (step { start [0xFD, 0x6F] [] with main := { Bank.zero with a := 0xCD }, iy := 0x1234 })
      (fun t => t.iy == 0x12CD && t.pc == 0x4002 && t.cyc == 8) = true := by
  decide +kernel

theorem test_V16_LD_IXL_n :
    ends (step { start [0xDD, 0x2E, 0x56] [] with ix := 0x1200 })
      (fun t => t.ix == 0x1256 && t.pc == 0x4003 && t.cyc == 11) = true := by
  decide +kernel

theorem test_V17_LD_A_at_DE :
    ends (step { start [0x1A] [(0x5030, 0xE1)] with main := { Bank.zero with d := 0x50, e := 0x30 } })
      (fun t => t.main.a == 0xE1 && t.pc == 0x4001 && t.wz == 0x5031 && t.cyc == 7) = true := by
  decide +kernel

theorem test_V18_LD_at_BC_A :
    ends (step { start [0x02] [] with main := { Bank.zero with b := 0x50, c := 0x40, a := 0x66 } })
      (fun t => t.readMem 0x5040 == 0x66 && t.pc == 0x4001 && t.wz == 0x6641 && t.cyc == 7) = true := by
  decide +kernel

theorem test_V19_LD_A_at_nn :
    ends (step (start [0x3A, 0x00, 0x51] [(0x5100, 0x81)]))
      (fun t => t.main.a == 0x81 && t.pc == 0x4003 && t.wz == 0x5101 && t.cyc == 13) = true := by
  decide +kernel

theorem test_V20_LD_at_nn_A :
    ends (step { start [0x32, 0xFF, 0xFF] [] with main := { Bank.zero with a := 0x5E } })
      (fun t => t.readMem 0xFFFF == 0x5E && t.pc == 0x4003 && t.wz == 0x5E00 && t.cyc == 13) = true := by
  decide +kernel

theorem test_V21_LD_A_I_with_IFF2_1 :
    ends (step { start [0xED, 0x57] [] with main := { Bank.zero with f := 0x01 }, i := 0x80, iff2 := true })
      (fun t => t.main.a == 0x80 && t.main.f == 0x85 && t.pc == 0x4002 && t.cyc == 9) = true := by
  decide +kernel

theorem test_V23_LD_A_R :
    ends (step { start [0xED, 0x5F] [] with r := 0x7E, iff2 := false })
      (fun t => t.main.f == 0x40 && t.pc == 0x4002 && t.main.a == 0x00 && t.cyc == 9) = true := by
  decide +kernel

theorem test_V24_LD_I_A :
    ends (step { start [0xED, 0x47] [] with main := { Bank.zero with a := 0x3F } })
      (fun t => t.pc == 0x4002 && t.i == 0x3F && t.cyc == 9) = true := by
  decide +kernel

theorem test_V25_LD_R_A_bit_7_kept :
    ends (step { start [0xED, 0x4F] [] with main := { Bank.zero with a := 0x80 } })
      (fun t => t.pc == 0x4002 && t.r == 0x80 && t.cyc == 9) = true := by
  decide +kernel

theorem test_V26_LD_SP_nn :
    ends (step (start [0x31, 0x00, 0xF0] []))
      (fun t => t.sp == 0xF000 && t.pc == 0x4003 && t.cyc == 10) = true := by
  decide +kernel

theorem test_V27_LD_IY_nn :
    ends (step (start [0xFD, 0x21, 0x34, 0x12] []))
      (fun t => t.iy == 0x1234 && t.pc == 0x4004 && t.cyc == 14) = true := by
  decide +kernel

theorem test_V28_LD_at_nn_HL :
    ends (step { start [0x22, 0x00, 0x50] [] with main := { Bank.zero with h := 0x12, l := 0x34 } })
      (fun t => t.readMem 0x5000 == 0x34 && t.readMem 0x5001 == 0x12 && t.pc == 0x4003 && t.wz == 0x5001 &&
        t.cyc == 16) = true := by
  decide +kernel

theorem test_V30_LD_HL_at_0xFFFF_wraps :
    ends (step (start [0x2A, 0xFF, 0xFF] [(0xFFFF, 0x11), (0x0000, 0x22)]))
      (fun t => t.main.h == 0x22 && t.main.l == 0x11 && t.pc == 0x4003 && t.cyc == 16) = true := by
  decide +kernel

theorem test_V31_LD_at_nn_SP_at_ED_73 :
    ends (step { start [0xED, 0x73, 0x00, 0x50] [] with sp := 0xBEEF })
      (fun t => t.readMem 0x5000 == 0xEF && t.readMem 0x5001 == 0xBE && t.pc == 0x4004 && t.wz == 0x5001 &&
        t.cyc == 20) = true := by
  decide +kernel

theorem test_V32_LD_DE_at_nn_at_ED_5B :
    ends (step (start [0xED, 0x5B, 0x00, 0x50] [(0x5000, 0xCD), (0x5001, 0xAB)]))
      (fun t => t.main.d == 0xAB && t.main.e == 0xCD && t.pc == 0x4004 && t.wz == 0x5001 && t.cyc == 20) = true := by
  decide +kernel

theorem test_V33_LD_SP_IX :
    ends (step { start [0xDD, 0xF9] [] with ix := 0x8000 })
      (fun t => t.sp == 0x8000 && t.pc == 0x4002 && t.cyc == 10) = true := by
  decide +kernel

theorem test_V35_PUSH_AF_at_SP_0 :
    ends (step { start [0xF5] [] with main := { Bank.zero with a := 0xAA, f := 0x55 }, sp := 0x0000 })
      (fun t => t.readMem 0xFFFE == 0x55 && t.readMem 0xFFFF == 0xAA && t.sp == 0xFFFE && t.pc == 0x4001 &&
        t.cyc == 11) = true := by
  decide +kernel

theorem test_V36_POP_AF :
    ends (step { start [0xF1] [(0x5FFE, 0xD7), (0x5FFF, 0x01)] with sp := 0x5FFE })
      (fun t => t.main.a == 0x01 && t.main.f == 0xD7 && t.sp == 0x6000 && t.pc == 0x4001 && t.cyc == 10) = true := by
  decide +kernel

theorem test_V37_PUSH_IX :
    ends (step { start [0xDD, 0xE5] [] with sp := 0x6000, ix := 0xCAFE })
      (fun t => t.readMem 0x5FFE == 0xFE && t.readMem 0x5FFF == 0xCA && t.sp == 0x5FFE && t.pc == 0x4002 &&
        t.cyc == 15) = true := by
  decide +kernel

theorem test_V38_EX_DE_HL :
    ends (step { start [0xEB] [] with main := { Bank.zero with d := 0x11, e := 0x22, h := 0x33, l := 0x44 } })
      (fun t => t.main.d == 0x33 && t.main.e == 0x44 && t.main.h == 0x11 && t.main.l == 0x22 && t.pc == 0x4001 &&
        t.cyc == 4) = true := by
  decide +kernel

theorem test_V40_EX_at_SP_HL :
    ends (step { start [0xE3] [(0x6000, 0x78), (0x6001, 0x56)] with
        main := { Bank.zero with h := 0x12, l := 0x34 }, sp := 0x6000 })
      (fun t => t.readMem 0x6000 == 0x34 && t.readMem 0x6001 == 0x12 && t.main.h == 0x56 && t.main.l == 0x78 &&
        t.pc == 0x4001 && t.wz == 0x5678 && t.cyc == 19) = true := by
  decide +kernel

theorem test_V41_EX_at_SP_IY :
    ends (step { start [0xFD, 0xE3] [(0x6000, 0x78), (0x6001, 0x56)] with sp := 0x6000, iy := 0x1234 })
      (fun t => t.readMem 0x6000 == 0x34 && t.readMem 0x6001 == 0x12 && t.iy == 0x5678 && t.pc == 0x4002 &&
        t.wz == 0x5678 && t.cyc == 23) = true := by
  decide +kernel

theorem test_V42_EX_AF_AFp :
    ends (step { start [0x08] [] with
        main := { Bank.zero with a := 0x01, f := 0x02 }, shadow := { Bank.zero with a := 0x03, f := 0x04 } })
      (fun t => t.main.a == 0x03 && t.main.f == 0x04 && t.shadow.a == 0x01 && t.shadow.f == 0x02 && t.pc == 0x4001 &&
        t.cyc == 4) = true := by
  decide +kernel

theorem test_V43_EXX :
    ends (step { start [0xD9] [] with
        main := { Bank.zero with b := 0x01, c := 0x02, d := 0x03, e := 0x04, h := 0x05, l := 0x06 }
        shadow := { Bank.zero with b := 0x07, c := 0x08, d := 0x09, e := 0x0A, h := 0x0B, l := 0x0C } })
      (fun t => t.main.b == 0x07 && t.main.c == 0x08 && t.main.d == 0x09 && t.main.e == 0x0A && t.main.h == 0x0B &&
        t.main.l == 0x0C && t.shadow.b == 0x01 && t.shadow.c == 0x02 && t.shadow.d == 0x03 && t.shadow.e == 0x04 &&
        t.shadow.h == 0x05 && t.shadow.l == 0x06 && t.pc == 0x4001 && t.cyc == 4) = true := by
  decide +kernel

theorem test_V44_ADD_A_B_half_and_overflow :
    ends (step { start [0x80] [] with main := { Bank.zero with a := 0x7F, b := 0x01 } })
      (fun t => t.main.a == 0x80 && t.main.f == 0x94 && t.pc == 0x4001 && t.cyc == 4) = true := by
  decide +kernel

theorem test_V46_ADC_A_at_HL_with_carry_in :
    ends (step { start [0x8E] [(0x5000, 0x00)] with
        main := { Bank.zero with a := 0x0F, f := 0x01, h := 0x50, l := 0x00 } })
      (fun t => t.main.a == 0x10 && t.main.f == 0x10 && t.pc == 0x4001 && t.cyc == 7) = true := by
  decide +kernel

theorem test_V47_SUB_n_borrow :
    ends (step { start [0xD6, 0x01] [] with main := { Bank.zero with a := 0x00 } })
      (fun t => t.main.a == 0xFF && t.main.f == 0xBB && t.pc == 0x4002 && t.cyc == 7) = true := by
  decide +kernel

theorem test_V49_SBC_A_B_overflow :
    ends (step { start [0x98] [] with main := { Bank.zero with a := 0x80, b := 0x00, f := 0x01 } })
      (fun t => t.main.a == 0x7F && t.main.f == 0x3E && t.pc == 0x4001 && t.cyc == 4) = true := by
  decide +kernel

theorem test_V50_AND_n :
    ends (step { start [0xE6, 0x0F] [] with main := { Bank.zero with a := 0x3C } })
      (fun t => t.main.a == 0x0C && t.main.f == 0x1C && t.pc == 0x4002 && t.cyc == 7) = true := by
  decide +kernel

theorem test_V51_XOR_A :
    ends (step { start [0xAF] [] with main := { Bank.zero with a := 0x77, f := 0xFF } })
      (fun t => t.main.a == 0x00 && t.main.f == 0x44 && t.pc == 0x4001 && t.cyc == 4) = true := by
  decide +kernel

theorem test_V52_OR_IXH_undocumented :
    ends (step { start [0xDD, 0xB4] [] with main := { Bank.zero with a := 0x01 }, ix := 0x8000 })
      (fun t => t.main.a == 0x81 && t.main.f == 0x84 && t.pc == 0x4002 && t.cyc == 8) = true := by
  decide +kernel

theorem test_V53_CP_n_X_Y_from_operand :
    ends (step { start [0xFE, 0x28] [] with main := { Bank.zero with a := 0x30 } })
      (fun t => t.main.f == 0x3A && t.pc == 0x4002 && t.main.a == 0x30 && t.cyc == 7) = true := by
  decide +kernel

theorem test_V55_INC_A_overflow_7F :
    ends (step { start [0x3C] [] with main := { Bank.zero with a := 0x7F, f := 0x01 } })
      (fun t => t.main.a == 0x80 && t.main.f == 0x95 && t.pc == 0x4001 && t.cyc == 4) = true := by
  decide +kernel

theorem test_V57_DEC_B_80 :
    ends (step { start [0x05] [] with main := { Bank.zero with b := 0x80 } })
      (fun t => t.main.f == 0x3E && t.main.b == 0x7F && t.pc == 0x4001 && t.cyc == 4) = true := by
  decide +kernel

theorem test_V58_DEC_at_IY_plus_d :
    ends (step { start [0xFD, 0x35, 0xFE] [(0x5000, 0x01)] with iy := 0x5002 })
      (fun t => t.readMem 0x5000 == 0x00 && t.main.f == 0x42 && t.pc == 0x4003 && t.wz == 0x5000 &&
        t.cyc == 23) = true := by
  decide +kernel

theorem test_V61_DAA_A_0x9A_no_flags :
    ends (step { start [0x27] [] with main := { Bank.zero with a := 0x9A, f := 0x00 } })
      (fun t => t.main.a == 0x00 && t.main.f == 0x55 && t.pc == 0x4001 && t.cyc == 4) = true := by
  decide +kernel

theorem test_V62_CPL :
    ends (step { start [0x2F] [] with main := { Bank.zero with a := 0x5A, f := 0x00 } })
      (fun t => t.main.a == 0xA5 && t.main.f == 0x32 && t.pc == 0x4001 && t.cyc == 4) = true := by
  decide +kernel

theorem test_V63_NEG_0x80 :
    ends (step { start [0xED, 0x44] [] with main := { Bank.zero with a := 0x80 } })
      (fun t => t.main.f == 0x87 && t.pc == 0x4002 && t.main.a == 0x80 && t.cyc == 8) = true := by
  decide +kernel

theorem test_V65_SCF :
    ends (step { start [0x37] [] with main := { Bank.zero with a := 0x28, f := 0xD2 } })
      (fun t => t.main.f == 0xE9 && t.pc == 0x4001 && t.cyc == 4) = true := by
  decide +kernel

theorem test_V66_CCF_with_C_1 :
    ends (step { start [0x3F] [] with main := { Bank.zero with a := 0x00, f := 0x01 } })
      (fun t => t.main.f == 0x10 && t.pc == 0x4001 && t.cyc == 4) = true := by
  decide +kernel

theorem test_V67_ADD_HL_DE_half_carry_at_bit_11 :
    ends (step { start [0x19] [] with main := { Bank.zero with h := 0x0F, l := 0xFF, d := 0x00, e := 0x01 } })
      (fun t => t.main.f == 0x10 && t.main.h == 0x10 && t.main.l == 0x00 && t.pc == 0x4001 && t.wz == 0x1000 &&
        t.cyc == 11) = true := by
  decide +kernel

theorem test_V70_ADD_IY_SP :
    ends (step { start [0xFD, 0x39] [] with iy := 0xFFFF, sp := 0x0001 })
      (fun t => t.main.f == 0x11 && t.iy == 0x0000 && t.pc == 0x4002 && t.cyc == 15) = true := by
  decide +kernel

theorem test_V71_ADC_HL_BC_overflow :
    ends (step { start [0xED, 0x4A] [] with
        main := { Bank.zero with h := 0x7F, l := 0xFF, b := 0x00, c := 0x00, f := 0x01 } })
      (fun t => t.main.f == 0x94 && t.main.h == 0x80 && t.main.l == 0x00 && t.pc == 0x4002 && t.wz == 0x8000 &&
        t.cyc == 15) = true := by
  decide +kernel

theorem test_V73_SBC_HL_SP_borrow :
    ends (step { start [0xED, 0x72] [] with main := { Bank.zero with h := 0x00, l := 0x00, f := 0x00 }, sp := 0x0001 })
      (fun t => t.main.f == 0xBB && t.main.h == 0xFF && t.main.l == 0xFF && t.pc == 0x4002 && t.wz == 0x0001 &&
        t.cyc == 15) = true := by
  decide +kernel

theorem test_V74_INC_SP_wraps_flags_kept :
    ends (step { start [0x33] [] with main := { Bank.zero with f := 0xFF }, sp := 0xFFFF })
      (fun t => t.sp == 0x0000 && t.pc == 0x4001 && t.cyc == 6) = true := by
  decide +kernel

theorem test_V75_DEC_IX :
    ends (step { start [0xDD, 0x2B] [] with ix := 0x0000 })
      (fun t => t.ix == 0xFFFF && t.pc == 0x4002 && t.cyc == 10) = true := by
  decide +kernel

theorem test_V76_RLCA :
    ends (step { start [0x07] [] with main := { Bank.zero with a := 0x81, f := 0xC4 } })
      (fun t => t.main.a == 0x03 && t.main.f == 0xC5 && t.pc == 0x4001 && t.cyc == 4) = true := by
  decide +kernel

theorem test_V77_RRCA :
    ends (step { start [0x0F] [] with main := { Bank.zero with a := 0x01, f := 0x00 } })
      (fun t => t.main.a == 0x80 && t.main.f == 0x01 && t.pc == 0x4001 && t.cyc == 4) = true := by
  decide +kernel

theorem test_V78_RLA :
    ends (step { start [0x17] [] with main := { Bank.zero with a := 0x80, f := 0x00 } })
      (fun t => t.main.a == 0x00 && t.main.f == 0x01 && t.pc == 0x4001 && t.cyc == 4) = true := by
  decide +kernel

theorem test_V79_RRA_with_C_1 :
    ends (step { start [0x1F] [] with main := { Bank.zero with a := 0x00, f := 0x01 } })
      (fun t => t.main.a == 0x80 && t.main.f == 0x00 && t.pc == 0x4001 && t.cyc == 4) = true := by
  decide +kernel

theorem test_V80_RLC_B :
    ends (step { start [0xCB, 0x00] [] with main := { Bank.zero with b := 0x80 } })
      (fun t => t.main.f == 0x01 && t.main.b == 0x01 && t.pc == 0x4002 && t.cyc == 8) = true := by
  decide +kernel

theorem test_V81_RRC_at_HL :
    ends (step { start [0xCB, 0x0E] [(0x5000, 0x01)] with main := { Bank.zero with h := 0x50, l := 0x00 } })
      (fun t => t.readMem 0x5000 == 0x80 && t.main.f == 0x81 && t.pc == 0x4002 && t.cyc == 15) = true := by
  decide +kernel

theorem test_V82_RL_C :
    ends (step { start [0xCB, 0x11] [] with main := { Bank.zero with c := 0x80, f := 0x00 } })
      (fun t => t.main.f == 0x45 && t.main.c == 0x00 && t.pc == 0x4002 && t.cyc == 8) = true := by
  decide +kernel

theorem test_V83_RR_D_carry_in :
    ends (step { start [0xCB, 0x1A] [] with main := { Bank.zero with d := 0x00, f := 0x01 } })
      (fun t => t.main.f == 0x80 && t.main.d == 0x80 && t.pc == 0x4002 && t.cyc == 8) = true := by
  decide +kernel

theorem test_V84_SLA_E :
    ends (step { start [0xCB, 0x23] [] with main := { Bank.zero with e := 0xC0 } })
      (fun t => t.main.f == 0x81 && t.main.e == 0x80 && t.pc == 0x4002 && t.cyc == 8) = true := by
  decide +kernel

theorem test_V85_SRA_H :
    ends (step { start [0xCB, 0x2C] [] with main := { Bank.zero with h := 0x81 } })
      (fun t => t.main.f == 0x85 && t.main.h == 0xC0 && t.pc == 0x4002 && t.cyc == 8) = true := by
  decide +kernel

theorem test_V86_SLL_L_undocumented :
    ends (step { start [0xCB, 0x35] [] with main := { Bank.zero with l := 0x80 } })
      (fun t => t.main.f == 0x01 && t.main.l == 0x01 && t.pc == 0x4002 && t.cyc == 8) = true := by
  decide +kernel

theorem test_V87_SRL_A :
    ends (step { start [0xCB, 0x3F] [] with main := { Bank.zero with a := 0x01 } })
      (fun t => t.main.a == 0x00 && t.main.f == 0x45 && t.pc == 0x4002 && t.cyc == 8) = true := by
  decide +kernel

theorem test_V88_BIT_7_A_set :
    ends (step { start [0xCB, 0x7F] [] with main := { Bank.zero with a := 0x80, f := 0x01 } })
      (fun t => t.main.f == 0x91 && t.pc == 0x4002 && t.cyc == 8) = true := by
  decide +kernel

theorem test_V89_BIT_0_B_clear :
    ends (step { start [0xCB, 0x40] [] with main := { Bank.zero with b := 0xFE, f := 0x00 } })
      (fun t => t.main.f == 0x7C && t.pc == 0x4002 && t.cyc == 8) = true := by
  decide +kernel

theorem test_V90_BIT_3_at_HL_X_Y_from_WZ :
    ends (step { start [0xCB, 0x5E] [(0x5000, 0x08)] with
        main := { Bank.zero with h := 0x50, l := 0x00, f := 0x00 }, wz := 0x2800 })
      (fun t => t.main.f == 0x38 && t.pc == 0x4002 && t.cyc == 12) = true := by
  decide +kernel

theorem test_V91_BIT_0_at_IX_plus_1_X_Y_from_EA_high :
    ends (step { start [0xDD, 0xCB, 0x01, 0x46] [(0x2800, 0x00)] with
        main := { Bank.zero with f := 0x00 }, ix := 0x27FF })
      (fun t => t.main.f == 0x7C && t.pc == 0x4004 && t.wz == 0x2800 && t.cyc == 20) = true := by
  decide +kernel

theorem test_V93_RES_0_at_HL :
    ends (step { start [0xCB, 0x86] [(0x5000, 0xFF)] with main := { Bank.zero with h := 0x50, l := 0x00 } })
      (fun t => t.readMem 0x5000 == 0xFE && t.pc == 0x4002 && t.cyc == 15) = true := by
  decide +kernel

theorem test_V94_SET_7_C :
    ends (step { start [0xCB, 0xF9] [] with main := { Bank.zero with c := 0x00 } })
      (fun t => t.main.c == 0x80 && t.pc == 0x4002 && t.cyc == 8) = true := by
  decide +kernel

theorem test_V95_RLC_at_IX_plus_5_B_at_DD_CB_05_00 :
    ends (step { start [0xDD, 0xCB, 0x05, 0x00] [(0x2005, 0x01)] with
        main := { Bank.zero with b := 0x77 }, ix := 0x2000 })
      (fun t => t.readMem 0x2005 == 0x02 && t.main.b == 0x02 && t.pc == 0x4004 && t.wz == 0x2005 &&
        t.cyc == 23) = true := by
  decide +kernel

theorem test_V97_SRL_at_IY_minus_2_A :
    ends (step { start [0xFD, 0xCB, 0xFE, 0x3F] [(0x5000, 0x03)] with iy := 0x5002 })
      (fun t => t.readMem 0x5000 == 0x01 && t.main.a == 0x01 && t.main.f == 0x01 && t.pc == 0x4004 && t.wz == 0x5000 &&
        t.cyc == 23) = true := by
  decide +kernel

theorem test_V98_SET_1_at_IX_plus_0_E :
    ends (step { start [0xDD, 0xCB, 0x00, 0xCB] [(0x5000, 0x00)] with ix := 0x5000 })
      (fun t => t.readMem 0x5000 == 0x02 && t.main.e == 0x02 && t.pc == 0x4004 && t.wz == 0x5000 &&
        t.cyc == 23) = true := by
  decide +kernel

theorem test_V99_RES_7_at_IY_plus_1_H :
    ends (step { start [0xFD, 0xCB, 0x01, 0xBC] [(0x5001, 0xFF)] with iy := 0x5000 })
      (fun t => t.readMem 0x5001 == 0x7F && t.main.h == 0x7F && t.pc == 0x4004 && t.wz == 0x5001 &&
        t.cyc == 23) = true := by
  decide +kernel

theorem test_V100_RLD :
    ends (step { start [0xED, 0x6F] [(0x5000, 0x31)] with main := { Bank.zero with a := 0x7A, h := 0x50, l := 0x00 } })
      (fun t => t.readMem 0x5000 == 0x1A && t.main.a == 0x73 && t.main.f == 0x20 && t.pc == 0x4002 && t.wz == 0x5001 &&
        t.cyc == 18) = true := by
  decide +kernel

theorem test_V101_RRD :
    ends (step { start [0xED, 0x67] [(0x5000, 0x20)] with main := { Bank.zero with a := 0x84, h := 0x50, l := 0x00 } })
      (fun t => t.readMem 0x5000 == 0x42 && t.main.a == 0x80 && t.main.f == 0x80 && t.pc == 0x4002 && t.wz == 0x5001 &&
        t.cyc == 18) = true := by
  decide +kernel

theorem test_V102_JP_nn :
    ends (step (start [0xC3, 0x34, 0x12] []))
      (fun t => t.pc == 0x1234 && t.wz == 0x1234 && t.cyc == 10) = true := by
  decide +kernel

theorem test_V103_JP_Z_nn_not_taken :
    ends (step { start [0xCA, 0x34, 0x12] [] with main := { Bank.zero with f := 0x00 } })
      (fun t => t.pc == 0x4003 && t.wz == 0x1234 && t.cyc == 10) = true := by
  decide +kernel

theorem test_V105_JP_at_HL :
    ends (step { start [0xE9] [] with main := { Bank.zero with h := 0x12, l := 0x34 } })
      (fun t => t.pc == 0x1234 && t.cyc == 4) = true := by
  decide +kernel

theorem test_V106_JP_at_IY :
    ends (step { start [0xFD, 0xE9] [] with iy := 0x5678 })
      (fun t => t.pc == 0x5678 && t.cyc == 8) = true := by
  decide +kernel

theorem test_V107_JR_minus_2_at_self :
    ends (step (start [0x18, 0xFE] []))
      (fun t => t.wz == 0x4000 && t.pc == 0x4000 && t.cyc == 12) = true := by
  decide +kernel

theorem test_V109_JR_NC_taken :
    ends (step { start [0x30, 0x10] [] with main := { Bank.zero with f := 0x00 } })
      (fun t => t.pc == 0x4012 && t.wz == 0x4012 && t.cyc == 12) = true := by
  decide +kernel

theorem test_V110_JR_C_not_taken :
    ends (step { start [0x38, 0x10] [] with main := { Bank.zero with f := 0x00 } })
      (fun t => t.pc == 0x4002 && t.cyc == 7) = true := by
  decide +kernel

theorem test_V111_DJNZ_taken :
    ends (step { start [0x10, 0xFE] [] with main := { Bank.zero with b := 0x02 } })
      (fun t => t.main.b == 0x01 && t.wz == 0x4000 && t.pc == 0x4000 && t.cyc == 13) = true := by
  decide +kernel

theorem test_V112_DJNZ_B_1_falls_through :
    ends (step { start [0x10, 0xFE] [] with main := { Bank.zero with b := 0x01 } })
      (fun t => t.main.b == 0x00 && t.pc == 0x4002 && t.cyc == 8) = true := by
  decide +kernel

theorem test_V114_CALL_nn :
    ends (step { start [0xCD, 0x00, 0x50] [] with sp := 0x6000 })
      (fun t => t.readMem 0x5FFE == 0x03 && t.readMem 0x5FFF == 0x40 && t.sp == 0x5FFE && t.pc == 0x5000 &&
        t.wz == 0x5000 && t.cyc == 17) = true := by
  decide +kernel

theorem test_V115_CALL_M_not_taken :
    ends (step { start [0xFC, 0x00, 0x50] [] with main := { Bank.zero with f := 0x00 }, sp := 0x6000 })
      (fun t => t.pc == 0x4003 && t.wz == 0x5000 && t.cyc == 10) = true := by
  decide +kernel

theorem test_V116_RET :
    ends (step { start [0xC9] [(0x5FFE, 0x03), (0x5FFF, 0x40)] with sp := 0x5FFE })
      (fun t => t.sp == 0x6000 && t.pc == 0x4003 && t.wz == 0x4003 && t.cyc == 10) = true := by
  decide +kernel

theorem test_V117_RET_NZ_taken :
    ends (step { start [0xC0] [(0x5FFE, 0x34), (0x5FFF, 0x12)] with
        main := { Bank.zero with f := 0x00 }, sp := 0x5FFE })
      (fun t => t.sp == 0x6000 && t.pc == 0x1234 && t.wz == 0x1234 && t.cyc == 11) = true := by
  decide +kernel

theorem test_V118_RET_Z_not_taken :
    ends (step { start [0xC8] [] with main := { Bank.zero with f := 0x00 }, sp := 0x5FFE })
      (fun t => t.pc == 0x4001 && t.cyc == 5) = true := by
  decide +kernel

theorem test_V119_RETI :
    ends (step { start [0xED, 0x4D] [(0x5FFE, 0x00), (0x5FFF, 0x01)] with sp := 0x5FFE, iff1 := false, iff2 := true })
      (fun t => t.sp == 0x6000 && t.pc == 0x0100 && t.wz == 0x0100 && t.iff1 == true && t.cyc == 14) = true := by
  decide +kernel

theorem test_V120_RETN_restores_IFF1 :
    ends (step { start [0xED, 0x45] [(0x5FFE, 0x00), (0x5FFF, 0x01)] with sp := 0x5FFE, iff1 := false, iff2 := true })
      (fun t => t.sp == 0x6000 && t.pc == 0x0100 && t.wz == 0x0100 && t.iff1 == true && t.cyc == 14) = true := by
  decide +kernel

theorem test_V121_RST_38h :
    ends (step { start [0xFF] [] with sp := 0x6000 })
      (fun t => t.readMem 0x5FFE == 0x01 && t.readMem 0x5FFF == 0x40 && t.sp == 0x5FFE && t.pc == 0x0038 &&
        t.wz == 0x0038 && t.cyc == 11) = true := by
  decide +kernel

theorem test_V123_LDI_BC_2_minus_1 :
    ends (step { start [0xED, 0xA0] [(0x5000, 0x0A)] with
        main := { Bank.zero with h := 0x50, l := 0x00, d := 0x60, e := 0x00, b := 0x00, c := 0x02, a := 0x00, f := 0x00 } })
      (fun t => t.readMem 0x6000 == 0x0A && t.main.f == 0x2C && t.main.c == 0x01 && t.main.e == 0x01 &&
        t.main.l == 0x01 && t.pc == 0x4002 && t.cyc == 16) = true := by
  decide +kernel

theorem test_V125_LDD :
    ends (step { start [0xED, 0xA8] [(0x5000, 0x55)] with
        main := { Bank.zero with h := 0x50, l := 0x00, d := 0x60, e := 0x00, b := 0x00, c := 0x03, f := 0x00 } })
      (fun t => t.readMem 0x6000 == 0x55 && t.main.f == 0x04 && t.main.c == 0x02 && t.main.d == 0x5F &&
        t.main.e == 0xFF && t.main.h == 0x4F && t.main.l == 0xFF && t.pc == 0x4002 && t.cyc == 16) = true := by
  decide +kernel

theorem test_V126_LDIR_one_iteration_repeats :
    ends (step { start [0xED, 0xB0] [(0x5000, 0x01), (0x5001, 0x02)] with
        main := { Bank.zero with h := 0x50, l := 0x00, d := 0x60, e := 0x00, b := 0x00, c := 0x02 } })
      (fun t => t.readMem 0x6000 == 0x01 && t.main.f == 0x04 && t.main.c == 0x01 && t.main.e == 0x01 &&
        t.main.l == 0x01 && t.wz == 0x4001 && t.cyc == 21 && t.pc == 0x4000) = true := by
  decide +kernel

theorem test_V129_LDDR_last_iteration :
    ends (step { start [0xED, 0xB8] [(0x5000, 0x77)] with
        main := { Bank.zero with h := 0x50, l := 0x00, d := 0x60, e := 0x00, b := 0x00, c := 0x01 } })
      (fun t => t.readMem 0x6000 == 0x77 && t.main.f == 0x20 && t.main.c == 0x00 && t.main.d == 0x5F &&
        t.main.e == 0xFF && t.main.h == 0x4F && t.main.l == 0xFF && t.pc == 0x4002 && t.cyc == 16) = true := by
  decide +kernel

theorem test_V130_CPI_match :
    ends (step { start [0xED, 0xA1] [(0x5000, 0x41)] with
        main := { Bank.zero with a := 0x41, h := 0x50, l := 0x00, b := 0x00, c := 0x03, f := 0x00 } })
      (fun t => t.main.f == 0x46 && t.main.c == 0x02 && t.main.l == 0x01 && t.pc == 0x4002 && t.wz == 0x0001 &&
        t.cyc == 16) = true := by
  decide +kernel

theorem test_V131_CPD_no_match :
    ends (step { start [0xED, 0xA9] [(0x5000, 0x40)] with
        main := { Bank.zero with a := 0x41, h := 0x50, l := 0x00, b := 0x00, c := 0x01, f := 0x00 } })
      (fun t => t.main.f == 0x02 && t.main.c == 0x00 && t.main.h == 0x4F && t.main.l == 0xFF && t.pc == 0x4002 &&
        t.wz == 0xFFFF && t.cyc == 16) = true := by
  decide +kernel

theorem test_V132_CPIR_no_match_yet :
    ends (step { start [0xED, 0xB1] [(0x5000, 0x41), (0x5001, 0x42), (0x5002, 0x43), (0x5003, 0x00)] with
        main := { Bank.zero with a := 0x42, h := 0x50, l := 0x00, b := 0x00, c := 0x04, f := 0x00 } })
      (fun t => t.main.f == 0x06 && t.main.c == 0x03 && t.main.l == 0x01 && t.wz == 0x4001 && t.cyc == 21 &&
        t.pc == 0x4000) = true := by
  decide +kernel

theorem test_V133_CPDR_match_first :
    ends (step { start [0xED, 0xB9] [(0x5000, 0x41), (0x5001, 0x42), (0x5002, 0x43)] with
        main := { Bank.zero with a := 0x43, h := 0x50, l := 0x02, b := 0x00, c := 0x03, f := 0x00 } })
      (fun t => t.main.f == 0x46 && t.main.c == 0x02 && t.main.l == 0x01 && t.pc == 0x4002 && t.wz == 0xFFFF &&
        t.cyc == 16) = true := by
  decide +kernel

theorem test_V134_INI_from_ACIA_status_0x80 :
    ends (step { start [0xED, 0xA2] [] with main := { Bank.zero with b := 0x02, c := 0x80, h := 0x50, l := 0x00 } })
      (fun t => t.readMem 0x5000 == 0x02 && t.main.b == 0x01 && t.main.l == 0x01 && t.pc == 0x4002 && t.wz == 0x0281 &&
        t.cyc == 16) = true := by
  decide +kernel

theorem test_V135_IND_from_unowned_port :
    ends (step { start [0xED, 0xAA] [] with main := { Bank.zero with b := 0x01, c := 0x40, h := 0x50, l := 0x00 } })
      (fun t => t.readMem 0x5000 == 0xFF && t.main.f == 0x57 && t.main.b == 0x00 && t.main.h == 0x4F &&
        t.main.l == 0xFF && t.pc == 0x4002 && t.wz == 0x013F && t.cyc == 16) = true := by
  decide +kernel

theorem test_V136_INIR_B_2_minus_1_repeats :
    ends (step { start [0xED, 0xB2] [] with main := { Bank.zero with b := 0x02, c := 0x80, h := 0x50, l := 0x00 } })
      (fun t => t.readMem 0x5000 == 0x02 && t.main.b == 0x01 && t.main.l == 0x01 && t.wz == 0x0281 && t.cyc == 21 &&
        t.pc == 0x4000) = true := by
  decide +kernel

theorem test_V137_OUTI_to_ACIA_data :
    ends (step { start [0xED, 0xA3] [(0x5000, 0x48)] with
        main := { Bank.zero with b := 0x01, c := 0x81, h := 0x50, l := 0x00 } })
      (fun t => t.main.f == 0x40 && t.main.b == 0x00 && t.main.l == 0x01 && t.pc == 0x4002 && t.wz == 0x0082 &&
        t.sink == [0x48] && t.cyc == 16) = true := by
  decide +kernel

theorem test_V138_OUTD :
    ends (step { start [0xED, 0xAB] [(0x5000, 0x41), (0x5001, 0x42)] with
        main := { Bank.zero with b := 0x02, c := 0x81, h := 0x50, l := 0x01 } })
      (fun t => t.main.f == 0x04 && t.main.b == 0x01 && t.main.l == 0x00 && t.pc == 0x4002 && t.wz == 0x0180 &&
        t.sink == [0x42] && t.cyc == 16) = true := by
  decide +kernel

theorem test_V140_OTDR_one_byte :
    ends (step { start [0xED, 0xBB] [(0x5000, 0x21)] with
        main := { Bank.zero with b := 0x01, c := 0x81, h := 0x50, l := 0x00 } })
      (fun t => t.main.f == 0x55 && t.main.b == 0x00 && t.main.h == 0x4F && t.main.l == 0xFF && t.pc == 0x4002 &&
        t.wz == 0x0080 && t.sink == [0x21] && t.cyc == 16) = true := by
  decide +kernel

theorem test_V141_IN_A_at_0x80_empty_queue :
    ends (step { start [0xDB, 0x80] [] with main := { Bank.zero with a := 0x12 } })
      (fun t => t.main.a == 0x02 && t.pc == 0x4002 && t.wz == 0x1281 && t.uses8251 == false &&
        t.cyc == 11) = true := by
  decide +kernel

theorem test_V142_IN_A_at_0x01_USART_status :
    ends (step { start [0xDB, 0x01] [] with queue := [0x61] })
      (fun t => t.main.a == 0x87 && t.pc == 0x4002 && t.wz == 0x0002 && t.uses8251 == true && t.queue == [0x61] &&
        t.cyc == 11) = true := by
  decide +kernel

theorem test_V143_IN_A_at_0x00_uppercases :
    ends (step { start [0xDB, 0x00] [] with queue := [0x61] })
      (fun t => t.main.a == 0x41 && t.pc == 0x4002 && t.wz == 0x0001 && t.uses8251 == true && t.queue == [] &&
        t.cyc == 11) = true := by
  decide +kernel

theorem test_V147_OUT_at_0x81_A :
    ends (step { start [0xD3, 0x81] [] with main := { Bank.zero with a := 0x48 } })
      (fun t => t.pc == 0x4002 && t.wz == 0x4882 && t.sink == [0x48] && t.cyc == 11) = true := by
  decide +kernel

theorem test_V149_IN_B_at_C_sets_flags :
    ends (step { start [0xED, 0x40] [] with main := { Bank.zero with b := 0x12, c := 0x80, f := 0x01 } })
      (fun t => t.main.b == 0x02 && t.pc == 0x4002 && t.wz == 0x1281 && t.main.f == 0x01 && t.cyc == 12) = true := by
  decide +kernel

theorem test_V150_IN_D_at_C_unowned_0xFF :
    ends (step { start [0xED, 0x50] [] with main := { Bank.zero with b := 0x00, c := 0x33, f := 0x00 } })
      (fun t => t.main.f == 0xAC && t.main.d == 0xFF && t.pc == 0x4002 && t.wz == 0x0034 && t.cyc == 12) = true := by
  decide +kernel

theorem test_V151_IN_at_C_flags_only :
    ends (step { start [0xED, 0x70] [] with main := { Bank.zero with b := 0x00, c := 0x80, f := 0x00 } })
      (fun t => t.pc == 0x4002 && t.wz == 0x0081 && t.main.f == 0x00 && t.cyc == 12) = true := by
  decide +kernel

theorem test_V152_OUT_at_C_E :
    ends (step { start [0xED, 0x59] [] with main := { Bank.zero with b := 0xFF, c := 0x81, e := 0x5A } })
      (fun t => t.pc == 0x4002 && t.wz == 0xFF82 && t.sink == [0x5A] && t.cyc == 12) = true := by
  decide +kernel

theorem test_V153_OUT_at_C_0 :
    ends (step { start [0xED, 0x71] [] with main := { Bank.zero with b := 0x00, c := 0x81 } })
      (fun t => t.pc == 0x4002 && t.wz == 0x0082 && t.sink == [0x00] && t.cyc == 12) = true := by
  decide +kernel

theorem test_V155_NOP_R_wraps_low_7_bits :
    ends (step { start [0x00] [] with r := 0xFF })
      (fun t => t.pc == 0x4001 && t.r == 0x80 && t.cyc == 4) = true := by
  decide +kernel

theorem test_V156_HALT :
    ends (step (start [0x76] []))
      (fun t => t.pc == 0x4001 && t.halted == true && t.cyc == 4) = true := by
  decide +kernel

theorem test_V159_DI :
    ends (step { start [0xF3] [] with iff1 := true, iff2 := true })
      (fun t => t.pc == 0x4001 && t.iff1 == false && t.iff2 == false && t.cyc == 4) = true := by
  decide +kernel

theorem test_V160_EI :
    ends (step (start [0xFB] []))
      (fun t => t.pc == 0x4001 && t.iff1 == true && t.iff2 == true && t.iffDelay == 1 && t.cyc == 4) = true := by
  decide +kernel

theorem test_V162_IM_0_mirror_ED_6E :
    ends (step { start [0xED, 0x6E] [] with im := .im2 })
      (fun t => t.pc == 0x4002 && decide (t.im = .im0) && t.cyc == 8) = true := by
  decide +kernel

theorem test_V163_IM_1_mirror_ED_76 :
    ends (step (start [0xED, 0x76] []))
      (fun t => t.pc == 0x4002 && decide (t.im = .im1) && t.cyc == 8) = true := by
  decide +kernel

theorem test_V164_IM_2 :
    ends (step (start [0xED, 0x5E] []))
      (fun t => t.pc == 0x4002 && decide (t.im = .im2) && t.cyc == 8) = true := by
  decide +kernel

theorem test_V167_ED_77_no_minus_op :
    ends (step (start [0xED, 0x77] []))
      (fun t => t.pc == 0x4002 && t.cyc == 8) = true := by
  decide +kernel

/-! ## Interrupts and C7 -/

theorem test_I1_nmi_at_a_nop :
    ends (step { start [0x00] [] with sp := 0x6000, iff1 := true, iff2 := true, nmiPending := true })
      (fun t => t.pc == 0x0066 && t.wz == 0x0066 && t.sp == 0x5FFE && t.readMem 0x5FFE == 0x01 && t.readMem 0x5FFF == 0x40 &&
        !t.iff1 && t.iff2 && !t.nmiPending && t.cyc == 15 && t.r == 2) = true := by
  decide +kernel

theorem test_I2_im1_acceptance :
    ends (step { start [0x00] [] with
        sp := 0x6000, im := .im1, iff1 := true, iff2 := true, intPending := true, intVector := 0xFF })
      (fun t => t.pc == 0x0038 && t.wz == 0x0038 && t.sp == 0x5FFE && t.readMem 0x5FFE == 0x01 && t.readMem 0x5FFF == 0x40 &&
        !t.iff1 && !t.iff2 && !t.intPending && t.cyc == 17) = true := by
  decide +kernel

theorem test_I3_im2_through_the_table :
    ends (step { start [0x00] [(0x8030, 0x00), (0x8031, 0x90)] with
        sp := 0x6000, im := .im2, i := 0x80, iff1 := true, iff2 := true, intPending := true, intVector := 0x31 })
      (fun t => t.pc == 0x9000 && t.wz == 0x9000 && t.sp == 0x5FFE && t.readMem 0x5FFE == 0x01 && t.readMem 0x5FFF == 0x40 &&
        !t.iff1 && !t.iff2 && t.cyc == 23) = true := by
  decide +kernel

theorem test_I4_im0_with_an_rst_byte :
    ends (step { start [0x00] [] with
        sp := 0x6000, iff1 := true, iff2 := true, intPending := true, intVector := 0xEF })
      (fun t => t.pc == 0x0028 && t.sp == 0x5FFE && t.readMem 0x5FFE == 0x01 && t.readMem 0x5FFF == 0x40 && !t.iff1 &&
        !t.iff2 && t.cyc == 17) = true := by
  decide +kernel

theorem test_I5_im0_with_another_byte_is_refused :
    step { start [0x00] [] with sp := 0x6000, iff1 := true, iff2 := true, intPending := true, intVector := 0x00 } =
      .refused (.im0DataBusByte 0x00) := rfl

theorem test_I6_request_with_iff1_clear :
    ends (step { start [0x00] [] with sp := 0x6000, im := .im1, intPending := true, intVector := 0xFF })
      (fun t => t.pc == 0x4001 && t.intPending && t.cyc == 4) = true := by
  decide +kernel

theorem test_I7_acceptance_from_halt :
    ends (step { start [0x76] [] with
        sp := 0x6000, pc := 0x4001, halted := true, im := .im1, iff1 := true, iff2 := true, intPending := true
        intVector := 0xFF })
      (fun t => t.pc == 0x0038 && !t.halted && t.readMem 0x5FFE == 0x01 && t.readMem 0x5FFF == 0x40 && t.cyc == 17) = true := by
  decide +kernel

theorem test_I8_ei_accepts_nothing :
    ends (step { start [0xFB] [] with sp := 0x6000, im := .im1, intPending := true, intVector := 0xFF })
      (fun t => t.pc == 0x4001 && t.intPending && t.iff1 && t.iff2 && t.iffDelay == 1 && t.cyc == 4) = true := by
  decide +kernel

theorem test_I9_nmi_in_the_ei_delay :
    ends (step { start [0xFB] [] with sp := 0x6000, im := .im1, nmiPending := true })
      (fun t => t.pc == 0x0066 && t.readMem 0x5FFE == 0x01 && t.readMem 0x5FFF == 0x40 && !t.iff1 && t.iff2 &&
        t.iffDelay == 1 && t.cyc == 15) = true := by
  decide +kernel

theorem test_I10_raise_int_is_idempotent :
    ((cpu.raiseInt 0x11).raiseInt 0x22).intVector = 0x11 ∧ ((cpu.raiseInt 0x11).raiseInt 0x22).intPending = true := by
  decide +kernel

theorem test_I12_c7_raises :
    ends (step { start [0x00] [] with
        sp := 0x6000, im := .im1, iff1 := true, iff2 := true, uses8251 := true, queue := [0x61] })
      (fun t => t.pc == 0x4001 && t.intPending && t.intVector == 0xFF && t.c7Latch && t.queue == [0x61] && t.cyc == 4) =
        true := by
  decide +kernel

theorem test_I13_no_c7_interrupt_for_an_acia_firmware :
    ends (step { start [0x00] [] with sp := 0x6000, im := .im1, iff1 := true, iff2 := true, queue := [0x61] })
      (fun t => t.pc == 0x4001 && !t.intPending && !t.c7Latch && t.cyc == 4) = true := by
  decide +kernel

/-- Step 4 of the vector, which stands under R531: the instruction after EI ends with iff_delay 0, and C7 raises. -/
theorem test_I14_c7_raises_at_the_end_of_the_instruction_after_ei :
    ends (step { start [0x00] [] with
        sp := 0x5FFE, im := .im1, iff1 := true, iff2 := true, iffDelay := 1, uses8251 := true, queue := [0x61] })
      (fun t => t.pc == 0x4001 && t.iffDelay == 0 && t.intPending && t.intVector == 0xFF && t.c7Latch && t.queue == [0x61] &&
        t.cyc == 4) = true := by
  decide +kernel

/-! ## Devices -/

theorem test_U2_acia_status :
    ends (step { start [0xDB, 0x80] [] with queue := [0x41] })
      (fun t => t.main.a == 0x03 && t.queue == [0x41] && !t.uses8251) = true := by
  decide +kernel

theorem test_U5_acia_control_write :
    ends (step { start [0xD3, 0x80] [] with main := { Bank.zero with a := 0x03 }, queue := [0x41] })
      (fun t => t.aciaCtrl == 0x03 && t.queue == [0x41]) = true := by
  decide +kernel

theorem test_U10_usart_maps_letters_only :
    ends (step { start [0xDB, 0x00] [] with queue := [0xE1] })
      (fun t => t.main.a == 0xE1 && t.queue == [] && t.uses8251) = true := by
  decide +kernel

theorem test_U11_usart_edge_of_the_range :
    ends (step { start [0xDB, 0x00] [] with queue := [0x60, 0x7B] })
      (fun t => t.main.a == 0x60 && t.queue == [0x7B]) = true := by
  decide +kernel

theorem test_U13_usart_data_write :
    ends (step { start [0xD3, 0x00] [] with main := { Bank.zero with a := 0x61 } })
      (fun t => t.sink == [0x61] && t.uses8251) = true := by
  decide +kernel

theorem test_U18_read_of_a_write_only_sd_port :
    ends (step (start [0xDB, 0x10] [])) (fun t => t.main.a == 0xFF && decide (t.sd = Sd.powerOn)) = true := by
  decide +kernel

/-- The machine with the file A.TXT, "hi", its name sent to the device. -/
def sdNamed : State :=
  { cpu with files := oneFile [0x68, 0x69], sd := { Sd.powerOn with fname := aTxt, fnameFinal := true } }

/-- A.TXT opened by an operation, at a position. -/
def sdOpen (opening : Opening) (position : Nat) : State :=
  { sdNamed with sd := { sdNamed.sd with
      file := some { handle := handle opening, mode := Opening.mode opening, position := position } } }

theorem test_S1_the_filename_latch :
    ([0x41, 0x2E, 0x54, 0x58, 0x54, 0x00].foldl (fun s b => s.portOut 0x0013 b) cpu).sd = sdNamed.sd := by
  decide +kernel

theorem test_S2_open_for_read :
    (sdNamed.portOut 0x0010 params.sd.codes.openRead).sd = (sdOpen .read 0).sd ∧
      ((sdOpen .read 0).portIn 0x0011).1 = 0x05 := by
  decide +kernel

theorem test_S3_the_second_byte_is_the_last :
    ((sdOpen .read 1).portIn 0x0012).1 = 0x69 ∧ (((sdOpen .read 1).portIn 0x0012).2.portIn 0x0011).1 = 0x01 := by
  decide +kernel

theorem test_S4_end_of_file :
    ((sdOpen .read 2).portIn 0x0012).1 = 0x00 ∧ ((sdOpen .read 2).portIn 0x0012).2.sd = sdNamed.sd := by
  decide +kernel

theorem test_S6_create :
    let s := sdNamed.portOut 0x0010 params.sd.codes.create
    s.files = [(aTxt, [])] ∧ (s.portOut 0x0012 0x31).files = [(aTxt, [0x31])] ∧ (s.portIn 0x0011).1 = 0x01 := by
  decide +kernel

theorem test_S8_seek_past_the_end :
    let s := { sdOpen .append 2 with sd := { (sdOpen .append 2).sd with seekLo := 5 } }.portOut 0x0010 params.sd.codes.seekToByte
    s.sd.file = none ∧ s.sd.error = true ∧ (s.portIn 0x0011).1 = 0x03 := by
  decide +kernel

theorem test_S11_append :
    let s := (sdNamed.portOut 0x0010 params.sd.codes.openAppend).portOut 0x0012 0x33
    s.files = [(aTxt, [0x68, 0x69, 0x33])] ∧ s.sd.file = some { handle := handle .append, mode := .write, position := 3 } := by
  decide +kernel

theorem test_S12_overwrite :
    let s := (sdOpen .readWrite 0).portOut 0x0012 0x39
    s.files = [(aTxt, [0x39, 0x69])] ∧ (s.portIn 0x0012).1 = 0x69 := by
  decide +kernel

theorem test_S13_a_long_name_is_cut :
    let s := { cpu with params := { params with sd := { params.sd with fnameCap := 4 } } }
    ([0x4C, 0x4F, 0x4E, 0x47].foldl (fun s b => s.portOut 0x0013 b) s).sd.fname = [0x4C, 0x4F, 0x4E] := by
  decide +kernel

theorem test_S16_directory_listing :
    ({ cpu with files := twoFiles }.portOut 0x0010 params.sd.codes.listDirectory).sd.dir =
      some [0x42, 0x41, 0x52, 0x0D, 0x0A, 0x46, 0x4F, 0x4F, 0x0D, 0x0A] := by
  decide +kernel

theorem test_S17_empty_directory :
    (cpu.portOut 0x0010 params.sd.codes.listDirectory).sd = Sd.powerOn := by
  decide +kernel

theorem test_append_creates_a_missing_file_and_a_refused_create_fails :
    let s := { sdNamed with files := [] }
    (s.portOut 0x0010 params.sd.codes.openAppend).files = oneFile [] ∧
      (s.portOut 0x0010 params.sd.codes.create).sd.error = true ∧
      (s.portOut 0x0010 params.sd.codes.openRead).sd.error = true := by
  decide +kernel

theorem test_the_backend_may_answer_by_the_handle :
    ((sdOpen .writeTrunc 2).portOut 0x0010 params.sd.codes.seekToStart).sd.error = false ∧
      ((sdOpen .append 2).portOut 0x0010 params.sd.codes.seekToStart).sd.error = true := by
  decide +kernel

/-! ## Well-formedness, the words, placing them and loading a program -/

theorem test_retn_1_is_ill_formed : (Instr.retn 1).wellFormed = false ∧ (Instr.retn 0).wellFormed = true := by decide

theorem test_ed_nop_of_another_instruction_is_ill_formed :
    (Instr.ed_nop 0x44).wellFormed = false ∧ (Instr.ed_nop 0xA0).wellFormed = false ∧
      (Instr.ed_nop 0x77).wellFormed = true := by decide

theorem test_withFetchWord_runs_the_word :
    ends (step (cpu.withFetchWord 32 0xDD3603A7)) (fun t => t.readMem 0x0003 == 0xA7 && t.pc == 0x4004) = true := by
  decide +kernel

/-- A program of one instruction, the byte after it given as `MEM_INIT`. -/
def loaded : State :=
  hostLoad State.reset
    { romImage := [0x3E, 0x55], romCeiling := 1, memInit := [0xC3], rest := none, files := [], policy := policy }

theorem test_load_runs_the_program :
    ends (step loaded) (fun t => t.main.a == 0x55 && t.pc == 2 && t.cyc == 7) = true ∧ loaded.readMem 0x0002 = 0xC3 ∧
      (loaded.writeMem 0x0000 0).readMem 0x0000 = 0x3E ∧ (loaded.writeMem 0x0001 0).readMem 0x0001 = 0 := by
  decide +kernel

theorem test_a_byte_that_no_load_gives_is_free :
    State.reset.readMem 0x1234 = Config.memInit 0x1234 ∧ loaded.readMem 0x1234 = Config.memInit 0x1234 := ⟨rfl, rfl⟩

/-! ## Witnesses: every obligation with hypotheses has a state and operands that meet them -/

theorem witness_LoadRegisterAndAtHL : (0 : BitVec 3) ≠ 6 ∧ (5 : BitVec 3) ≠ 6 ∧ (7 : BitVec 3) ≠ 6 := by decide

theorem witness_IndexedLoads :
    (4 : BitVec 3) ≠ 6 ∧ (5 : BitVec 3) ≠ 6 ∧ (0 : BitVec 3) ≠ 6 ∧ ((0 : BitVec 3) = 4 ∨ (0 : BitVec 3) = 5 ∨
      (4 : BitVec 3) = 4 ∨ (4 : BitVec 3) = 5) := by decide

/-- The program counter, the stack and BC of a machine about to push. -/
def pushing : State := { start [0xC5, 0xD1] [] with sp := 0x6000, main := { Bank.zero with b := 0x12, c := 0x34 } }

theorem witness_PushThenPopRestores :
    ∃ t u, pushing.inRom (pushing.sp - 1) = false ∧ pushing.inRom (pushing.sp - 2) = false ∧
      exec (instrOf [opcode 3 (fieldY 0 0) 5]) pushing = .next t ∧ exec (instrOf [opcode 3 (fieldY 1 0) 1]) t = .next u :=
  ⟨_, _, by decide +kernel, by decide +kernel, rfl, rfl⟩

theorem witness_AccumulatorOperationForms : (0 : BitVec 3) ≠ 6 ∧ (7 : BitVec 3) ≠ 6 := by decide

theorem witness_IncrementAndDecrementByte : (0 : BitVec 3) ≠ 6 ∧ (7 : BitVec 3) ≠ 6 := by decide

theorem witness_DecimalAdjustIsDecimal : (0 < 100 ∧ 99 < 100) ∧ (99 < 100 ∧ 0 < 100) := by decide

theorem witness_RotateAndShift : (0 : BitVec 3) ≠ 6 ∧ (7 : BitVec 3) ≠ 6 := by decide

theorem witness_BitTestResetAndSet : (0 : BitVec 3) ≠ 6 ∧ (7 : BitVec 3) ≠ 6 := by decide

theorem witness_Jumps : 4 ≤ (4 : BitVec 3).toNat ∧ 4 ≤ (7 : BitVec 3).toNat := by decide

theorem witness_InputAndOutput : (0 : BitVec 3) ≠ 6 ∧ (7 : BitVec 3) ≠ 6 := by decide

/-- The ends of each range of no-operations. -/
theorem witness_CpuControl : ∀ op ∈ [0x00, 0x3F, 0x77, 0x7F, 0x80, 0x9F, 0xA4, 0xA7, 0xAC, 0xAF, 0xB4, 0xB7, 0xBC, (0xFF : Byte)],
    op.toNat < 0x40 ∨ op = 0x77 ∨ op = 0x7F ∨ (0x80 ≤ op.toNat ∧ op.toNat < 0xA0) ∨
      (0xA4 ≤ op.toNat ∧ op.toNat < 0xA8) ∨ (0xAC ≤ op.toNat ∧ op.toNat < 0xB0) ∨
      (0xB4 ≤ op.toNat ∧ op.toNat < 0xB8) ∨ 0xBC ≤ op.toNat := by decide

theorem witness_IgnoredIndexPrefix :
    (indexAffected 0x00 = false ∧ isPrefixByte 0x00 = false) ∧ (indexAffected 0xFF = false ∧ isPrefixByte 0xFF = false) ∧
      (indexAffected 0xEB = false ∧ isPrefixByte 0xEB = false) := by decide

/-- DD, DD, ED at PC. -/
def chained : State := start [0xDD, 0xDD, 0xED, 0x44] []

theorem witness_PrefixChainIsOneStep :
    chained.halted = false ∧ chained.readMem chained.pc = XY.byte .ix ∧ chained.readMem (chained.pc + 1) = 0xDD ∧
      ((0xDD : Byte) = 0xDD ∨ (0xDD : Byte) = 0xFD ∨ (0xDD : Byte) = 0xED) := by decide +kernel

theorem witness_LengthRule :
    (∀ b ∈ [(0xDD : Byte), 0xFD], b = 0xDD ∨ b = 0xFD) ∧ (0x21 : Byte) ≠ 0xDD ∧ (0x21 : Byte) ≠ 0xFD ∧
      formOf 0xDD 0xED 0xB0 0 = .alone ∧
      ∀ form ∈ [formOf 0x21 0 0 0, formOf 0xED 0xA3 0 0, formOf 0xDD 0x36 0 0, formOf 0xFD 0xCB 0 0, formOf 0xDD 0x08 0 0],
        form ≠ .alone ∧ form.transfers = false := by decide

theorem witness_DecodeReadsEncode :
    ((Instr.ld_mIXd_n 0x80 0xFF).wellFormed = true ∧ (Instr.ld_mIXd_n 0x80 0xFF).mayPrecede 0xDD = true) ∧
      (Instr.redundant_DD.wellFormed = true ∧ Instr.redundant_DD.mayPrecede 0xDD = true) ∧
      (Instr.ignored_FD_before_ED.wellFormed = true ∧ Instr.ignored_FD_before_ED.mayPrecede 0xED = true) ∧
      ((Instr.retn 7).wellFormed = true ∧ (Instr.retn 7).mayPrecede 0x00 = true) := by decide

/-- The ceiling itself is RAM, the byte below it ROM. -/
theorem witness_MemoryWrite :
    State.reset.params.romCeiling.val ≤ (0x2000 : Word).toNat ∧
      (0x1FFF : Word).toNat < State.reset.params.romCeiling.val := by decide

theorem witness_FlagFrame :
    (formOf 0xED 0x47 0 0).writesF = false ∧ ∃ t, exec (instrOf [0xED, 0x47, 0, 0]) cpu = .next t :=
  ⟨by decide, _, rfl⟩

theorem witness_ControlStateFrame : ∃ t, exec (instrOf [0xED, 0x4F, 0, 0]) cpu = .next t := ⟨_, rfl⟩

theorem witness_DeviceFrame :
    (∃ t, exec (instrOf [0xDB, 0x00, 0, 0]) { cpu with uses8251 := true } = .next t) ∧
      (formOf 0x76 0 0 0).usesPort = false ∧ ∃ t, exec (instrOf [0x76, 0, 0, 0]) cpu = .next t :=
  ⟨⟨_, rfl⟩, by decide, _, rfl⟩

theorem witness_StepRunsTheInstructionAtPc :
    let s := start [0xDD, 0x46, 0x05] []
    let i := instrOf [s.readMem s.pc, s.readMem (s.pc + 1), s.readMem (s.pc + 2), s.readMem (s.pc + 3)]
    s.halted = false ∧ i.isChainByte = false ∧ ∃ t, exec i s = .next t :=
  ⟨rfl, rfl, _, rfl⟩

theorem witness_HaltedStep : ({ cpu with halted := true } : State).halted = true := rfl

theorem witness_EiDelayLastsOneInstruction :
    (let s := start [0xFB] []
     s.halted = false ∧ s.readMem s.pc = 0xFB ∧ s.nmiPending = false ∧ ∃ t, step s = .next t) ∧
      (let s : State := { start [0x00] [] with iffDelay := 1 }
       s.halted = false ∧ s.nextIsChain = false ∧ s.nextIsEi = false ∧ ∃ t, s.instructionStep = .next t) ∧
      (let s := start [0xDD, 0xFB] []
       s.halted = false ∧ s.nextIsEi = true ∧ ∃ t, s.instructionStep = .next t) ∧
      (chained.halted = false ∧ chained.nextIsChain = true) ∧
      (let s : State := { start [0xFB] [] with halted := true, iffDelay := 1 }
       s.halted = true ∧ ∃ t, s.instructionStep = .next t) ∧
      (let s : State := { cpu with iffDelay := 1, intPending := true, iff1 := true }
       s.iffDelay = 1 ∧ s.nmiPending = false) :=
  ⟨⟨rfl, by decide +kernel, rfl, _, rfl⟩, ⟨rfl, rfl, rfl, _, rfl⟩, ⟨rfl, rfl, _, rfl⟩, ⟨rfl, rfl⟩, ⟨rfl, _, rfl⟩, rfl, rfl⟩

theorem witness_NmiAcceptance : ({ cpu with nmiPending := true, iffDelay := 1 } : State).nmiPending = true := rfl

/-- A machine with a maskable request. -/
def requested (im : IntMode) (v : Byte) : State :=
  { cpu with im := im, iff1 := true, iff2 := true, intPending := true, intVector := v }

theorem witness_MaskableAcceptance :
    (∀ s ∈ [requested .im0 0xC7, requested .im0 0xFF, requested .im0 0xC6, requested .im1 0, requested .im2 0xFF],
      s.nmiPending = false ∧ s.intPending = true ∧ s.iff1 = true ∧ s.iffDelay = 0) ∧
      (0xC7 : Byte) &&& 0xC7 = 0xC7 ∧ (0xFF : Byte) &&& 0xC7 = 0xC7 ∧ (0xC6 : Byte) &&& 0xC7 ≠ 0xC7 ∧
      cpu.nmiPending = false ∧ cpu.intPending = false ∧ ({ requested .im1 0 with iff1 := false } : State).iff1 = false ∧
      ({ requested .im1 0 with iffDelay := 1 } : State).iffDelay = 1 := by decide +kernel

theorem witness_RetnUndoesAnNmi :
    let s : State := { pushing with nmiPending := true, iff1 := true, iff2 := true }
    ∃ t u, s.inRom (s.sp - 1) = false ∧ s.inRom (s.sp - 2) = false ∧ s.nmiPending = true ∧
      s.iff2 = s.iff1 ∧ (0 : BitVec 3) ≠ 1 ∧ s.boundary = .next t ∧ exec (instrOf [0xED, opcode 1 0 5]) t = .next u :=
  ⟨_, _, by decide +kernel, by decide +kernel, rfl, rfl, by decide, rfl, rfl⟩

theorem witness_SchedulerAndRequests :
    (let s : State := cpu
     s.uses8251 = false) ∧
      (let s : State := { cpu with uses8251 := true, c7Latch := true }
       s.uses8251 = true ∧ s.iff1 = false) ∧
      (let s : State := { cpu with uses8251 := true, iff1 := true, queue := [0x61] }
       s.uses8251 = true ∧ s.iff1 = true ∧ s.queue ≠ [] ∧ s.iffDelay = 0 ∧ s.c7Latch = false) ∧
      (let s : State := { cpu with uses8251 := true, iff1 := true, queue := [0x61], c7Latch := true }
       s.uses8251 = true ∧ s.iff1 = true ∧ (s.queue = [] ∨ s.iffDelay = 1 ∨ s.c7Latch = true)) := by decide +kernel

theorem witness_UartAndUnownedPorts :
    ((0x10 : Byte) = 0x10 ∨ (0x10 : Byte) = 0x13 ∨ (0x10 : Byte) = 0x14 ∨ (0x10 : Byte) = 0x15) ∧
      ∀ p ∈ [(0x02 : Byte), 0x0F, 0x16, 0x7F, 0x82, 0xFF],
        p ∉ [(0x00 : Byte), 0x01, 0x10, 0x11, 0x12, 0x13, 0x14, 0x15, 0x80, 0x81] := by decide

theorem witness_SdLatchesAndStatus : (0x01 : Byte) ≠ 0 ∧ (0xFF : Byte) ≠ 0 ∧ cpu.params.sd.legal := by decide +kernel

theorem witness_SdFileCommands :
    sdNamed.params.sd.legal ∧ (0x00 : Byte) ∉ sdNamed.params.sd.codes.toList ∧
      (0x09 : Byte) ∉ sdNamed.params.sd.codes.toList ∧ (0x04 : Byte) = sdNamed.params.sd.codes.seekToStart ∧
      (0x08 : Byte) = sdNamed.params.sd.codes.seekToByte ∧ 256 * sdNamed.sd.seekHi.toNat + sdNamed.sd.seekLo.toNat = 0 := by
  decide +kernel

/-- Each clause at the last byte of the file or at its end. -/
theorem witness_SdDataPort :
    let file := fun (opening : Opening) (position : Nat) =>
      ({ handle := handle opening, mode := Opening.mode opening, position := position } : OpenFile)
    let length := (FileStore.bytes sdNamed.files aTxt).length
    ((sdOpen .read 1).sd.file = some (file .read 1) ∧ (file .read 1).mode ≠ .write ∧
      (FileStore.bytes (sdOpen .read 1).files aTxt)[1]? = some 0x69) ∧
    ((sdOpen .read 2).sd.file = some (file .read 2) ∧ length ≤ (file .read 2).position) ∧
    ((sdOpen .append 0).sd.file = some (file .append 0) ∧ (file .append 0).mode = .write) ∧
    (cpu.sd.file = none ∧ cpu.sd.dir = none) ∧
    ((sdOpen .readWrite 1).sd.file = some (file .readWrite 1) ∧ (file .readWrite 1).mode ≠ .read ∧
      (sdOpen .readWrite 1).params.policy.refuses (sdOpen .readWrite 1).files (.writeByte (handle .readWrite) 1 0xFF) = false ∧
      (file .readWrite 1).position < length) ∧
    ((sdOpen .writeTrunc 2).sd.file = some (file .writeTrunc 2) ∧ (file .writeTrunc 2).mode ≠ .read ∧
      (sdOpen .writeTrunc 2).params.policy.refuses (sdOpen .writeTrunc 2).files
        (.writeByte (handle .writeTrunc) 2 0xFF) = false ∧
      (file .writeTrunc 2).position = length) ∧
    ((sdOpen .read 0).sd.file = some (file .read 0) ∧ (file .read 0).mode = .read) := by decide +kernel

theorem witness_SdDirectoryListing :
    sdNamed.params.sd.legal ∧ [(0x46 : Byte)] ≠ [] ∧ aTxt ≠ [] ∧
      (let s : State := { cpu with sd := { Sd.powerOn with dir := some [0x46] } }
       s.sd.file = none ∧ s.sd.dir = some [0x46]) := by decide +kernel

/-- A machine with a file open at its end has the invariant and steps. -/
theorem witness_StepKeepsTheInvariant :
    ({ start [0xD3, 0x12] [] with files := (sdOpen .writeTrunc 2).files, sd := (sdOpen .writeTrunc 2).sd } : State).Inv ∧
      ∃ t, step { start [0xD3, 0x12] [] with files := (sdOpen .writeTrunc 2).files, sd := (sdOpen .writeTrunc 2).sd } = .next t := by
  refine ⟨⟨by decide +kernel, by decide +kernel, by decide +kernel, by decide +kernel, by decide +kernel, .inr rfl, nofun,
    ?_⟩, _, rfl⟩
  rintro _ ⟨⟩
  decide +kernel

/-- A store into the last byte of the ROM. -/
theorem witness_RomNeverChanges :
    let s : State := { start [0x77] [] with params := { (start [0x77] []).params with romCeiling := 0x2000 }
                                            main := { Bank.zero with h := 0x1F, l := 0xFF, a := 0x5A } }
    (∃ t, step s = .next t) ∧ (0x1FFF : Word).toNat < s.params.romCeiling.val :=
  ⟨⟨_, rfl⟩, by decide +kernel⟩

theorem witness_CountersGrow :
    (∃ t, step { cpu with r := 0xFF } = .next t) ∧ (∀ n1 n2, formOf 0xED 0x5F 0 0 ≠ .ed 0x4F n1 n2) ∧
      ∀ n1 n2, formOf 0xDD 0xCB 0x4F 0x4F ≠ .ed 0x4F n1 n2 :=
  ⟨⟨_, rfl⟩, fun _ _ h => absurd (Form.ed.inj h).1 (by decide), nofun⟩

/-! ## Decoding: a word of every constructor -/

noncomputable def wordsMain0 : List (Nat × Nat × Instr) :=
  [(8, 0x00, .nop), (24, 0x013412, (.ld_BC_nn 0x1234)), (8, 0x02, .ld_mBC_A), (8, 0x03, .inc_BC), (8, 0x04, .inc_B),
   (8, 0x05, .dec_B), (16, 0x06A7, (.ld_B_n 0xA7)), (8, 0x07, .rlca), (8, 0x08, .ex_AF_AF), (8, 0x09, .add_HL_BC),
   (8, 0x0A, .ld_A_mBC), (8, 0x0B, .dec_BC), (8, 0x0C, .inc_C), (8, 0x0D, .dec_C), (16, 0x0EA7, (.ld_C_n 0xA7)),
   (8, 0x0F, .rrca), (16, 0x1085, (.djnz_e 0x85)), (24, 0x113412, (.ld_DE_nn 0x1234)), (8, 0x12, .ld_mDE_A),
   (8, 0x13, .inc_DE), (8, 0x14, .inc_D), (8, 0x15, .dec_D), (16, 0x16A7, (.ld_D_n 0xA7)), (8, 0x17, .rla),
   (16, 0x1885, (.jr_e 0x85)), (8, 0x19, .add_HL_DE), (8, 0x1A, .ld_A_mDE), (8, 0x1B, .dec_DE), (8, 0x1C, .inc_E),
   (8, 0x1D, .dec_E), (16, 0x1EA7, (.ld_E_n 0xA7)), (8, 0x1F, .rra), (16, 0x2085, (.jr_NZ_e 0x85)),
   (24, 0x213412, (.ld_HL_nn 0x1234)), (24, 0x223412, (.ld_mnn_HL 0x1234)), (8, 0x23, .inc_HL), (8, 0x24, .inc_H),
   (8, 0x25, .dec_H), (16, 0x26A7, (.ld_H_n 0xA7)), (8, 0x27, .daa), (16, 0x2885, (.jr_Z_e 0x85)),
   (8, 0x29, .add_HL_HL), (24, 0x2A3412, (.ld_HL_mnn 0x1234)), (8, 0x2B, .dec_HL), (8, 0x2C, .inc_L), (8, 0x2D, .dec_L),
   (16, 0x2EA7, (.ld_L_n 0xA7)), (8, 0x2F, .cpl), (16, 0x3085, (.jr_NC_e 0x85)), (24, 0x313412, (.ld_SP_nn 0x1234)),
   (24, 0x323412, (.ld_mnn_A 0x1234)), (8, 0x33, .inc_SP), (8, 0x34, .inc_mHL), (8, 0x35, .dec_mHL),
   (16, 0x36A7, (.ld_mHL_n 0xA7)), (8, 0x37, .scf), (16, 0x3885, (.jr_C_e 0x85)), (8, 0x39, .add_HL_SP),
   (24, 0x3A3412, (.ld_A_mnn 0x1234)), (8, 0x3B, .dec_SP), (8, 0x3C, .inc_A), (8, 0x3D, .dec_A),
   (16, 0x3EA7, (.ld_A_n 0xA7)), (8, 0x3F, .ccf)]

noncomputable def wordsMain1 : List (Nat × Nat × Instr) :=
  [(8, 0x40, .ld_B_B), (8, 0x41, .ld_B_C), (8, 0x42, .ld_B_D), (8, 0x43, .ld_B_E), (8, 0x44, .ld_B_H),
   (8, 0x45, .ld_B_L), (8, 0x46, .ld_B_mHL), (8, 0x47, .ld_B_A), (8, 0x48, .ld_C_B), (8, 0x49, .ld_C_C),
   (8, 0x4A, .ld_C_D), (8, 0x4B, .ld_C_E), (8, 0x4C, .ld_C_H), (8, 0x4D, .ld_C_L), (8, 0x4E, .ld_C_mHL),
   (8, 0x4F, .ld_C_A), (8, 0x50, .ld_D_B), (8, 0x51, .ld_D_C), (8, 0x52, .ld_D_D), (8, 0x53, .ld_D_E),
   (8, 0x54, .ld_D_H), (8, 0x55, .ld_D_L), (8, 0x56, .ld_D_mHL), (8, 0x57, .ld_D_A), (8, 0x58, .ld_E_B),
   (8, 0x59, .ld_E_C), (8, 0x5A, .ld_E_D), (8, 0x5B, .ld_E_E), (8, 0x5C, .ld_E_H), (8, 0x5D, .ld_E_L),
   (8, 0x5E, .ld_E_mHL), (8, 0x5F, .ld_E_A), (8, 0x60, .ld_H_B), (8, 0x61, .ld_H_C), (8, 0x62, .ld_H_D),
   (8, 0x63, .ld_H_E), (8, 0x64, .ld_H_H), (8, 0x65, .ld_H_L), (8, 0x66, .ld_H_mHL), (8, 0x67, .ld_H_A),
   (8, 0x68, .ld_L_B), (8, 0x69, .ld_L_C), (8, 0x6A, .ld_L_D), (8, 0x6B, .ld_L_E), (8, 0x6C, .ld_L_H),
   (8, 0x6D, .ld_L_L), (8, 0x6E, .ld_L_mHL), (8, 0x6F, .ld_L_A), (8, 0x70, .ld_mHL_B), (8, 0x71, .ld_mHL_C),
   (8, 0x72, .ld_mHL_D), (8, 0x73, .ld_mHL_E), (8, 0x74, .ld_mHL_H), (8, 0x75, .ld_mHL_L), (8, 0x76, .halt),
   (8, 0x77, .ld_mHL_A), (8, 0x78, .ld_A_B), (8, 0x79, .ld_A_C), (8, 0x7A, .ld_A_D), (8, 0x7B, .ld_A_E),
   (8, 0x7C, .ld_A_H), (8, 0x7D, .ld_A_L), (8, 0x7E, .ld_A_mHL), (8, 0x7F, .ld_A_A)]

noncomputable def wordsMain2 : List (Nat × Nat × Instr) :=
  [(8, 0x80, .add_A_B), (8, 0x81, .add_A_C), (8, 0x82, .add_A_D), (8, 0x83, .add_A_E), (8, 0x84, .add_A_H),
   (8, 0x85, .add_A_L), (8, 0x86, .add_A_mHL), (8, 0x87, .add_A_A), (8, 0x88, .adc_A_B), (8, 0x89, .adc_A_C),
   (8, 0x8A, .adc_A_D), (8, 0x8B, .adc_A_E), (8, 0x8C, .adc_A_H), (8, 0x8D, .adc_A_L), (8, 0x8E, .adc_A_mHL),
   (8, 0x8F, .adc_A_A), (8, 0x90, .sub_B), (8, 0x91, .sub_C), (8, 0x92, .sub_D), (8, 0x93, .sub_E), (8, 0x94, .sub_H),
   (8, 0x95, .sub_L), (8, 0x96, .sub_mHL), (8, 0x97, .sub_A), (8, 0x98, .sbc_A_B), (8, 0x99, .sbc_A_C),
   (8, 0x9A, .sbc_A_D), (8, 0x9B, .sbc_A_E), (8, 0x9C, .sbc_A_H), (8, 0x9D, .sbc_A_L), (8, 0x9E, .sbc_A_mHL),
   (8, 0x9F, .sbc_A_A), (8, 0xA0, .and_B), (8, 0xA1, .and_C), (8, 0xA2, .and_D), (8, 0xA3, .and_E), (8, 0xA4, .and_H),
   (8, 0xA5, .and_L), (8, 0xA6, .and_mHL), (8, 0xA7, .and_A), (8, 0xA8, .xor_B), (8, 0xA9, .xor_C), (8, 0xAA, .xor_D),
   (8, 0xAB, .xor_E), (8, 0xAC, .xor_H), (8, 0xAD, .xor_L), (8, 0xAE, .xor_mHL), (8, 0xAF, .xor_A), (8, 0xB0, .or_B),
   (8, 0xB1, .or_C), (8, 0xB2, .or_D), (8, 0xB3, .or_E), (8, 0xB4, .or_H), (8, 0xB5, .or_L), (8, 0xB6, .or_mHL),
   (8, 0xB7, .or_A), (8, 0xB8, .cp_B), (8, 0xB9, .cp_C), (8, 0xBA, .cp_D), (8, 0xBB, .cp_E), (8, 0xBC, .cp_H),
   (8, 0xBD, .cp_L), (8, 0xBE, .cp_mHL), (8, 0xBF, .cp_A)]

noncomputable def wordsMain3 : List (Nat × Nat × Instr) :=
  [(8, 0xC0, .ret_NZ), (8, 0xC1, .pop_BC), (24, 0xC23412, (.jp_NZ_nn 0x1234)), (24, 0xC33412, (.jp_nn 0x1234)),
   (24, 0xC43412, (.call_NZ_nn 0x1234)), (8, 0xC5, .push_BC), (16, 0xC6A7, (.add_A_n 0xA7)), (8, 0xC7, .rst_00h),
   (8, 0xC8, .ret_Z), (8, 0xC9, .ret), (24, 0xCA3412, (.jp_Z_nn 0x1234)), (24, 0xCC3412, (.call_Z_nn 0x1234)),
   (24, 0xCD3412, (.call_nn 0x1234)), (16, 0xCEA7, (.adc_A_n 0xA7)), (8, 0xCF, .rst_08h), (8, 0xD0, .ret_NC),
   (8, 0xD1, .pop_DE), (24, 0xD23412, (.jp_NC_nn 0x1234)), (16, 0xD3A7, (.out_mn_A 0xA7)),
   (24, 0xD43412, (.call_NC_nn 0x1234)), (8, 0xD5, .push_DE), (16, 0xD6A7, (.sub_n 0xA7)), (8, 0xD7, .rst_10h),
   (8, 0xD8, .ret_C), (8, 0xD9, .exx), (24, 0xDA3412, (.jp_C_nn 0x1234)), (16, 0xDBA7, (.in_A_mn 0xA7)),
   (24, 0xDC3412, (.call_C_nn 0x1234)), (16, 0xDEA7, (.sbc_A_n 0xA7)), (8, 0xDF, .rst_18h), (8, 0xE0, .ret_PO),
   (8, 0xE1, .pop_HL), (24, 0xE23412, (.jp_PO_nn 0x1234)), (8, 0xE3, .ex_mSP_HL), (24, 0xE43412, (.call_PO_nn 0x1234)),
   (8, 0xE5, .push_HL), (16, 0xE6A7, (.and_n 0xA7)), (8, 0xE7, .rst_20h), (8, 0xE8, .ret_PE), (8, 0xE9, .jp_mHL),
   (24, 0xEA3412, (.jp_PE_nn 0x1234)), (8, 0xEB, .ex_DE_HL), (24, 0xEC3412, (.call_PE_nn 0x1234)),
   (16, 0xEEA7, (.xor_n 0xA7)), (8, 0xEF, .rst_28h), (8, 0xF0, .ret_P), (8, 0xF1, .pop_AF),
   (24, 0xF23412, (.jp_P_nn 0x1234)), (8, 0xF3, .di), (24, 0xF43412, (.call_P_nn 0x1234)), (8, 0xF5, .push_AF),
   (16, 0xF6A7, (.or_n 0xA7)), (8, 0xF7, .rst_30h), (8, 0xF8, .ret_M), (8, 0xF9, .ld_SP_HL),
   (24, 0xFA3412, (.jp_M_nn 0x1234)), (8, 0xFB, .ei), (24, 0xFC3412, (.call_M_nn 0x1234)), (16, 0xFEA7, (.cp_n 0xA7)),
   (8, 0xFF, .rst_38h)]

theorem test_decode_main : reads wordsMain0 ∧ reads wordsMain1 ∧ reads wordsMain2 ∧ reads wordsMain3 :=
  ⟨rfl, rfl, rfl, rfl⟩

noncomputable def wordsCb0 : List (Nat × Nat × Instr) :=
  [(16, 0xCB00, .rlc_B), (16, 0xCB01, .rlc_C), (16, 0xCB02, .rlc_D), (16, 0xCB03, .rlc_E), (16, 0xCB04, .rlc_H),
   (16, 0xCB05, .rlc_L), (16, 0xCB06, .rlc_mHL), (16, 0xCB07, .rlc_A), (16, 0xCB08, .rrc_B), (16, 0xCB09, .rrc_C),
   (16, 0xCB0A, .rrc_D), (16, 0xCB0B, .rrc_E), (16, 0xCB0C, .rrc_H), (16, 0xCB0D, .rrc_L), (16, 0xCB0E, .rrc_mHL),
   (16, 0xCB0F, .rrc_A), (16, 0xCB10, .rl_B), (16, 0xCB11, .rl_C), (16, 0xCB12, .rl_D), (16, 0xCB13, .rl_E),
   (16, 0xCB14, .rl_H), (16, 0xCB15, .rl_L), (16, 0xCB16, .rl_mHL), (16, 0xCB17, .rl_A), (16, 0xCB18, .rr_B),
   (16, 0xCB19, .rr_C), (16, 0xCB1A, .rr_D), (16, 0xCB1B, .rr_E), (16, 0xCB1C, .rr_H), (16, 0xCB1D, .rr_L),
   (16, 0xCB1E, .rr_mHL), (16, 0xCB1F, .rr_A), (16, 0xCB20, .sla_B), (16, 0xCB21, .sla_C), (16, 0xCB22, .sla_D),
   (16, 0xCB23, .sla_E), (16, 0xCB24, .sla_H), (16, 0xCB25, .sla_L), (16, 0xCB26, .sla_mHL), (16, 0xCB27, .sla_A),
   (16, 0xCB28, .sra_B), (16, 0xCB29, .sra_C), (16, 0xCB2A, .sra_D), (16, 0xCB2B, .sra_E), (16, 0xCB2C, .sra_H),
   (16, 0xCB2D, .sra_L), (16, 0xCB2E, .sra_mHL), (16, 0xCB2F, .sra_A), (16, 0xCB30, .sll_B), (16, 0xCB31, .sll_C),
   (16, 0xCB32, .sll_D), (16, 0xCB33, .sll_E), (16, 0xCB34, .sll_H), (16, 0xCB35, .sll_L), (16, 0xCB36, .sll_mHL),
   (16, 0xCB37, .sll_A), (16, 0xCB38, .srl_B), (16, 0xCB39, .srl_C), (16, 0xCB3A, .srl_D), (16, 0xCB3B, .srl_E),
   (16, 0xCB3C, .srl_H), (16, 0xCB3D, .srl_L), (16, 0xCB3E, .srl_mHL), (16, 0xCB3F, .srl_A)]

noncomputable def wordsCb1 : List (Nat × Nat × Instr) :=
  [(16, 0xCB40, .bit_0_B), (16, 0xCB41, .bit_0_C), (16, 0xCB42, .bit_0_D), (16, 0xCB43, .bit_0_E),
   (16, 0xCB44, .bit_0_H), (16, 0xCB45, .bit_0_L), (16, 0xCB46, .bit_0_mHL), (16, 0xCB47, .bit_0_A),
   (16, 0xCB48, .bit_1_B), (16, 0xCB49, .bit_1_C), (16, 0xCB4A, .bit_1_D), (16, 0xCB4B, .bit_1_E),
   (16, 0xCB4C, .bit_1_H), (16, 0xCB4D, .bit_1_L), (16, 0xCB4E, .bit_1_mHL), (16, 0xCB4F, .bit_1_A),
   (16, 0xCB50, .bit_2_B), (16, 0xCB51, .bit_2_C), (16, 0xCB52, .bit_2_D), (16, 0xCB53, .bit_2_E),
   (16, 0xCB54, .bit_2_H), (16, 0xCB55, .bit_2_L), (16, 0xCB56, .bit_2_mHL), (16, 0xCB57, .bit_2_A),
   (16, 0xCB58, .bit_3_B), (16, 0xCB59, .bit_3_C), (16, 0xCB5A, .bit_3_D), (16, 0xCB5B, .bit_3_E),
   (16, 0xCB5C, .bit_3_H), (16, 0xCB5D, .bit_3_L), (16, 0xCB5E, .bit_3_mHL), (16, 0xCB5F, .bit_3_A),
   (16, 0xCB60, .bit_4_B), (16, 0xCB61, .bit_4_C), (16, 0xCB62, .bit_4_D), (16, 0xCB63, .bit_4_E),
   (16, 0xCB64, .bit_4_H), (16, 0xCB65, .bit_4_L), (16, 0xCB66, .bit_4_mHL), (16, 0xCB67, .bit_4_A),
   (16, 0xCB68, .bit_5_B), (16, 0xCB69, .bit_5_C), (16, 0xCB6A, .bit_5_D), (16, 0xCB6B, .bit_5_E),
   (16, 0xCB6C, .bit_5_H), (16, 0xCB6D, .bit_5_L), (16, 0xCB6E, .bit_5_mHL), (16, 0xCB6F, .bit_5_A),
   (16, 0xCB70, .bit_6_B), (16, 0xCB71, .bit_6_C), (16, 0xCB72, .bit_6_D), (16, 0xCB73, .bit_6_E),
   (16, 0xCB74, .bit_6_H), (16, 0xCB75, .bit_6_L), (16, 0xCB76, .bit_6_mHL), (16, 0xCB77, .bit_6_A),
   (16, 0xCB78, .bit_7_B), (16, 0xCB79, .bit_7_C), (16, 0xCB7A, .bit_7_D), (16, 0xCB7B, .bit_7_E),
   (16, 0xCB7C, .bit_7_H), (16, 0xCB7D, .bit_7_L), (16, 0xCB7E, .bit_7_mHL), (16, 0xCB7F, .bit_7_A)]

noncomputable def wordsCb2 : List (Nat × Nat × Instr) :=
  [(16, 0xCB80, .res_0_B), (16, 0xCB81, .res_0_C), (16, 0xCB82, .res_0_D), (16, 0xCB83, .res_0_E),
   (16, 0xCB84, .res_0_H), (16, 0xCB85, .res_0_L), (16, 0xCB86, .res_0_mHL), (16, 0xCB87, .res_0_A),
   (16, 0xCB88, .res_1_B), (16, 0xCB89, .res_1_C), (16, 0xCB8A, .res_1_D), (16, 0xCB8B, .res_1_E),
   (16, 0xCB8C, .res_1_H), (16, 0xCB8D, .res_1_L), (16, 0xCB8E, .res_1_mHL), (16, 0xCB8F, .res_1_A),
   (16, 0xCB90, .res_2_B), (16, 0xCB91, .res_2_C), (16, 0xCB92, .res_2_D), (16, 0xCB93, .res_2_E),
   (16, 0xCB94, .res_2_H), (16, 0xCB95, .res_2_L), (16, 0xCB96, .res_2_mHL), (16, 0xCB97, .res_2_A),
   (16, 0xCB98, .res_3_B), (16, 0xCB99, .res_3_C), (16, 0xCB9A, .res_3_D), (16, 0xCB9B, .res_3_E),
   (16, 0xCB9C, .res_3_H), (16, 0xCB9D, .res_3_L), (16, 0xCB9E, .res_3_mHL), (16, 0xCB9F, .res_3_A),
   (16, 0xCBA0, .res_4_B), (16, 0xCBA1, .res_4_C), (16, 0xCBA2, .res_4_D), (16, 0xCBA3, .res_4_E),
   (16, 0xCBA4, .res_4_H), (16, 0xCBA5, .res_4_L), (16, 0xCBA6, .res_4_mHL), (16, 0xCBA7, .res_4_A),
   (16, 0xCBA8, .res_5_B), (16, 0xCBA9, .res_5_C), (16, 0xCBAA, .res_5_D), (16, 0xCBAB, .res_5_E),
   (16, 0xCBAC, .res_5_H), (16, 0xCBAD, .res_5_L), (16, 0xCBAE, .res_5_mHL), (16, 0xCBAF, .res_5_A),
   (16, 0xCBB0, .res_6_B), (16, 0xCBB1, .res_6_C), (16, 0xCBB2, .res_6_D), (16, 0xCBB3, .res_6_E),
   (16, 0xCBB4, .res_6_H), (16, 0xCBB5, .res_6_L), (16, 0xCBB6, .res_6_mHL), (16, 0xCBB7, .res_6_A),
   (16, 0xCBB8, .res_7_B), (16, 0xCBB9, .res_7_C), (16, 0xCBBA, .res_7_D), (16, 0xCBBB, .res_7_E),
   (16, 0xCBBC, .res_7_H), (16, 0xCBBD, .res_7_L), (16, 0xCBBE, .res_7_mHL), (16, 0xCBBF, .res_7_A)]

noncomputable def wordsCb3 : List (Nat × Nat × Instr) :=
  [(16, 0xCBC0, .set_0_B), (16, 0xCBC1, .set_0_C), (16, 0xCBC2, .set_0_D), (16, 0xCBC3, .set_0_E),
   (16, 0xCBC4, .set_0_H), (16, 0xCBC5, .set_0_L), (16, 0xCBC6, .set_0_mHL), (16, 0xCBC7, .set_0_A),
   (16, 0xCBC8, .set_1_B), (16, 0xCBC9, .set_1_C), (16, 0xCBCA, .set_1_D), (16, 0xCBCB, .set_1_E),
   (16, 0xCBCC, .set_1_H), (16, 0xCBCD, .set_1_L), (16, 0xCBCE, .set_1_mHL), (16, 0xCBCF, .set_1_A),
   (16, 0xCBD0, .set_2_B), (16, 0xCBD1, .set_2_C), (16, 0xCBD2, .set_2_D), (16, 0xCBD3, .set_2_E),
   (16, 0xCBD4, .set_2_H), (16, 0xCBD5, .set_2_L), (16, 0xCBD6, .set_2_mHL), (16, 0xCBD7, .set_2_A),
   (16, 0xCBD8, .set_3_B), (16, 0xCBD9, .set_3_C), (16, 0xCBDA, .set_3_D), (16, 0xCBDB, .set_3_E),
   (16, 0xCBDC, .set_3_H), (16, 0xCBDD, .set_3_L), (16, 0xCBDE, .set_3_mHL), (16, 0xCBDF, .set_3_A),
   (16, 0xCBE0, .set_4_B), (16, 0xCBE1, .set_4_C), (16, 0xCBE2, .set_4_D), (16, 0xCBE3, .set_4_E),
   (16, 0xCBE4, .set_4_H), (16, 0xCBE5, .set_4_L), (16, 0xCBE6, .set_4_mHL), (16, 0xCBE7, .set_4_A),
   (16, 0xCBE8, .set_5_B), (16, 0xCBE9, .set_5_C), (16, 0xCBEA, .set_5_D), (16, 0xCBEB, .set_5_E),
   (16, 0xCBEC, .set_5_H), (16, 0xCBED, .set_5_L), (16, 0xCBEE, .set_5_mHL), (16, 0xCBEF, .set_5_A),
   (16, 0xCBF0, .set_6_B), (16, 0xCBF1, .set_6_C), (16, 0xCBF2, .set_6_D), (16, 0xCBF3, .set_6_E),
   (16, 0xCBF4, .set_6_H), (16, 0xCBF5, .set_6_L), (16, 0xCBF6, .set_6_mHL), (16, 0xCBF7, .set_6_A),
   (16, 0xCBF8, .set_7_B), (16, 0xCBF9, .set_7_C), (16, 0xCBFA, .set_7_D), (16, 0xCBFB, .set_7_E),
   (16, 0xCBFC, .set_7_H), (16, 0xCBFD, .set_7_L), (16, 0xCBFE, .set_7_mHL), (16, 0xCBFF, .set_7_A)]

theorem test_decode_cb : reads wordsCb0 ∧ reads wordsCb1 ∧ reads wordsCb2 ∧ reads wordsCb3 :=
  ⟨rfl, rfl, rfl, rfl⟩

noncomputable def wordsEd0 : List (Nat × Nat × Instr) :=
  [(16, 0xED00, (.ed_nop 0x00)), (16, 0xED40, .in_B_mC), (16, 0xED41, .out_mC_B), (16, 0xED42, .sbc_HL_BC),
   (32, 0xED433412, (.ld_mnn_BC 0x1234)), (16, 0xED44, (.neg 0)), (16, 0xED45, (.retn 0)), (16, 0xED46, (.im_0 false)),
   (16, 0xED47, .ld_I_A), (16, 0xED48, .in_C_mC), (16, 0xED49, .out_mC_C), (16, 0xED4A, .adc_HL_BC),
   (32, 0xED4B3412, (.ld_BC_mnn 0x1234)), (16, 0xED4C, (.neg 1)), (16, 0xED4D, .reti),
   (16, 0xED4E, (.im_0_mirror false)), (16, 0xED4F, .ld_R_A), (16, 0xED50, .in_D_mC), (16, 0xED51, .out_mC_D),
   (16, 0xED52, .sbc_HL_DE), (32, 0xED533412, (.ld_mnn_DE 0x1234)), (16, 0xED54, (.neg 2)), (16, 0xED55, (.retn 2)),
   (16, 0xED56, (.im_1 false)), (16, 0xED57, .ld_A_I), (16, 0xED58, .in_E_mC), (16, 0xED59, .out_mC_E),
   (16, 0xED5A, .adc_HL_DE), (32, 0xED5B3412, (.ld_DE_mnn 0x1234)), (16, 0xED5C, (.neg 3)), (16, 0xED5D, (.retn 3)),
   (16, 0xED5E, (.im_2 false)), (16, 0xED5F, .ld_A_R), (16, 0xED60, .in_H_mC), (16, 0xED61, .out_mC_H),
   (16, 0xED62, .sbc_HL_HL), (32, 0xED633412, (.ld_mnn_HL_ed 0x1234)), (16, 0xED64, (.neg 4)), (16, 0xED65, (.retn 4)),
   (16, 0xED66, (.im_0 true)), (16, 0xED67, .rrd), (16, 0xED68, .in_L_mC), (16, 0xED69, .out_mC_L),
   (16, 0xED6A, .adc_HL_HL), (32, 0xED6B3412, (.ld_HL_mnn_ed 0x1234)), (16, 0xED6C, (.neg 5)), (16, 0xED6D, (.retn 5)),
   (16, 0xED6E, (.im_0_mirror true)), (16, 0xED6F, .rld), (16, 0xED70, .in_mC), (16, 0xED71, .out_mC_0),
   (16, 0xED72, .sbc_HL_SP), (32, 0xED733412, (.ld_mnn_SP 0x1234)), (16, 0xED74, (.neg 6)), (16, 0xED75, (.retn 6)),
   (16, 0xED76, (.im_1 true)), (16, 0xED78, .in_A_mC), (16, 0xED79, .out_mC_A), (16, 0xED7A, .adc_HL_SP),
   (32, 0xED7B3412, (.ld_SP_mnn 0x1234)), (16, 0xED7C, (.neg 7)), (16, 0xED7D, (.retn 7)), (16, 0xED7E, (.im_2 true)),
   (16, 0xEDA0, .ldi)]

noncomputable def wordsEd1 : List (Nat × Nat × Instr) :=
  [(16, 0xEDA1, .cpi), (16, 0xEDA2, .ini), (16, 0xEDA3, .outi), (16, 0xEDA8, .ldd), (16, 0xEDA9, .cpd),
   (16, 0xEDAA, .ind), (16, 0xEDAB, .outd), (16, 0xEDB0, .ldir), (16, 0xEDB1, .cpir), (16, 0xEDB2, .inir),
   (16, 0xEDB3, .otir), (16, 0xEDB8, .lddr), (16, 0xEDB9, .cpdr), (16, 0xEDBA, .indr), (16, 0xEDBB, .otdr)]

theorem test_decode_ed : reads wordsEd0 ∧ reads wordsEd1 :=
  ⟨rfl, rfl⟩

noncomputable def wordsDdIgnored0 : List (Nat × Nat × Instr) :=
  [(16, 0xDD00, .dd_nop), (32, 0xDD013412, (.dd_ld_BC_nn 0x1234)), (16, 0xDD02, .dd_ld_mBC_A), (16, 0xDD03, .dd_inc_BC),
   (16, 0xDD04, .dd_inc_B), (16, 0xDD05, .dd_dec_B), (24, 0xDD06A7, (.dd_ld_B_n 0xA7)), (16, 0xDD07, .dd_rlca),
   (16, 0xDD08, .dd_ex_AF_AF), (16, 0xDD0A, .dd_ld_A_mBC), (16, 0xDD0B, .dd_dec_BC), (16, 0xDD0C, .dd_inc_C),
   (16, 0xDD0D, .dd_dec_C), (24, 0xDD0EA7, (.dd_ld_C_n 0xA7)), (16, 0xDD0F, .dd_rrca),
   (24, 0xDD1085, (.dd_djnz_e 0x85)), (32, 0xDD113412, (.dd_ld_DE_nn 0x1234)), (16, 0xDD12, .dd_ld_mDE_A),
   (16, 0xDD13, .dd_inc_DE), (16, 0xDD14, .dd_inc_D), (16, 0xDD15, .dd_dec_D), (24, 0xDD16A7, (.dd_ld_D_n 0xA7)),
   (16, 0xDD17, .dd_rla), (24, 0xDD1885, (.dd_jr_e 0x85)), (16, 0xDD1A, .dd_ld_A_mDE), (16, 0xDD1B, .dd_dec_DE),
   (16, 0xDD1C, .dd_inc_E), (16, 0xDD1D, .dd_dec_E), (24, 0xDD1EA7, (.dd_ld_E_n 0xA7)), (16, 0xDD1F, .dd_rra),
   (24, 0xDD2085, (.dd_jr_NZ_e 0x85)), (16, 0xDD27, .dd_daa), (24, 0xDD2885, (.dd_jr_Z_e 0x85)), (16, 0xDD2F, .dd_cpl),
   (24, 0xDD3085, (.dd_jr_NC_e 0x85)), (32, 0xDD313412, (.dd_ld_SP_nn 0x1234)), (32, 0xDD323412, (.dd_ld_mnn_A 0x1234)),
   (16, 0xDD33, .dd_inc_SP), (16, 0xDD37, .dd_scf), (24, 0xDD3885, (.dd_jr_C_e 0x85)),
   (32, 0xDD3A3412, (.dd_ld_A_mnn 0x1234)), (16, 0xDD3B, .dd_dec_SP), (16, 0xDD3C, .dd_inc_A), (16, 0xDD3D, .dd_dec_A),
   (24, 0xDD3EA7, (.dd_ld_A_n 0xA7)), (16, 0xDD3F, .dd_ccf), (16, 0xDD40, .dd_ld_B_B), (16, 0xDD41, .dd_ld_B_C),
   (16, 0xDD42, .dd_ld_B_D), (16, 0xDD43, .dd_ld_B_E), (16, 0xDD47, .dd_ld_B_A), (16, 0xDD48, .dd_ld_C_B),
   (16, 0xDD49, .dd_ld_C_C), (16, 0xDD4A, .dd_ld_C_D), (16, 0xDD4B, .dd_ld_C_E), (16, 0xDD4F, .dd_ld_C_A),
   (16, 0xDD50, .dd_ld_D_B), (16, 0xDD51, .dd_ld_D_C), (16, 0xDD52, .dd_ld_D_D), (16, 0xDD53, .dd_ld_D_E),
   (16, 0xDD57, .dd_ld_D_A), (16, 0xDD58, .dd_ld_E_B), (16, 0xDD59, .dd_ld_E_C), (16, 0xDD5A, .dd_ld_E_D)]

noncomputable def wordsDdIgnored1 : List (Nat × Nat × Instr) :=
  [(16, 0xDD5B, .dd_ld_E_E), (16, 0xDD5F, .dd_ld_E_A), (16, 0xDD76, .dd_halt), (16, 0xDD78, .dd_ld_A_B),
   (16, 0xDD79, .dd_ld_A_C), (16, 0xDD7A, .dd_ld_A_D), (16, 0xDD7B, .dd_ld_A_E), (16, 0xDD7F, .dd_ld_A_A),
   (16, 0xDD80, .dd_add_A_B), (16, 0xDD81, .dd_add_A_C), (16, 0xDD82, .dd_add_A_D), (16, 0xDD83, .dd_add_A_E),
   (16, 0xDD87, .dd_add_A_A), (16, 0xDD88, .dd_adc_A_B), (16, 0xDD89, .dd_adc_A_C), (16, 0xDD8A, .dd_adc_A_D),
   (16, 0xDD8B, .dd_adc_A_E), (16, 0xDD8F, .dd_adc_A_A), (16, 0xDD90, .dd_sub_B), (16, 0xDD91, .dd_sub_C),
   (16, 0xDD92, .dd_sub_D), (16, 0xDD93, .dd_sub_E), (16, 0xDD97, .dd_sub_A), (16, 0xDD98, .dd_sbc_A_B),
   (16, 0xDD99, .dd_sbc_A_C), (16, 0xDD9A, .dd_sbc_A_D), (16, 0xDD9B, .dd_sbc_A_E), (16, 0xDD9F, .dd_sbc_A_A),
   (16, 0xDDA0, .dd_and_B), (16, 0xDDA1, .dd_and_C), (16, 0xDDA2, .dd_and_D), (16, 0xDDA3, .dd_and_E),
   (16, 0xDDA7, .dd_and_A), (16, 0xDDA8, .dd_xor_B), (16, 0xDDA9, .dd_xor_C), (16, 0xDDAA, .dd_xor_D),
   (16, 0xDDAB, .dd_xor_E), (16, 0xDDAF, .dd_xor_A), (16, 0xDDB0, .dd_or_B), (16, 0xDDB1, .dd_or_C),
   (16, 0xDDB2, .dd_or_D), (16, 0xDDB3, .dd_or_E), (16, 0xDDB7, .dd_or_A), (16, 0xDDB8, .dd_cp_B),
   (16, 0xDDB9, .dd_cp_C), (16, 0xDDBA, .dd_cp_D), (16, 0xDDBB, .dd_cp_E), (16, 0xDDBF, .dd_cp_A),
   (16, 0xDDC0, .dd_ret_NZ), (16, 0xDDC1, .dd_pop_BC), (32, 0xDDC23412, (.dd_jp_NZ_nn 0x1234)),
   (32, 0xDDC33412, (.dd_jp_nn 0x1234)), (32, 0xDDC43412, (.dd_call_NZ_nn 0x1234)), (16, 0xDDC5, .dd_push_BC),
   (24, 0xDDC6A7, (.dd_add_A_n 0xA7)), (16, 0xDDC7, .dd_rst_00h), (16, 0xDDC8, .dd_ret_Z), (16, 0xDDC9, .dd_ret),
   (32, 0xDDCA3412, (.dd_jp_Z_nn 0x1234)), (32, 0xDDCC3412, (.dd_call_Z_nn 0x1234)),
   (32, 0xDDCD3412, (.dd_call_nn 0x1234)), (24, 0xDDCEA7, (.dd_adc_A_n 0xA7)), (16, 0xDDCF, .dd_rst_08h),
   (16, 0xDDD0, .dd_ret_NC)]

noncomputable def wordsDdIgnored2 : List (Nat × Nat × Instr) :=
  [(16, 0xDDD1, .dd_pop_DE), (32, 0xDDD23412, (.dd_jp_NC_nn 0x1234)), (24, 0xDDD3A7, (.dd_out_mn_A 0xA7)),
   (32, 0xDDD43412, (.dd_call_NC_nn 0x1234)), (16, 0xDDD5, .dd_push_DE), (24, 0xDDD6A7, (.dd_sub_n 0xA7)),
   (16, 0xDDD7, .dd_rst_10h), (16, 0xDDD8, .dd_ret_C), (16, 0xDDD9, .dd_exx), (32, 0xDDDA3412, (.dd_jp_C_nn 0x1234)),
   (24, 0xDDDBA7, (.dd_in_A_mn 0xA7)), (32, 0xDDDC3412, (.dd_call_C_nn 0x1234)), (24, 0xDDDEA7, (.dd_sbc_A_n 0xA7)),
   (16, 0xDDDF, .dd_rst_18h), (16, 0xDDE0, .dd_ret_PO), (32, 0xDDE23412, (.dd_jp_PO_nn 0x1234)),
   (32, 0xDDE43412, (.dd_call_PO_nn 0x1234)), (24, 0xDDE6A7, (.dd_and_n 0xA7)), (16, 0xDDE7, .dd_rst_20h),
   (16, 0xDDE8, .dd_ret_PE), (32, 0xDDEA3412, (.dd_jp_PE_nn 0x1234)), (16, 0xDDEB, .dd_ex_DE_HL),
   (32, 0xDDEC3412, (.dd_call_PE_nn 0x1234)), (24, 0xDDEEA7, (.dd_xor_n 0xA7)), (16, 0xDDEF, .dd_rst_28h),
   (16, 0xDDF0, .dd_ret_P), (16, 0xDDF1, .dd_pop_AF), (32, 0xDDF23412, (.dd_jp_P_nn 0x1234)), (16, 0xDDF3, .dd_di),
   (32, 0xDDF43412, (.dd_call_P_nn 0x1234)), (16, 0xDDF5, .dd_push_AF), (24, 0xDDF6A7, (.dd_or_n 0xA7)),
   (16, 0xDDF7, .dd_rst_30h), (16, 0xDDF8, .dd_ret_M), (32, 0xDDFA3412, (.dd_jp_M_nn 0x1234)), (16, 0xDDFB, .dd_ei),
   (32, 0xDDFC3412, (.dd_call_M_nn 0x1234)), (24, 0xDDFEA7, (.dd_cp_n 0xA7)), (16, 0xDDFF, .dd_rst_38h)]

theorem test_decode_dd_ignored : reads wordsDdIgnored0 ∧ reads wordsDdIgnored1 ∧ reads wordsDdIgnored2 :=
  ⟨rfl, rfl, rfl⟩

noncomputable def wordsDd0 : List (Nat × Nat × Instr) :=
  [(16, 0xDD09, .add_IX_BC), (16, 0xDD19, .add_IX_DE), (32, 0xDD213412, (.ld_IX_nn 0x1234)),
   (32, 0xDD223412, (.ld_mnn_IX 0x1234)), (16, 0xDD23, .inc_IX), (16, 0xDD24, .inc_IXH), (16, 0xDD25, .dec_IXH),
   (24, 0xDD26A7, (.ld_IXH_n 0xA7)), (16, 0xDD29, .add_IX_IX), (32, 0xDD2A3412, (.ld_IX_mnn 0x1234)),
   (16, 0xDD2B, .dec_IX), (16, 0xDD2C, .inc_IXL), (16, 0xDD2D, .dec_IXL), (24, 0xDD2EA7, (.ld_IXL_n 0xA7)),
   (24, 0xDD34FE, (.inc_mIXd 0xFE)), (24, 0xDD35FE, (.dec_mIXd 0xFE)), (32, 0xDD36FEA7, (.ld_mIXd_n 0xFE 0xA7)),
   (16, 0xDD39, .add_IX_SP), (16, 0xDD44, .ld_B_IXH), (16, 0xDD45, .ld_B_IXL), (24, 0xDD46FE, (.ld_B_mIXd 0xFE)),
   (16, 0xDD4C, .ld_C_IXH), (16, 0xDD4D, .ld_C_IXL), (24, 0xDD4EFE, (.ld_C_mIXd 0xFE)), (16, 0xDD54, .ld_D_IXH),
   (16, 0xDD55, .ld_D_IXL), (24, 0xDD56FE, (.ld_D_mIXd 0xFE)), (16, 0xDD5C, .ld_E_IXH), (16, 0xDD5D, .ld_E_IXL),
   (24, 0xDD5EFE, (.ld_E_mIXd 0xFE)), (16, 0xDD60, .ld_IXH_B), (16, 0xDD61, .ld_IXH_C), (16, 0xDD62, .ld_IXH_D),
   (16, 0xDD63, .ld_IXH_E), (16, 0xDD64, .ld_IXH_IXH), (16, 0xDD65, .ld_IXH_IXL), (24, 0xDD66FE, (.ld_H_mIXd 0xFE)),
   (16, 0xDD67, .ld_IXH_A), (16, 0xDD68, .ld_IXL_B), (16, 0xDD69, .ld_IXL_C), (16, 0xDD6A, .ld_IXL_D),
   (16, 0xDD6B, .ld_IXL_E), (16, 0xDD6C, .ld_IXL_IXH), (16, 0xDD6D, .ld_IXL_IXL), (24, 0xDD6EFE, (.ld_L_mIXd 0xFE)),
   (16, 0xDD6F, .ld_IXL_A), (24, 0xDD70FE, (.ld_mIXd_B 0xFE)), (24, 0xDD71FE, (.ld_mIXd_C 0xFE)),
   (24, 0xDD72FE, (.ld_mIXd_D 0xFE)), (24, 0xDD73FE, (.ld_mIXd_E 0xFE)), (24, 0xDD74FE, (.ld_mIXd_H 0xFE)),
   (24, 0xDD75FE, (.ld_mIXd_L 0xFE)), (24, 0xDD77FE, (.ld_mIXd_A 0xFE)), (16, 0xDD7C, .ld_A_IXH),
   (16, 0xDD7D, .ld_A_IXL), (24, 0xDD7EFE, (.ld_A_mIXd 0xFE)), (16, 0xDD84, .add_A_IXH), (16, 0xDD85, .add_A_IXL),
   (24, 0xDD86FE, (.add_A_mIXd 0xFE)), (16, 0xDD8C, .adc_A_IXH), (16, 0xDD8D, .adc_A_IXL),
   (24, 0xDD8EFE, (.adc_A_mIXd 0xFE)), (16, 0xDD94, .sub_IXH), (16, 0xDD95, .sub_IXL)]

noncomputable def wordsDd1 : List (Nat × Nat × Instr) :=
  [(24, 0xDD96FE, (.sub_mIXd 0xFE)), (16, 0xDD9C, .sbc_A_IXH), (16, 0xDD9D, .sbc_A_IXL),
   (24, 0xDD9EFE, (.sbc_A_mIXd 0xFE)), (16, 0xDDA4, .and_IXH), (16, 0xDDA5, .and_IXL), (24, 0xDDA6FE, (.and_mIXd 0xFE)),
   (16, 0xDDAC, .xor_IXH), (16, 0xDDAD, .xor_IXL), (24, 0xDDAEFE, (.xor_mIXd 0xFE)), (16, 0xDDB4, .or_IXH),
   (16, 0xDDB5, .or_IXL), (24, 0xDDB6FE, (.or_mIXd 0xFE)), (16, 0xDDBC, .cp_IXH), (16, 0xDDBD, .cp_IXL),
   (24, 0xDDBEFE, (.cp_mIXd 0xFE)), (16, 0xDDE1, .pop_IX), (16, 0xDDE3, .ex_mSP_IX), (16, 0xDDE5, .push_IX),
   (16, 0xDDE9, .jp_mIX), (16, 0xDDF9, .ld_SP_IX)]

theorem test_decode_dd : reads wordsDd0 ∧ reads wordsDd1 :=
  ⟨rfl, rfl⟩

noncomputable def wordsDdcb0 : List (Nat × Nat × Instr) :=
  [(32, 0xDDCBFE00, (.rlc_mIXd_B 0xFE)), (32, 0xDDCBFE01, (.rlc_mIXd_C 0xFE)), (32, 0xDDCBFE02, (.rlc_mIXd_D 0xFE)),
   (32, 0xDDCBFE03, (.rlc_mIXd_E 0xFE)), (32, 0xDDCBFE04, (.rlc_mIXd_H 0xFE)), (32, 0xDDCBFE05, (.rlc_mIXd_L 0xFE)),
   (32, 0xDDCBFE06, (.rlc_mIXd 0xFE)), (32, 0xDDCBFE07, (.rlc_mIXd_A 0xFE)), (32, 0xDDCBFE08, (.rrc_mIXd_B 0xFE)),
   (32, 0xDDCBFE09, (.rrc_mIXd_C 0xFE)), (32, 0xDDCBFE0A, (.rrc_mIXd_D 0xFE)), (32, 0xDDCBFE0B, (.rrc_mIXd_E 0xFE)),
   (32, 0xDDCBFE0C, (.rrc_mIXd_H 0xFE)), (32, 0xDDCBFE0D, (.rrc_mIXd_L 0xFE)), (32, 0xDDCBFE0E, (.rrc_mIXd 0xFE)),
   (32, 0xDDCBFE0F, (.rrc_mIXd_A 0xFE)), (32, 0xDDCBFE10, (.rl_mIXd_B 0xFE)), (32, 0xDDCBFE11, (.rl_mIXd_C 0xFE)),
   (32, 0xDDCBFE12, (.rl_mIXd_D 0xFE)), (32, 0xDDCBFE13, (.rl_mIXd_E 0xFE)), (32, 0xDDCBFE14, (.rl_mIXd_H 0xFE)),
   (32, 0xDDCBFE15, (.rl_mIXd_L 0xFE)), (32, 0xDDCBFE16, (.rl_mIXd 0xFE)), (32, 0xDDCBFE17, (.rl_mIXd_A 0xFE)),
   (32, 0xDDCBFE18, (.rr_mIXd_B 0xFE)), (32, 0xDDCBFE19, (.rr_mIXd_C 0xFE)), (32, 0xDDCBFE1A, (.rr_mIXd_D 0xFE)),
   (32, 0xDDCBFE1B, (.rr_mIXd_E 0xFE)), (32, 0xDDCBFE1C, (.rr_mIXd_H 0xFE)), (32, 0xDDCBFE1D, (.rr_mIXd_L 0xFE)),
   (32, 0xDDCBFE1E, (.rr_mIXd 0xFE)), (32, 0xDDCBFE1F, (.rr_mIXd_A 0xFE)), (32, 0xDDCBFE20, (.sla_mIXd_B 0xFE)),
   (32, 0xDDCBFE21, (.sla_mIXd_C 0xFE)), (32, 0xDDCBFE22, (.sla_mIXd_D 0xFE)), (32, 0xDDCBFE23, (.sla_mIXd_E 0xFE)),
   (32, 0xDDCBFE24, (.sla_mIXd_H 0xFE)), (32, 0xDDCBFE25, (.sla_mIXd_L 0xFE)), (32, 0xDDCBFE26, (.sla_mIXd 0xFE)),
   (32, 0xDDCBFE27, (.sla_mIXd_A 0xFE)), (32, 0xDDCBFE28, (.sra_mIXd_B 0xFE)), (32, 0xDDCBFE29, (.sra_mIXd_C 0xFE)),
   (32, 0xDDCBFE2A, (.sra_mIXd_D 0xFE)), (32, 0xDDCBFE2B, (.sra_mIXd_E 0xFE)), (32, 0xDDCBFE2C, (.sra_mIXd_H 0xFE)),
   (32, 0xDDCBFE2D, (.sra_mIXd_L 0xFE)), (32, 0xDDCBFE2E, (.sra_mIXd 0xFE)), (32, 0xDDCBFE2F, (.sra_mIXd_A 0xFE)),
   (32, 0xDDCBFE30, (.sll_mIXd_B 0xFE)), (32, 0xDDCBFE31, (.sll_mIXd_C 0xFE)), (32, 0xDDCBFE32, (.sll_mIXd_D 0xFE)),
   (32, 0xDDCBFE33, (.sll_mIXd_E 0xFE)), (32, 0xDDCBFE34, (.sll_mIXd_H 0xFE)), (32, 0xDDCBFE35, (.sll_mIXd_L 0xFE)),
   (32, 0xDDCBFE36, (.sll_mIXd 0xFE)), (32, 0xDDCBFE37, (.sll_mIXd_A 0xFE)), (32, 0xDDCBFE38, (.srl_mIXd_B 0xFE)),
   (32, 0xDDCBFE39, (.srl_mIXd_C 0xFE)), (32, 0xDDCBFE3A, (.srl_mIXd_D 0xFE)), (32, 0xDDCBFE3B, (.srl_mIXd_E 0xFE)),
   (32, 0xDDCBFE3C, (.srl_mIXd_H 0xFE)), (32, 0xDDCBFE3D, (.srl_mIXd_L 0xFE)), (32, 0xDDCBFE3E, (.srl_mIXd 0xFE)),
   (32, 0xDDCBFE3F, (.srl_mIXd_A 0xFE))]

noncomputable def wordsDdcb1 : List (Nat × Nat × Instr) :=
  [(32, 0xDDCBFE40, (.bit_0_mIXd 0 0xFE)), (32, 0xDDCBFE48, (.bit_1_mIXd 0 0xFE)),
   (32, 0xDDCBFE50, (.bit_2_mIXd 0 0xFE)), (32, 0xDDCBFE58, (.bit_3_mIXd 0 0xFE)),
   (32, 0xDDCBFE60, (.bit_4_mIXd 0 0xFE)), (32, 0xDDCBFE68, (.bit_5_mIXd 0 0xFE)),
   (32, 0xDDCBFE70, (.bit_6_mIXd 0 0xFE)), (32, 0xDDCBFE78, (.bit_7_mIXd 0 0xFE)),
   (32, 0xDDCBFE80, (.res_0_mIXd_B 0xFE)), (32, 0xDDCBFE81, (.res_0_mIXd_C 0xFE)),
   (32, 0xDDCBFE82, (.res_0_mIXd_D 0xFE)), (32, 0xDDCBFE83, (.res_0_mIXd_E 0xFE)),
   (32, 0xDDCBFE84, (.res_0_mIXd_H 0xFE)), (32, 0xDDCBFE85, (.res_0_mIXd_L 0xFE)), (32, 0xDDCBFE86, (.res_0_mIXd 0xFE)),
   (32, 0xDDCBFE87, (.res_0_mIXd_A 0xFE)), (32, 0xDDCBFE88, (.res_1_mIXd_B 0xFE)),
   (32, 0xDDCBFE89, (.res_1_mIXd_C 0xFE)), (32, 0xDDCBFE8A, (.res_1_mIXd_D 0xFE)),
   (32, 0xDDCBFE8B, (.res_1_mIXd_E 0xFE)), (32, 0xDDCBFE8C, (.res_1_mIXd_H 0xFE)),
   (32, 0xDDCBFE8D, (.res_1_mIXd_L 0xFE)), (32, 0xDDCBFE8E, (.res_1_mIXd 0xFE)), (32, 0xDDCBFE8F, (.res_1_mIXd_A 0xFE)),
   (32, 0xDDCBFE90, (.res_2_mIXd_B 0xFE)), (32, 0xDDCBFE91, (.res_2_mIXd_C 0xFE)),
   (32, 0xDDCBFE92, (.res_2_mIXd_D 0xFE)), (32, 0xDDCBFE93, (.res_2_mIXd_E 0xFE)),
   (32, 0xDDCBFE94, (.res_2_mIXd_H 0xFE)), (32, 0xDDCBFE95, (.res_2_mIXd_L 0xFE)), (32, 0xDDCBFE96, (.res_2_mIXd 0xFE)),
   (32, 0xDDCBFE97, (.res_2_mIXd_A 0xFE)), (32, 0xDDCBFE98, (.res_3_mIXd_B 0xFE)),
   (32, 0xDDCBFE99, (.res_3_mIXd_C 0xFE)), (32, 0xDDCBFE9A, (.res_3_mIXd_D 0xFE)),
   (32, 0xDDCBFE9B, (.res_3_mIXd_E 0xFE)), (32, 0xDDCBFE9C, (.res_3_mIXd_H 0xFE)),
   (32, 0xDDCBFE9D, (.res_3_mIXd_L 0xFE)), (32, 0xDDCBFE9E, (.res_3_mIXd 0xFE)), (32, 0xDDCBFE9F, (.res_3_mIXd_A 0xFE)),
   (32, 0xDDCBFEA0, (.res_4_mIXd_B 0xFE)), (32, 0xDDCBFEA1, (.res_4_mIXd_C 0xFE)),
   (32, 0xDDCBFEA2, (.res_4_mIXd_D 0xFE)), (32, 0xDDCBFEA3, (.res_4_mIXd_E 0xFE)),
   (32, 0xDDCBFEA4, (.res_4_mIXd_H 0xFE)), (32, 0xDDCBFEA5, (.res_4_mIXd_L 0xFE)), (32, 0xDDCBFEA6, (.res_4_mIXd 0xFE)),
   (32, 0xDDCBFEA7, (.res_4_mIXd_A 0xFE)), (32, 0xDDCBFEA8, (.res_5_mIXd_B 0xFE)),
   (32, 0xDDCBFEA9, (.res_5_mIXd_C 0xFE)), (32, 0xDDCBFEAA, (.res_5_mIXd_D 0xFE)),
   (32, 0xDDCBFEAB, (.res_5_mIXd_E 0xFE)), (32, 0xDDCBFEAC, (.res_5_mIXd_H 0xFE)),
   (32, 0xDDCBFEAD, (.res_5_mIXd_L 0xFE)), (32, 0xDDCBFEAE, (.res_5_mIXd 0xFE)), (32, 0xDDCBFEAF, (.res_5_mIXd_A 0xFE)),
   (32, 0xDDCBFEB0, (.res_6_mIXd_B 0xFE)), (32, 0xDDCBFEB1, (.res_6_mIXd_C 0xFE)),
   (32, 0xDDCBFEB2, (.res_6_mIXd_D 0xFE)), (32, 0xDDCBFEB3, (.res_6_mIXd_E 0xFE)),
   (32, 0xDDCBFEB4, (.res_6_mIXd_H 0xFE)), (32, 0xDDCBFEB5, (.res_6_mIXd_L 0xFE)), (32, 0xDDCBFEB6, (.res_6_mIXd 0xFE)),
   (32, 0xDDCBFEB7, (.res_6_mIXd_A 0xFE))]

noncomputable def wordsDdcb2 : List (Nat × Nat × Instr) :=
  [(32, 0xDDCBFEB8, (.res_7_mIXd_B 0xFE)), (32, 0xDDCBFEB9, (.res_7_mIXd_C 0xFE)),
   (32, 0xDDCBFEBA, (.res_7_mIXd_D 0xFE)), (32, 0xDDCBFEBB, (.res_7_mIXd_E 0xFE)),
   (32, 0xDDCBFEBC, (.res_7_mIXd_H 0xFE)), (32, 0xDDCBFEBD, (.res_7_mIXd_L 0xFE)), (32, 0xDDCBFEBE, (.res_7_mIXd 0xFE)),
   (32, 0xDDCBFEBF, (.res_7_mIXd_A 0xFE)), (32, 0xDDCBFEC0, (.set_0_mIXd_B 0xFE)),
   (32, 0xDDCBFEC1, (.set_0_mIXd_C 0xFE)), (32, 0xDDCBFEC2, (.set_0_mIXd_D 0xFE)),
   (32, 0xDDCBFEC3, (.set_0_mIXd_E 0xFE)), (32, 0xDDCBFEC4, (.set_0_mIXd_H 0xFE)),
   (32, 0xDDCBFEC5, (.set_0_mIXd_L 0xFE)), (32, 0xDDCBFEC6, (.set_0_mIXd 0xFE)), (32, 0xDDCBFEC7, (.set_0_mIXd_A 0xFE)),
   (32, 0xDDCBFEC8, (.set_1_mIXd_B 0xFE)), (32, 0xDDCBFEC9, (.set_1_mIXd_C 0xFE)),
   (32, 0xDDCBFECA, (.set_1_mIXd_D 0xFE)), (32, 0xDDCBFECB, (.set_1_mIXd_E 0xFE)),
   (32, 0xDDCBFECC, (.set_1_mIXd_H 0xFE)), (32, 0xDDCBFECD, (.set_1_mIXd_L 0xFE)), (32, 0xDDCBFECE, (.set_1_mIXd 0xFE)),
   (32, 0xDDCBFECF, (.set_1_mIXd_A 0xFE)), (32, 0xDDCBFED0, (.set_2_mIXd_B 0xFE)),
   (32, 0xDDCBFED1, (.set_2_mIXd_C 0xFE)), (32, 0xDDCBFED2, (.set_2_mIXd_D 0xFE)),
   (32, 0xDDCBFED3, (.set_2_mIXd_E 0xFE)), (32, 0xDDCBFED4, (.set_2_mIXd_H 0xFE)),
   (32, 0xDDCBFED5, (.set_2_mIXd_L 0xFE)), (32, 0xDDCBFED6, (.set_2_mIXd 0xFE)), (32, 0xDDCBFED7, (.set_2_mIXd_A 0xFE)),
   (32, 0xDDCBFED8, (.set_3_mIXd_B 0xFE)), (32, 0xDDCBFED9, (.set_3_mIXd_C 0xFE)),
   (32, 0xDDCBFEDA, (.set_3_mIXd_D 0xFE)), (32, 0xDDCBFEDB, (.set_3_mIXd_E 0xFE)),
   (32, 0xDDCBFEDC, (.set_3_mIXd_H 0xFE)), (32, 0xDDCBFEDD, (.set_3_mIXd_L 0xFE)), (32, 0xDDCBFEDE, (.set_3_mIXd 0xFE)),
   (32, 0xDDCBFEDF, (.set_3_mIXd_A 0xFE)), (32, 0xDDCBFEE0, (.set_4_mIXd_B 0xFE)),
   (32, 0xDDCBFEE1, (.set_4_mIXd_C 0xFE)), (32, 0xDDCBFEE2, (.set_4_mIXd_D 0xFE)),
   (32, 0xDDCBFEE3, (.set_4_mIXd_E 0xFE)), (32, 0xDDCBFEE4, (.set_4_mIXd_H 0xFE)),
   (32, 0xDDCBFEE5, (.set_4_mIXd_L 0xFE)), (32, 0xDDCBFEE6, (.set_4_mIXd 0xFE)), (32, 0xDDCBFEE7, (.set_4_mIXd_A 0xFE)),
   (32, 0xDDCBFEE8, (.set_5_mIXd_B 0xFE)), (32, 0xDDCBFEE9, (.set_5_mIXd_C 0xFE)),
   (32, 0xDDCBFEEA, (.set_5_mIXd_D 0xFE)), (32, 0xDDCBFEEB, (.set_5_mIXd_E 0xFE)),
   (32, 0xDDCBFEEC, (.set_5_mIXd_H 0xFE)), (32, 0xDDCBFEED, (.set_5_mIXd_L 0xFE)), (32, 0xDDCBFEEE, (.set_5_mIXd 0xFE)),
   (32, 0xDDCBFEEF, (.set_5_mIXd_A 0xFE)), (32, 0xDDCBFEF0, (.set_6_mIXd_B 0xFE)),
   (32, 0xDDCBFEF1, (.set_6_mIXd_C 0xFE)), (32, 0xDDCBFEF2, (.set_6_mIXd_D 0xFE)),
   (32, 0xDDCBFEF3, (.set_6_mIXd_E 0xFE)), (32, 0xDDCBFEF4, (.set_6_mIXd_H 0xFE)),
   (32, 0xDDCBFEF5, (.set_6_mIXd_L 0xFE)), (32, 0xDDCBFEF6, (.set_6_mIXd 0xFE)), (32, 0xDDCBFEF7, (.set_6_mIXd_A 0xFE))]

noncomputable def wordsDdcb3 : List (Nat × Nat × Instr) :=
  [(32, 0xDDCBFEF8, (.set_7_mIXd_B 0xFE)), (32, 0xDDCBFEF9, (.set_7_mIXd_C 0xFE)),
   (32, 0xDDCBFEFA, (.set_7_mIXd_D 0xFE)), (32, 0xDDCBFEFB, (.set_7_mIXd_E 0xFE)),
   (32, 0xDDCBFEFC, (.set_7_mIXd_H 0xFE)), (32, 0xDDCBFEFD, (.set_7_mIXd_L 0xFE)), (32, 0xDDCBFEFE, (.set_7_mIXd 0xFE)),
   (32, 0xDDCBFEFF, (.set_7_mIXd_A 0xFE))]

theorem test_decode_ddcb : reads wordsDdcb0 ∧ reads wordsDdcb1 ∧ reads wordsDdcb2 ∧ reads wordsDdcb3 :=
  ⟨rfl, rfl, rfl, rfl⟩

noncomputable def wordsChain0 : List (Nat × Nat × Instr) :=
  [(16, 0xDDDD, .redundant_DD), (16, 0xDDED, .ignored_DD_before_ED), (16, 0xFDFD, .redundant_FD),
   (16, 0xFDED, .ignored_FD_before_ED)]

theorem test_decode_chain : reads wordsChain0 :=
  rfl

noncomputable def wordsFdIgnored0 : List (Nat × Nat × Instr) :=
  [(16, 0xFD00, .fd_nop), (32, 0xFD013412, (.fd_ld_BC_nn 0x1234)), (16, 0xFD02, .fd_ld_mBC_A), (16, 0xFD03, .fd_inc_BC),
   (16, 0xFD04, .fd_inc_B), (16, 0xFD05, .fd_dec_B), (24, 0xFD06A7, (.fd_ld_B_n 0xA7)), (16, 0xFD07, .fd_rlca),
   (16, 0xFD08, .fd_ex_AF_AF), (16, 0xFD0A, .fd_ld_A_mBC), (16, 0xFD0B, .fd_dec_BC), (16, 0xFD0C, .fd_inc_C),
   (16, 0xFD0D, .fd_dec_C), (24, 0xFD0EA7, (.fd_ld_C_n 0xA7)), (16, 0xFD0F, .fd_rrca),
   (24, 0xFD1085, (.fd_djnz_e 0x85)), (32, 0xFD113412, (.fd_ld_DE_nn 0x1234)), (16, 0xFD12, .fd_ld_mDE_A),
   (16, 0xFD13, .fd_inc_DE), (16, 0xFD14, .fd_inc_D), (16, 0xFD15, .fd_dec_D), (24, 0xFD16A7, (.fd_ld_D_n 0xA7)),
   (16, 0xFD17, .fd_rla), (24, 0xFD1885, (.fd_jr_e 0x85)), (16, 0xFD1A, .fd_ld_A_mDE), (16, 0xFD1B, .fd_dec_DE),
   (16, 0xFD1C, .fd_inc_E), (16, 0xFD1D, .fd_dec_E), (24, 0xFD1EA7, (.fd_ld_E_n 0xA7)), (16, 0xFD1F, .fd_rra),
   (24, 0xFD2085, (.fd_jr_NZ_e 0x85)), (16, 0xFD27, .fd_daa), (24, 0xFD2885, (.fd_jr_Z_e 0x85)), (16, 0xFD2F, .fd_cpl),
   (24, 0xFD3085, (.fd_jr_NC_e 0x85)), (32, 0xFD313412, (.fd_ld_SP_nn 0x1234)), (32, 0xFD323412, (.fd_ld_mnn_A 0x1234)),
   (16, 0xFD33, .fd_inc_SP), (16, 0xFD37, .fd_scf), (24, 0xFD3885, (.fd_jr_C_e 0x85)),
   (32, 0xFD3A3412, (.fd_ld_A_mnn 0x1234)), (16, 0xFD3B, .fd_dec_SP), (16, 0xFD3C, .fd_inc_A), (16, 0xFD3D, .fd_dec_A),
   (24, 0xFD3EA7, (.fd_ld_A_n 0xA7)), (16, 0xFD3F, .fd_ccf), (16, 0xFD40, .fd_ld_B_B), (16, 0xFD41, .fd_ld_B_C),
   (16, 0xFD42, .fd_ld_B_D), (16, 0xFD43, .fd_ld_B_E), (16, 0xFD47, .fd_ld_B_A), (16, 0xFD48, .fd_ld_C_B),
   (16, 0xFD49, .fd_ld_C_C), (16, 0xFD4A, .fd_ld_C_D), (16, 0xFD4B, .fd_ld_C_E), (16, 0xFD4F, .fd_ld_C_A),
   (16, 0xFD50, .fd_ld_D_B), (16, 0xFD51, .fd_ld_D_C), (16, 0xFD52, .fd_ld_D_D), (16, 0xFD53, .fd_ld_D_E),
   (16, 0xFD57, .fd_ld_D_A), (16, 0xFD58, .fd_ld_E_B), (16, 0xFD59, .fd_ld_E_C), (16, 0xFD5A, .fd_ld_E_D)]

noncomputable def wordsFdIgnored1 : List (Nat × Nat × Instr) :=
  [(16, 0xFD5B, .fd_ld_E_E), (16, 0xFD5F, .fd_ld_E_A), (16, 0xFD76, .fd_halt), (16, 0xFD78, .fd_ld_A_B),
   (16, 0xFD79, .fd_ld_A_C), (16, 0xFD7A, .fd_ld_A_D), (16, 0xFD7B, .fd_ld_A_E), (16, 0xFD7F, .fd_ld_A_A),
   (16, 0xFD80, .fd_add_A_B), (16, 0xFD81, .fd_add_A_C), (16, 0xFD82, .fd_add_A_D), (16, 0xFD83, .fd_add_A_E),
   (16, 0xFD87, .fd_add_A_A), (16, 0xFD88, .fd_adc_A_B), (16, 0xFD89, .fd_adc_A_C), (16, 0xFD8A, .fd_adc_A_D),
   (16, 0xFD8B, .fd_adc_A_E), (16, 0xFD8F, .fd_adc_A_A), (16, 0xFD90, .fd_sub_B), (16, 0xFD91, .fd_sub_C),
   (16, 0xFD92, .fd_sub_D), (16, 0xFD93, .fd_sub_E), (16, 0xFD97, .fd_sub_A), (16, 0xFD98, .fd_sbc_A_B),
   (16, 0xFD99, .fd_sbc_A_C), (16, 0xFD9A, .fd_sbc_A_D), (16, 0xFD9B, .fd_sbc_A_E), (16, 0xFD9F, .fd_sbc_A_A),
   (16, 0xFDA0, .fd_and_B), (16, 0xFDA1, .fd_and_C), (16, 0xFDA2, .fd_and_D), (16, 0xFDA3, .fd_and_E),
   (16, 0xFDA7, .fd_and_A), (16, 0xFDA8, .fd_xor_B), (16, 0xFDA9, .fd_xor_C), (16, 0xFDAA, .fd_xor_D),
   (16, 0xFDAB, .fd_xor_E), (16, 0xFDAF, .fd_xor_A), (16, 0xFDB0, .fd_or_B), (16, 0xFDB1, .fd_or_C),
   (16, 0xFDB2, .fd_or_D), (16, 0xFDB3, .fd_or_E), (16, 0xFDB7, .fd_or_A), (16, 0xFDB8, .fd_cp_B),
   (16, 0xFDB9, .fd_cp_C), (16, 0xFDBA, .fd_cp_D), (16, 0xFDBB, .fd_cp_E), (16, 0xFDBF, .fd_cp_A),
   (16, 0xFDC0, .fd_ret_NZ), (16, 0xFDC1, .fd_pop_BC), (32, 0xFDC23412, (.fd_jp_NZ_nn 0x1234)),
   (32, 0xFDC33412, (.fd_jp_nn 0x1234)), (32, 0xFDC43412, (.fd_call_NZ_nn 0x1234)), (16, 0xFDC5, .fd_push_BC),
   (24, 0xFDC6A7, (.fd_add_A_n 0xA7)), (16, 0xFDC7, .fd_rst_00h), (16, 0xFDC8, .fd_ret_Z), (16, 0xFDC9, .fd_ret),
   (32, 0xFDCA3412, (.fd_jp_Z_nn 0x1234)), (32, 0xFDCC3412, (.fd_call_Z_nn 0x1234)),
   (32, 0xFDCD3412, (.fd_call_nn 0x1234)), (24, 0xFDCEA7, (.fd_adc_A_n 0xA7)), (16, 0xFDCF, .fd_rst_08h),
   (16, 0xFDD0, .fd_ret_NC)]

noncomputable def wordsFdIgnored2 : List (Nat × Nat × Instr) :=
  [(16, 0xFDD1, .fd_pop_DE), (32, 0xFDD23412, (.fd_jp_NC_nn 0x1234)), (24, 0xFDD3A7, (.fd_out_mn_A 0xA7)),
   (32, 0xFDD43412, (.fd_call_NC_nn 0x1234)), (16, 0xFDD5, .fd_push_DE), (24, 0xFDD6A7, (.fd_sub_n 0xA7)),
   (16, 0xFDD7, .fd_rst_10h), (16, 0xFDD8, .fd_ret_C), (16, 0xFDD9, .fd_exx), (32, 0xFDDA3412, (.fd_jp_C_nn 0x1234)),
   (24, 0xFDDBA7, (.fd_in_A_mn 0xA7)), (32, 0xFDDC3412, (.fd_call_C_nn 0x1234)), (24, 0xFDDEA7, (.fd_sbc_A_n 0xA7)),
   (16, 0xFDDF, .fd_rst_18h), (16, 0xFDE0, .fd_ret_PO), (32, 0xFDE23412, (.fd_jp_PO_nn 0x1234)),
   (32, 0xFDE43412, (.fd_call_PO_nn 0x1234)), (24, 0xFDE6A7, (.fd_and_n 0xA7)), (16, 0xFDE7, .fd_rst_20h),
   (16, 0xFDE8, .fd_ret_PE), (32, 0xFDEA3412, (.fd_jp_PE_nn 0x1234)), (16, 0xFDEB, .fd_ex_DE_HL),
   (32, 0xFDEC3412, (.fd_call_PE_nn 0x1234)), (24, 0xFDEEA7, (.fd_xor_n 0xA7)), (16, 0xFDEF, .fd_rst_28h),
   (16, 0xFDF0, .fd_ret_P), (16, 0xFDF1, .fd_pop_AF), (32, 0xFDF23412, (.fd_jp_P_nn 0x1234)), (16, 0xFDF3, .fd_di),
   (32, 0xFDF43412, (.fd_call_P_nn 0x1234)), (16, 0xFDF5, .fd_push_AF), (24, 0xFDF6A7, (.fd_or_n 0xA7)),
   (16, 0xFDF7, .fd_rst_30h), (16, 0xFDF8, .fd_ret_M), (32, 0xFDFA3412, (.fd_jp_M_nn 0x1234)), (16, 0xFDFB, .fd_ei),
   (32, 0xFDFC3412, (.fd_call_M_nn 0x1234)), (24, 0xFDFEA7, (.fd_cp_n 0xA7)), (16, 0xFDFF, .fd_rst_38h)]

theorem test_decode_fd_ignored : reads wordsFdIgnored0 ∧ reads wordsFdIgnored1 ∧ reads wordsFdIgnored2 :=
  ⟨rfl, rfl, rfl⟩

noncomputable def wordsFd0 : List (Nat × Nat × Instr) :=
  [(16, 0xFD09, .add_IY_BC), (16, 0xFD19, .add_IY_DE), (32, 0xFD213412, (.ld_IY_nn 0x1234)),
   (32, 0xFD223412, (.ld_mnn_IY 0x1234)), (16, 0xFD23, .inc_IY), (16, 0xFD24, .inc_IYH), (16, 0xFD25, .dec_IYH),
   (24, 0xFD26A7, (.ld_IYH_n 0xA7)), (16, 0xFD29, .add_IY_IY), (32, 0xFD2A3412, (.ld_IY_mnn 0x1234)),
   (16, 0xFD2B, .dec_IY), (16, 0xFD2C, .inc_IYL), (16, 0xFD2D, .dec_IYL), (24, 0xFD2EA7, (.ld_IYL_n 0xA7)),
   (24, 0xFD34FE, (.inc_mIYd 0xFE)), (24, 0xFD35FE, (.dec_mIYd 0xFE)), (32, 0xFD36FEA7, (.ld_mIYd_n 0xFE 0xA7)),
   (16, 0xFD39, .add_IY_SP), (16, 0xFD44, .ld_B_IYH), (16, 0xFD45, .ld_B_IYL), (24, 0xFD46FE, (.ld_B_mIYd 0xFE)),
   (16, 0xFD4C, .ld_C_IYH), (16, 0xFD4D, .ld_C_IYL), (24, 0xFD4EFE, (.ld_C_mIYd 0xFE)), (16, 0xFD54, .ld_D_IYH),
   (16, 0xFD55, .ld_D_IYL), (24, 0xFD56FE, (.ld_D_mIYd 0xFE)), (16, 0xFD5C, .ld_E_IYH), (16, 0xFD5D, .ld_E_IYL),
   (24, 0xFD5EFE, (.ld_E_mIYd 0xFE)), (16, 0xFD60, .ld_IYH_B), (16, 0xFD61, .ld_IYH_C), (16, 0xFD62, .ld_IYH_D),
   (16, 0xFD63, .ld_IYH_E), (16, 0xFD64, .ld_IYH_IYH), (16, 0xFD65, .ld_IYH_IYL), (24, 0xFD66FE, (.ld_H_mIYd 0xFE)),
   (16, 0xFD67, .ld_IYH_A), (16, 0xFD68, .ld_IYL_B), (16, 0xFD69, .ld_IYL_C), (16, 0xFD6A, .ld_IYL_D),
   (16, 0xFD6B, .ld_IYL_E), (16, 0xFD6C, .ld_IYL_IYH), (16, 0xFD6D, .ld_IYL_IYL), (24, 0xFD6EFE, (.ld_L_mIYd 0xFE)),
   (16, 0xFD6F, .ld_IYL_A), (24, 0xFD70FE, (.ld_mIYd_B 0xFE)), (24, 0xFD71FE, (.ld_mIYd_C 0xFE)),
   (24, 0xFD72FE, (.ld_mIYd_D 0xFE)), (24, 0xFD73FE, (.ld_mIYd_E 0xFE)), (24, 0xFD74FE, (.ld_mIYd_H 0xFE)),
   (24, 0xFD75FE, (.ld_mIYd_L 0xFE)), (24, 0xFD77FE, (.ld_mIYd_A 0xFE)), (16, 0xFD7C, .ld_A_IYH),
   (16, 0xFD7D, .ld_A_IYL), (24, 0xFD7EFE, (.ld_A_mIYd 0xFE)), (16, 0xFD84, .add_A_IYH), (16, 0xFD85, .add_A_IYL),
   (24, 0xFD86FE, (.add_A_mIYd 0xFE)), (16, 0xFD8C, .adc_A_IYH), (16, 0xFD8D, .adc_A_IYL),
   (24, 0xFD8EFE, (.adc_A_mIYd 0xFE)), (16, 0xFD94, .sub_IYH), (16, 0xFD95, .sub_IYL)]

noncomputable def wordsFd1 : List (Nat × Nat × Instr) :=
  [(24, 0xFD96FE, (.sub_mIYd 0xFE)), (16, 0xFD9C, .sbc_A_IYH), (16, 0xFD9D, .sbc_A_IYL),
   (24, 0xFD9EFE, (.sbc_A_mIYd 0xFE)), (16, 0xFDA4, .and_IYH), (16, 0xFDA5, .and_IYL), (24, 0xFDA6FE, (.and_mIYd 0xFE)),
   (16, 0xFDAC, .xor_IYH), (16, 0xFDAD, .xor_IYL), (24, 0xFDAEFE, (.xor_mIYd 0xFE)), (16, 0xFDB4, .or_IYH),
   (16, 0xFDB5, .or_IYL), (24, 0xFDB6FE, (.or_mIYd 0xFE)), (16, 0xFDBC, .cp_IYH), (16, 0xFDBD, .cp_IYL),
   (24, 0xFDBEFE, (.cp_mIYd 0xFE)), (16, 0xFDE1, .pop_IY), (16, 0xFDE3, .ex_mSP_IY), (16, 0xFDE5, .push_IY),
   (16, 0xFDE9, .jp_mIY), (16, 0xFDF9, .ld_SP_IY)]

theorem test_decode_fd : reads wordsFd0 ∧ reads wordsFd1 :=
  ⟨rfl, rfl⟩

noncomputable def wordsFdcb0 : List (Nat × Nat × Instr) :=
  [(32, 0xFDCBFE00, (.rlc_mIYd_B 0xFE)), (32, 0xFDCBFE01, (.rlc_mIYd_C 0xFE)), (32, 0xFDCBFE02, (.rlc_mIYd_D 0xFE)),
   (32, 0xFDCBFE03, (.rlc_mIYd_E 0xFE)), (32, 0xFDCBFE04, (.rlc_mIYd_H 0xFE)), (32, 0xFDCBFE05, (.rlc_mIYd_L 0xFE)),
   (32, 0xFDCBFE06, (.rlc_mIYd 0xFE)), (32, 0xFDCBFE07, (.rlc_mIYd_A 0xFE)), (32, 0xFDCBFE08, (.rrc_mIYd_B 0xFE)),
   (32, 0xFDCBFE09, (.rrc_mIYd_C 0xFE)), (32, 0xFDCBFE0A, (.rrc_mIYd_D 0xFE)), (32, 0xFDCBFE0B, (.rrc_mIYd_E 0xFE)),
   (32, 0xFDCBFE0C, (.rrc_mIYd_H 0xFE)), (32, 0xFDCBFE0D, (.rrc_mIYd_L 0xFE)), (32, 0xFDCBFE0E, (.rrc_mIYd 0xFE)),
   (32, 0xFDCBFE0F, (.rrc_mIYd_A 0xFE)), (32, 0xFDCBFE10, (.rl_mIYd_B 0xFE)), (32, 0xFDCBFE11, (.rl_mIYd_C 0xFE)),
   (32, 0xFDCBFE12, (.rl_mIYd_D 0xFE)), (32, 0xFDCBFE13, (.rl_mIYd_E 0xFE)), (32, 0xFDCBFE14, (.rl_mIYd_H 0xFE)),
   (32, 0xFDCBFE15, (.rl_mIYd_L 0xFE)), (32, 0xFDCBFE16, (.rl_mIYd 0xFE)), (32, 0xFDCBFE17, (.rl_mIYd_A 0xFE)),
   (32, 0xFDCBFE18, (.rr_mIYd_B 0xFE)), (32, 0xFDCBFE19, (.rr_mIYd_C 0xFE)), (32, 0xFDCBFE1A, (.rr_mIYd_D 0xFE)),
   (32, 0xFDCBFE1B, (.rr_mIYd_E 0xFE)), (32, 0xFDCBFE1C, (.rr_mIYd_H 0xFE)), (32, 0xFDCBFE1D, (.rr_mIYd_L 0xFE)),
   (32, 0xFDCBFE1E, (.rr_mIYd 0xFE)), (32, 0xFDCBFE1F, (.rr_mIYd_A 0xFE)), (32, 0xFDCBFE20, (.sla_mIYd_B 0xFE)),
   (32, 0xFDCBFE21, (.sla_mIYd_C 0xFE)), (32, 0xFDCBFE22, (.sla_mIYd_D 0xFE)), (32, 0xFDCBFE23, (.sla_mIYd_E 0xFE)),
   (32, 0xFDCBFE24, (.sla_mIYd_H 0xFE)), (32, 0xFDCBFE25, (.sla_mIYd_L 0xFE)), (32, 0xFDCBFE26, (.sla_mIYd 0xFE)),
   (32, 0xFDCBFE27, (.sla_mIYd_A 0xFE)), (32, 0xFDCBFE28, (.sra_mIYd_B 0xFE)), (32, 0xFDCBFE29, (.sra_mIYd_C 0xFE)),
   (32, 0xFDCBFE2A, (.sra_mIYd_D 0xFE)), (32, 0xFDCBFE2B, (.sra_mIYd_E 0xFE)), (32, 0xFDCBFE2C, (.sra_mIYd_H 0xFE)),
   (32, 0xFDCBFE2D, (.sra_mIYd_L 0xFE)), (32, 0xFDCBFE2E, (.sra_mIYd 0xFE)), (32, 0xFDCBFE2F, (.sra_mIYd_A 0xFE)),
   (32, 0xFDCBFE30, (.sll_mIYd_B 0xFE)), (32, 0xFDCBFE31, (.sll_mIYd_C 0xFE)), (32, 0xFDCBFE32, (.sll_mIYd_D 0xFE)),
   (32, 0xFDCBFE33, (.sll_mIYd_E 0xFE)), (32, 0xFDCBFE34, (.sll_mIYd_H 0xFE)), (32, 0xFDCBFE35, (.sll_mIYd_L 0xFE)),
   (32, 0xFDCBFE36, (.sll_mIYd 0xFE)), (32, 0xFDCBFE37, (.sll_mIYd_A 0xFE)), (32, 0xFDCBFE38, (.srl_mIYd_B 0xFE)),
   (32, 0xFDCBFE39, (.srl_mIYd_C 0xFE)), (32, 0xFDCBFE3A, (.srl_mIYd_D 0xFE)), (32, 0xFDCBFE3B, (.srl_mIYd_E 0xFE)),
   (32, 0xFDCBFE3C, (.srl_mIYd_H 0xFE)), (32, 0xFDCBFE3D, (.srl_mIYd_L 0xFE)), (32, 0xFDCBFE3E, (.srl_mIYd 0xFE)),
   (32, 0xFDCBFE3F, (.srl_mIYd_A 0xFE))]

noncomputable def wordsFdcb1 : List (Nat × Nat × Instr) :=
  [(32, 0xFDCBFE40, (.bit_0_mIYd 0 0xFE)), (32, 0xFDCBFE48, (.bit_1_mIYd 0 0xFE)),
   (32, 0xFDCBFE50, (.bit_2_mIYd 0 0xFE)), (32, 0xFDCBFE58, (.bit_3_mIYd 0 0xFE)),
   (32, 0xFDCBFE60, (.bit_4_mIYd 0 0xFE)), (32, 0xFDCBFE68, (.bit_5_mIYd 0 0xFE)),
   (32, 0xFDCBFE70, (.bit_6_mIYd 0 0xFE)), (32, 0xFDCBFE78, (.bit_7_mIYd 0 0xFE)),
   (32, 0xFDCBFE80, (.res_0_mIYd_B 0xFE)), (32, 0xFDCBFE81, (.res_0_mIYd_C 0xFE)),
   (32, 0xFDCBFE82, (.res_0_mIYd_D 0xFE)), (32, 0xFDCBFE83, (.res_0_mIYd_E 0xFE)),
   (32, 0xFDCBFE84, (.res_0_mIYd_H 0xFE)), (32, 0xFDCBFE85, (.res_0_mIYd_L 0xFE)), (32, 0xFDCBFE86, (.res_0_mIYd 0xFE)),
   (32, 0xFDCBFE87, (.res_0_mIYd_A 0xFE)), (32, 0xFDCBFE88, (.res_1_mIYd_B 0xFE)),
   (32, 0xFDCBFE89, (.res_1_mIYd_C 0xFE)), (32, 0xFDCBFE8A, (.res_1_mIYd_D 0xFE)),
   (32, 0xFDCBFE8B, (.res_1_mIYd_E 0xFE)), (32, 0xFDCBFE8C, (.res_1_mIYd_H 0xFE)),
   (32, 0xFDCBFE8D, (.res_1_mIYd_L 0xFE)), (32, 0xFDCBFE8E, (.res_1_mIYd 0xFE)), (32, 0xFDCBFE8F, (.res_1_mIYd_A 0xFE)),
   (32, 0xFDCBFE90, (.res_2_mIYd_B 0xFE)), (32, 0xFDCBFE91, (.res_2_mIYd_C 0xFE)),
   (32, 0xFDCBFE92, (.res_2_mIYd_D 0xFE)), (32, 0xFDCBFE93, (.res_2_mIYd_E 0xFE)),
   (32, 0xFDCBFE94, (.res_2_mIYd_H 0xFE)), (32, 0xFDCBFE95, (.res_2_mIYd_L 0xFE)), (32, 0xFDCBFE96, (.res_2_mIYd 0xFE)),
   (32, 0xFDCBFE97, (.res_2_mIYd_A 0xFE)), (32, 0xFDCBFE98, (.res_3_mIYd_B 0xFE)),
   (32, 0xFDCBFE99, (.res_3_mIYd_C 0xFE)), (32, 0xFDCBFE9A, (.res_3_mIYd_D 0xFE)),
   (32, 0xFDCBFE9B, (.res_3_mIYd_E 0xFE)), (32, 0xFDCBFE9C, (.res_3_mIYd_H 0xFE)),
   (32, 0xFDCBFE9D, (.res_3_mIYd_L 0xFE)), (32, 0xFDCBFE9E, (.res_3_mIYd 0xFE)), (32, 0xFDCBFE9F, (.res_3_mIYd_A 0xFE)),
   (32, 0xFDCBFEA0, (.res_4_mIYd_B 0xFE)), (32, 0xFDCBFEA1, (.res_4_mIYd_C 0xFE)),
   (32, 0xFDCBFEA2, (.res_4_mIYd_D 0xFE)), (32, 0xFDCBFEA3, (.res_4_mIYd_E 0xFE)),
   (32, 0xFDCBFEA4, (.res_4_mIYd_H 0xFE)), (32, 0xFDCBFEA5, (.res_4_mIYd_L 0xFE)), (32, 0xFDCBFEA6, (.res_4_mIYd 0xFE)),
   (32, 0xFDCBFEA7, (.res_4_mIYd_A 0xFE)), (32, 0xFDCBFEA8, (.res_5_mIYd_B 0xFE)),
   (32, 0xFDCBFEA9, (.res_5_mIYd_C 0xFE)), (32, 0xFDCBFEAA, (.res_5_mIYd_D 0xFE)),
   (32, 0xFDCBFEAB, (.res_5_mIYd_E 0xFE)), (32, 0xFDCBFEAC, (.res_5_mIYd_H 0xFE)),
   (32, 0xFDCBFEAD, (.res_5_mIYd_L 0xFE)), (32, 0xFDCBFEAE, (.res_5_mIYd 0xFE)), (32, 0xFDCBFEAF, (.res_5_mIYd_A 0xFE)),
   (32, 0xFDCBFEB0, (.res_6_mIYd_B 0xFE)), (32, 0xFDCBFEB1, (.res_6_mIYd_C 0xFE)),
   (32, 0xFDCBFEB2, (.res_6_mIYd_D 0xFE)), (32, 0xFDCBFEB3, (.res_6_mIYd_E 0xFE)),
   (32, 0xFDCBFEB4, (.res_6_mIYd_H 0xFE)), (32, 0xFDCBFEB5, (.res_6_mIYd_L 0xFE)), (32, 0xFDCBFEB6, (.res_6_mIYd 0xFE)),
   (32, 0xFDCBFEB7, (.res_6_mIYd_A 0xFE))]

noncomputable def wordsFdcb2 : List (Nat × Nat × Instr) :=
  [(32, 0xFDCBFEB8, (.res_7_mIYd_B 0xFE)), (32, 0xFDCBFEB9, (.res_7_mIYd_C 0xFE)),
   (32, 0xFDCBFEBA, (.res_7_mIYd_D 0xFE)), (32, 0xFDCBFEBB, (.res_7_mIYd_E 0xFE)),
   (32, 0xFDCBFEBC, (.res_7_mIYd_H 0xFE)), (32, 0xFDCBFEBD, (.res_7_mIYd_L 0xFE)), (32, 0xFDCBFEBE, (.res_7_mIYd 0xFE)),
   (32, 0xFDCBFEBF, (.res_7_mIYd_A 0xFE)), (32, 0xFDCBFEC0, (.set_0_mIYd_B 0xFE)),
   (32, 0xFDCBFEC1, (.set_0_mIYd_C 0xFE)), (32, 0xFDCBFEC2, (.set_0_mIYd_D 0xFE)),
   (32, 0xFDCBFEC3, (.set_0_mIYd_E 0xFE)), (32, 0xFDCBFEC4, (.set_0_mIYd_H 0xFE)),
   (32, 0xFDCBFEC5, (.set_0_mIYd_L 0xFE)), (32, 0xFDCBFEC6, (.set_0_mIYd 0xFE)), (32, 0xFDCBFEC7, (.set_0_mIYd_A 0xFE)),
   (32, 0xFDCBFEC8, (.set_1_mIYd_B 0xFE)), (32, 0xFDCBFEC9, (.set_1_mIYd_C 0xFE)),
   (32, 0xFDCBFECA, (.set_1_mIYd_D 0xFE)), (32, 0xFDCBFECB, (.set_1_mIYd_E 0xFE)),
   (32, 0xFDCBFECC, (.set_1_mIYd_H 0xFE)), (32, 0xFDCBFECD, (.set_1_mIYd_L 0xFE)), (32, 0xFDCBFECE, (.set_1_mIYd 0xFE)),
   (32, 0xFDCBFECF, (.set_1_mIYd_A 0xFE)), (32, 0xFDCBFED0, (.set_2_mIYd_B 0xFE)),
   (32, 0xFDCBFED1, (.set_2_mIYd_C 0xFE)), (32, 0xFDCBFED2, (.set_2_mIYd_D 0xFE)),
   (32, 0xFDCBFED3, (.set_2_mIYd_E 0xFE)), (32, 0xFDCBFED4, (.set_2_mIYd_H 0xFE)),
   (32, 0xFDCBFED5, (.set_2_mIYd_L 0xFE)), (32, 0xFDCBFED6, (.set_2_mIYd 0xFE)), (32, 0xFDCBFED7, (.set_2_mIYd_A 0xFE)),
   (32, 0xFDCBFED8, (.set_3_mIYd_B 0xFE)), (32, 0xFDCBFED9, (.set_3_mIYd_C 0xFE)),
   (32, 0xFDCBFEDA, (.set_3_mIYd_D 0xFE)), (32, 0xFDCBFEDB, (.set_3_mIYd_E 0xFE)),
   (32, 0xFDCBFEDC, (.set_3_mIYd_H 0xFE)), (32, 0xFDCBFEDD, (.set_3_mIYd_L 0xFE)), (32, 0xFDCBFEDE, (.set_3_mIYd 0xFE)),
   (32, 0xFDCBFEDF, (.set_3_mIYd_A 0xFE)), (32, 0xFDCBFEE0, (.set_4_mIYd_B 0xFE)),
   (32, 0xFDCBFEE1, (.set_4_mIYd_C 0xFE)), (32, 0xFDCBFEE2, (.set_4_mIYd_D 0xFE)),
   (32, 0xFDCBFEE3, (.set_4_mIYd_E 0xFE)), (32, 0xFDCBFEE4, (.set_4_mIYd_H 0xFE)),
   (32, 0xFDCBFEE5, (.set_4_mIYd_L 0xFE)), (32, 0xFDCBFEE6, (.set_4_mIYd 0xFE)), (32, 0xFDCBFEE7, (.set_4_mIYd_A 0xFE)),
   (32, 0xFDCBFEE8, (.set_5_mIYd_B 0xFE)), (32, 0xFDCBFEE9, (.set_5_mIYd_C 0xFE)),
   (32, 0xFDCBFEEA, (.set_5_mIYd_D 0xFE)), (32, 0xFDCBFEEB, (.set_5_mIYd_E 0xFE)),
   (32, 0xFDCBFEEC, (.set_5_mIYd_H 0xFE)), (32, 0xFDCBFEED, (.set_5_mIYd_L 0xFE)), (32, 0xFDCBFEEE, (.set_5_mIYd 0xFE)),
   (32, 0xFDCBFEEF, (.set_5_mIYd_A 0xFE)), (32, 0xFDCBFEF0, (.set_6_mIYd_B 0xFE)),
   (32, 0xFDCBFEF1, (.set_6_mIYd_C 0xFE)), (32, 0xFDCBFEF2, (.set_6_mIYd_D 0xFE)),
   (32, 0xFDCBFEF3, (.set_6_mIYd_E 0xFE)), (32, 0xFDCBFEF4, (.set_6_mIYd_H 0xFE)),
   (32, 0xFDCBFEF5, (.set_6_mIYd_L 0xFE)), (32, 0xFDCBFEF6, (.set_6_mIYd 0xFE)), (32, 0xFDCBFEF7, (.set_6_mIYd_A 0xFE))]

noncomputable def wordsFdcb3 : List (Nat × Nat × Instr) :=
  [(32, 0xFDCBFEF8, (.set_7_mIYd_B 0xFE)), (32, 0xFDCBFEF9, (.set_7_mIYd_C 0xFE)),
   (32, 0xFDCBFEFA, (.set_7_mIYd_D 0xFE)), (32, 0xFDCBFEFB, (.set_7_mIYd_E 0xFE)),
   (32, 0xFDCBFEFC, (.set_7_mIYd_H 0xFE)), (32, 0xFDCBFEFD, (.set_7_mIYd_L 0xFE)), (32, 0xFDCBFEFE, (.set_7_mIYd 0xFE)),
   (32, 0xFDCBFEFF, (.set_7_mIYd_A 0xFE))]

theorem test_decode_fdcb : reads wordsFdcb0 ∧ reads wordsFdcb1 ∧ reads wordsFdcb2 ∧ reads wordsFdcb3 :=
  ⟨rfl, rfl, rfl, rfl⟩

end Sys2Proof.Tests
end

/-!
The statements about the CPU's registers, the counters and the invariant (10_state.md): what the bytes of an instruction say
of its plan, what an operation leaves unchanged, and the changes that a whole step is made of.
-/

namespace Sys2Proof.Machine

/-! ## What the bytes say of the instruction decoded from them (30_encoding.md R139 to R147) -/

/-- A test of every opcode byte. -/
def allOpcodes (test : Byte → Bool) : Bool :=
  (List.range 16).all fun h => (List.range 16).all fun l => test (BitVec.ofNat 8 (16 * h + l))

/-- A test that every opcode byte passes. -/
theorem of_allOpcodes {test : Byte → Bool} (h : allOpcodes test = true) (op : Byte) : test op = true := by
  have hrow := List.all_eq_true.mp h (op.toNat / 16) (List.mem_range.mpr (by omega))
  have hcell := List.all_eq_true.mp hrow (op.toNat % 16) (List.mem_range.mpr (by omega))
  simpa [Nat.div_add_mod] using hcell

/-- A test of four bytes that all bytes pass if each table of the decoder passes it: the opcodes alone, those after CB and
after ED, and those after DD and FD with and without CB (R139 to R145). -/
theorem of_tables {test : Byte → Byte → Byte → Byte → Bool}
    (plain : ∀ n1 n2 n3, allOpcodes (fun op => isPrefixByte op || test op n1 n2 n3) = true)
    (cb : ∀ n1 n2, allOpcodes (test 0xCB · n1 n2) = true)
    (ed : ∀ n1 n2, allOpcodes (test 0xED · n1 n2) = true)
    (index : ∀ xy n1 n2, allOpcodes (fun op => op == 0xCB || test (XY.byte xy) op n1 n2) = true)
    (indexCb : ∀ xy d, allOpcodes (test (XY.byte xy) 0xCB d ·) = true)
    (b0 b1 b2 b3 : Byte) : test b0 b1 b2 b3 = true := by
  have hxy (xy : XY) : test xy.byte b1 b2 b3 = true := by
    by_cases h : b1 = 0xCB
    · subst h; exact of_allOpcodes (indexCb xy b2) b3
    · exact (Bool.or_eq_true_iff.mp (of_allOpcodes (index xy b2 b3) b1)).resolve_left (mt eq_of_beq h)
  by_cases hb : isPrefixByte b0 = true
  · simp only [isPrefixByte, Bool.or_eq_true, beq_iff_eq] at hb
    obtain ((rfl | rfl) | rfl) | rfl := hb
    · exact of_allOpcodes (cb b2 b3) b1
    · exact hxy .ix
    · exact of_allOpcodes (ed b2 b3) b1
    · exact hxy .iy
  · exact (Bool.or_eq_true_iff.mp (of_allOpcodes (plain b1 b2 b3) b0)).resolve_left hb

/-- The instructions that write a register of the CPU's control state or the shadow bank (10_state.md R32, R41 to R47);
`ret` is RETI and RETN, `none` every other instruction. -/
inductive Control where
  | none | ldIA | ldRA | di | ei | ret | im | halt | exAf | exx
  deriving DecidableEq

/-- Which of them an operation is. -/
def Act.control : Act → Control
  | .ldIA => .ldIA
  | .ldRA => .ldRA
  | .di => .di
  | .ei => .ei
  | .reti | .retn => .ret
  | .setIm _ => .im
  | .halt => .halt
  | .exAf => .exAf
  | .exx => .exx
  | _ => .none

/-- Which of them a form is. -/
def Form.control : Form → Control
  | .main op _ _ =>
    if op = 0xF3 then .di else if op = 0xFB then .ei else if op = 0x76 then .halt
    else if op = 0x08 then .exAf else if op = 0xD9 then .exx else .none
  | .ed op _ _ =>
    if op = 0x47 then .ldIA else if op = 0x4F then .ldRA
    else if opX op = 1 ∧ opZ op = 5 then .ret else if opX op = 1 ∧ opZ op = 6 then .im else .none
  | .cb _ | .index _ _ _ _ | .indexCb _ _ _ | .alone => .none

/-- Whether an operation may write F. -/
def Act.writesF : Act → Bool
  | .ldAI | .ldAR | .exAf | .daa | .cpl | .neg | .scf | .ccf | .rld | .rrd => true
  | .alu _ _ | .incLoc _ | .decLoc _ | .add16 _ _ | .adc16 _ | .sbc16 _ => true
  | .rotA _ | .rot _ _ | .rotIndexed _ _ _ _ | .bitReg _ _ | .bitMem _ _ => true
  | .blockLoad _ | .blockLoadRepeat _ | .blockCompare _ | .blockCompareRepeat _ => true
  | .blockIn _ | .blockInRepeat _ | .blockOut _ | .blockOutRepeat _ | .inC _ => true
  | .ld16 r _ | .load16 r _ | .pop r | .exSp r | .inc16 r | .dec16 r => r == .af
  | _ => false

/-- The opcode fetches of a plan, that of an ignored DD or FD among them. -/
def Plan.fetches (p : Plan) : Nat := (bif p.skip then 1 else 0) + p.m1

/-- A plan is as the bytes say: it writes the control state and F as their form does, has their opcode fetches, and takes at
least 4 T-states. -/
def Plan.agrees (p : Plan) (form : Form) (fetches : Nat) : Bool :=
  match p with
  | ⟨skip, _, m1, t, act⟩ =>
    decide (act.control = form.control) && act.writesF == form.writesF && (bif skip then 1 else 0) + m1 == fetches &&
      Nat.ble 4 t

/-- The plan of the instruction decoded from some bytes is as the bytes say. -/
noncomputable def planAgrees (b0 b1 b2 b3 : Byte) : Bool :=
  (instrPlan (decodeWindow b0 b1 b2 b3).1).agrees (formOf b0 b1 b2 b3) (opcodeFetches b0 b1)

/-! One table of the decoder each: the kernel evaluates the plans of its 256 opcodes, whatever the bytes after them (`by exact`, so that the
equations are checked once and are no rewriting rules). -/

theorem planAgrees_plain (n1 n2 n3 : Byte) :
    allOpcodes (fun op => isPrefixByte op || planAgrees op n1 n2 n3) = true := by exact rfl
theorem planAgrees_cb (n1 n2 : Byte) : allOpcodes (planAgrees 0xCB · n1 n2) = true := by exact rfl
theorem planAgrees_ed (n1 n2 : Byte) : allOpcodes (planAgrees 0xED · n1 n2) = true := by exact rfl
theorem planAgrees_dd (n1 n2 : Byte) : allOpcodes (fun op => op == 0xCB || planAgrees 0xDD op n1 n2) = true := by
  exact rfl
theorem planAgrees_fd (n1 n2 : Byte) : allOpcodes (fun op => op == 0xCB || planAgrees 0xFD op n1 n2) = true := by
  exact rfl
theorem planAgrees_ddcb (d : Byte) : allOpcodes (planAgrees 0xDD 0xCB d ·) = true := by exact rfl
theorem planAgrees_fdcb (d : Byte) : allOpcodes (planAgrees 0xFD 0xCB d ·) = true := by exact rfl

/-- The tables together. -/
theorem planAgrees_all (b0 b1 b2 b3 : Byte) : planAgrees b0 b1 b2 b3 = true :=
  of_tables planAgrees_plain planAgrees_cb planAgrees_ed
    (fun xy n1 n2 => match xy with | .ix => planAgrees_dd n1 n2 | .iy => planAgrees_fd n1 n2)
    (fun xy d => match xy with | .ix => planAgrees_ddcb d | .iy => planAgrees_fdcb d) b0 b1 b2 b3

/-- What the test says of a plan. -/
theorem Plan.agrees_iff {p : Plan} {form : Form} {fetches : Nat} :
    p.agrees form fetches = true ↔
      p.act.control = form.control ∧ p.act.writesF = form.writesF ∧ p.fetches = fetches ∧ 4 ≤ p.t := by
  simp [Plan.agrees, Plan.fetches, and_assoc]

section
variable (b0 b1 b2 b3 : Byte)

/-- The control state is written as the form says. -/
theorem control_instrOf : (instrPlan (instrOf [b0, b1, b2, b3])).act.control = (formOf b0 b1 b2 b3).control :=
  (Plan.agrees_iff.mp (planAgrees_all b0 b1 b2 b3)).1

/-- F is written as the form says. -/
theorem writesF_instrOf : (instrPlan (instrOf [b0, b1, b2, b3])).act.writesF = (formOf b0 b1 b2 b3).writesF :=
  (Plan.agrees_iff.mp (planAgrees_all b0 b1 b2 b3)).2.1

/-- The opcode fetches are those of the bytes. -/
theorem fetches_instrOf : (instrPlan (instrOf [b0, b1, b2, b3])).fetches = opcodeFetches b0 b1 :=
  (Plan.agrees_iff.mp (planAgrees_all b0 b1 b2 b3)).2.2.1

/-- The fetch of every instruction takes at least 4 T-states. -/
theorem four_le_t_instrOf : 4 ≤ (instrPlan (instrOf [b0, b1, b2, b3])).t :=
  (Plan.agrees_iff.mp (planAgrees_all b0 b1 b2 b3)).2.2.2
end

/-! ## The fetch of a plan -/

/-- Increments of R keep bit 7 (10_state.md R42). -/
theorem bumpR_bit7 (r : Byte) (n : Nat) : (bumpR r n).getLsbD 7 = r.getLsbD 7 := by
  simp [bumpR]

/-- Increments of R count modulo 128 in bits 6..0 (R42). -/
theorem bumpR_mod (r : Byte) (n : Nat) : (bumpR r n).toNat % 128 = (r.toNat + n) % 128 := by
  have h7 : (bumpR r n).setWidth 7 = (r + BitVec.ofNat 8 n).setWidth 7 := by
    apply BitVec.eq_of_getLsbD_eq
    intro i hi
    have : i = 0 ∨ i = 1 ∨ i = 2 ∨ i = 3 ∨ i = 4 ∨ i = 5 ∨ i = 6 := by omega
    rcases this with rfl | rfl | rfl | rfl | rfl | rfl | rfl <;> simp [bumpR]
  have h := congrArg BitVec.toNat h7
  simp only [BitVec.toNat_setWidth, BitVec.toNat_add, BitVec.toNat_ofNat] at h
  omega

/-- Bit 7 and bits 6..0 make a byte. -/
theorem byte_eq_of_bit7_of_mod {x y : Byte} (h7 : x.getLsbD 7 = y.getLsbD 7) (hm : x.toNat % 128 = y.toNat % 128) :
    x = y := by
  have hb (v : Byte) : v.getLsbD 7 = decide (128 ≤ v.toNat) := BitVec.msb_eq_decide v
  rw [hb, hb, decide_eq_decide] at h7
  apply BitVec.eq_of_toNat_eq
  omega

/-- Increments of R add up. -/
theorem bumpR_bumpR (r : Byte) (m n : Nat) : bumpR (bumpR r m) n = bumpR r (m + n) := by
  apply byte_eq_of_bit7_of_mod
  · simp only [bumpR_bit7]
  · have := bumpR_mod r m
    simp only [bumpR_mod]
    omega

/-- A fetch after a fetch is one fetch. -/
theorem State.fetched_fetched (s : State) (l l' m m' t t' : Nat) :
    (s.fetched l m t).fetched l' m' t' = s.fetched (l + l') (m + m') (t + t') := by
  simp [State.fetched, bumpR_bumpR, BitVec.ofNat_add, BitVec.add_assoc, Nat.add_assoc]

/-- A plan is one fetch, that of an ignored DD or FD with it, and then its operation. -/
theorem Plan.run_eq (p : Plan) (s : State) :
    p.run s = p.act.run
      (s.fetched ((bif p.skip then 1 else 0) + p.len) p.fetches ((bif p.skip then 4 else 0) + p.t)) := by
  unfold Plan.run Plan.fetches
  cases p.skip
  · simp
  · exact congrArg p.act.run (State.fetched_fetched ..)

/-! ## Which operation writes F, and which R -/

section
variable (s : State)

/-- No 8-bit register that an instruction names is F. -/
@[simp] theorem State.setReg8_f (r : Reg8) (v : Byte) : (s.setReg8 r v).main.f = s.main.f := by cases r <;> rfl

/-- Of the 16-bit registers AF alone holds F. -/
theorem State.setReg16_f {r : Reg16} (h : r ≠ .af) (v : Word) : (s.setReg16 r v).main.f = s.main.f := by
  cases r
  case af => exact absurd rfl h
  all_goals rfl

@[simp] theorem State.writeLoc_f (l : Loc) (v : Byte) : (s.writeLoc l v).main.f = s.main.f := by
  cases l with
  | reg r => exact s.setReg8_f r v
  | mem m => simp [State.writeLoc]

@[simp] theorem State.copyTo_f (c : Option Reg8) (v : Byte) : (s.copyTo c v).main.f = s.main.f := by
  cases c with
  | none => rfl
  | some r => exact s.setReg8_f r v

end

/-- Only LD R,A writes R after its fetches. -/
theorem act_run_r (act : Act) (s : State) (h : act ≠ .ldRA) : (act.run s).r = s.r := by
  cases act with
  | ldRA => exact absurd rfl h
  | ld8 | storeA | ld16 | store16 | load16 | push | pop | exSp =>
    simp [Act.run, ld8, storeA, ld16, store16, load16, push, pop, State.dropped16, exSp]
  | alu | incLoc | decLoc | add16 | inc16 | dec16 =>
    simp [Act.run, alu, incLoc, decLoc, add16, inc16, dec16]
  | rot | rotIndexed | rld | rrd | bitMem | resLoc | setLoc | resIndexed | setIndexed =>
    simp [Act.run, rot, rotIndexed, rld, rrd, bitMem, resLoc, setLoc, resIndexed, setIndexed]
  | call | rst | blockLoad | blockIn | blockOut | inA | outA | outReg | outZero =>
    simp [Act.run, call, rst, State.enterAt, blockLoad, blockIn, blockOut, inA, outA, outC]
  | jpIf | jrIf | djnz | callIf | retIf =>
    simp only [Act.run, jpIf, jrIf, djnz, callIf, retIf]
    split <;> simp [jr, State.enterAt, State.returnToCaller, State.dropped16]
  | blockLoadRepeat | blockCompareRepeat | blockInRepeat | blockOutRepeat =>
    simp only [Act.run, blockLoadRepeat, blockCompareRepeat, blockInRepeat, blockOutRepeat]
    split <;> simp [blockLoad, blockCompare, blockIn, blockOut, State.repeatBlockWz]
  | inC dst => cases dst <;> simp [Act.run, inC]
  | _ => rfl

/-- An operation outside the list of R39 leaves F as it was. -/
theorem act_run_f (act : Act) (s : State) (h : act.writesF = false) : (act.run s).f = s.f := by
  cases act with
  | ld16 r | load16 r | pop r | exSp r | inc16 r | dec16 r =>
    have hr : r ≠ .af := beq_eq_false_iff_ne.mp h
    simp [Act.run, State.f, ld16, load16, pop, State.dropped16, exSp, inc16, dec16, State.setReg16_f _ hr]
  | ld8 | storeA | store16 | push | resLoc | setLoc | resIndexed | setIndexed =>
    simp [Act.run, State.f, ld8, storeA, store16, push, resLoc, setLoc, resIndexed, setIndexed]
  | call | rst | inA | outA | outReg | outZero =>
    simp [Act.run, State.f, call, rst, State.enterAt, inA, outA, outC]
  | jpIf | jrIf | djnz | callIf | retIf =>
    simp only [Act.run, jpIf, jrIf, djnz, callIf, retIf]
    split <;> simp [State.f, jr, State.enterAt, State.returnToCaller, State.dropped16]
  | nop | halt | di | ei | setIm | loadA | ldIA | ldRA | ldSp | exDeHl | exx | jp | jpReg | jr | ret | reti | retn => rfl
  | _ => exact absurd h Bool.true_eq_false.mp

/-! ## Frames of an instruction by its bytes -/

/-- What the bytes of an instruction do: one fetch, of at least 4 T-states, and then the operation of the instruction decoded
from them. -/
theorem exec_instrOf {b0 b1 b2 b3 : Byte} {s t : State} (h : exec (instrOf [b0, b1, b2, b3]) s = .next t) :
    ∃ len n, 4 ≤ n ∧ t = (instrPlan (instrOf [b0, b1, b2, b3])).act.run (s.fetched len (opcodeFetches b0 b1) n) := by
  rw [exec_eq_plan, Plan.run_eq, fetches_instrOf] at h
  exact ⟨_, _, Nat.le_add_left_of_le (four_le_t_instrOf b0 b1 b2 b3), (Host.Outcome.next.inj h).symm⟩

/-- An opcode byte is its three fields (R131). -/
theorem opcode_fields (op : Byte) : opcode (opX op) (opY op) (opZ op) = op := by
  revert op; decide

/-- The forms that write a part of the control state. -/
def Control.Names : Control → Form → Prop
  | .none, _ => True
  | .ldIA, form => ∃ n1 n2, form = .ed 0x47 n1 n2
  | .ldRA, form => ∃ n1 n2, form = .ed 0x4F n1 n2
  | .di, form => ∃ n1 n2, form = .main 0xF3 n1 n2
  | .ei, form => ∃ n1 n2, form = .main 0xFB n1 n2
  | .halt, form => ∃ n1 n2, form = .main 0x76 n1 n2
  | .exAf, form => ∃ n1 n2, form = .main 0x08 n1 n2
  | .exx, form => ∃ n1 n2, form = .main 0xD9 n1 n2
  | .ret, form => ∃ y n1 n2, form = .ed (opcode 1 y 5) n1 n2
  | .im, form => ∃ y n1 n2, form = .ed (opcode 1 y 6) n1 n2

/-- A form that writes a part of the control state is one of those named. -/
theorem Form.control_names (form : Form) : form.control.Names form := by
  cases form with
  | main op n1 n2 =>
    simp only [Form.control]
    split
    next h => exact ⟨n1, n2, h ▸ rfl⟩
    split
    next h => exact ⟨n1, n2, h ▸ rfl⟩
    split
    next h => exact ⟨n1, n2, h ▸ rfl⟩
    split
    next h => exact ⟨n1, n2, h ▸ rfl⟩
    split
    next h => exact ⟨n1, n2, h ▸ rfl⟩
    trivial
  | ed op n1 n2 =>
    simp only [Form.control]
    split
    next h => exact ⟨n1, n2, h ▸ rfl⟩
    split
    next h => exact ⟨n1, n2, h ▸ rfl⟩
    split
    next h => exact ⟨opY op, n1, n2, by rw [← h.1, ← h.2, opcode_fields]⟩
    split
    next h => exact ⟨opY op, n1, n2, by rw [← h.1, ← h.2, opcode_fields]⟩
    trivial
  | cb | index | indexCb | alone => trivial

/-- The form names the part of the control state that the decoded operation writes. -/
theorem names_of_act_eq {b0 b1 b2 b3 : Byte} {act : Act} (h : (instrPlan (instrOf [b0, b1, b2, b3])).act = act) :
    act.control.Names (formOf b0 b1 b2 b3) := by
  rw [← h, control_instrOf]
  exact Form.control_names _

/-- Settles O40: the decoded operation writes F only where the form does (`writesF_instrOf`). -/
theorem flagFrame : Obligations.FlagFrame := by
  intro b0 b1 b2 b3 s t hf h
  obtain ⟨len, n, -, rfl⟩ := exec_instrOf h
  exact act_run_f _ _ ((writesF_instrOf b0 b1 b2 b3).trans hf)

/-- Settles O41: an operation that changes a part of the control state is one of the few that write it (Laws/Acts.lean), and
the form names those (`names_of_act_eq`). -/
theorem controlStateFrame : Obligations.ControlStateFrame := by
  intro b0 b1 b2 b3 s t h
  obtain ⟨len, n, -, rfl⟩ := exec_instrOf h
  have names {act : Act} := @names_of_act_eq b0 b1 b2 b3 act
  refine ⟨fun hi => ?_, fun hr => ?_, fun h1 => ?_, fun h2 => ?_, fun him => ?_, fun hh => ?_, fun hd => ?_, fun hs => ?_,
    act_run_intPending _ _, act_run_intVector _ _, act_run_nmiPending _ _, act_run_c7Latch _ _, act_run_params _ _⟩ <;>
    refine Classical.byContradiction fun hn => ?_
  · exact hi (act_run_i _ _ fun e => hn (names e))
  · refine hr ?_
    rw [act_run_r _ _ fun e => hn (names e), State.fetched_r, bumpR_bit7]
  · exact h1 (act_run_iff1 _ _ (fun e => hn (.inl (names e))) (fun e => hn (.inr (.inl (names e))))
      (fun e => hn (.inr (.inr (names e)))) (fun e => hn (.inr (.inr (names e)))))
  · exact h2 (act_run_iff2 _ _ (fun e => hn (.inl (names e))) (fun e => hn (.inr (names e))))
  · exact him (act_run_im _ _ fun m e => hn (names e))
  · exact hh (act_run_halted _ _ fun e => hn (names e))
  · exact hd (act_run_iffDelay _ _ fun e => hn (names e))
  · exact hs (act_run_shadow _ _ (fun e => hn (.inl (names e))) (fun e => hn (.inr (names e))))

/-! ## What a step can do to memory, the store and the counter -/

/-- From one state to another whose memory, SD device, files and parameters are the same, and whose T-states are no fewer. -/
structure State.Quiet (s t : State) : Prop where
  cyc    : s.cyc ≤ t.cyc
  mem    : t.mem = s.mem
  sd     : t.sd = s.sd
  files  : t.files = s.files
  params : t.params = s.params

/-- The states that quiet changes, stores and port accesses lead to: all that an operation, an acceptance or the scheduler
does (`act_run_reaches`, `step_reaches`). -/
inductive State.Reaches (s : State) : State → Prop
  | start : s.Reaches s
  | quiet {t u : State} : s.Reaches t → t.Quiet u → s.Reaches u
  | store {t : State} (a : Word) (v : Byte) : s.Reaches t → s.Reaches (t.writeMem a v)
  | portIn {t : State} (p : Word) : s.Reaches t → s.Reaches (t.portIn p).2
  | portOut {t : State} (p : Word) (v : Byte) : s.Reaches t → s.Reaches (t.portOut p v)

namespace State.Reaches
variable {s t u : State}

/-- What is reached from a state reached is reached. -/
theorem trans (h : s.Reaches t) (h' : t.Reaches u) : s.Reaches u := by
  induction h' with
  | start => exact h
  | quiet _ hq ih => exact ih.quiet hq
  | store a v _ ih => exact ih.store a v
  | portIn p _ ih => exact ih.portIn p
  | portOut p v _ ih => exact ih.portOut p v

/-! The model's named operations, each as the constructors it is made of. -/

theorem fetched (h : s.Reaches t) (len m1 n : Nat) : s.Reaches (t.fetched len m1 n) :=
  h.quiet ⟨Nat.le_add_right _ _, rfl, rfl, rfl, rfl⟩

theorem setReg8 (h : s.Reaches t) (r : Reg8) (v : Byte) : s.Reaches (t.setReg8 r v) :=
  h.quiet (by constructor <;> simp)

theorem setReg16 (h : s.Reaches t) (r : Reg16) (v : Word) : s.Reaches (t.setReg16 r v) :=
  h.quiet (by constructor <;> simp)

theorem writeLoc (h : s.Reaches t) (l : Loc) (v : Byte) : s.Reaches (t.writeLoc l v) := by
  cases l with
  | reg r => exact h.setReg8 r v
  | mem m => exact h.store _ v

theorem copyTo (h : s.Reaches t) (c : Option Reg8) (v : Byte) : s.Reaches (t.copyTo c v) := by
  cases c with
  | none => exact h
  | some r => exact h.setReg8 r v

theorem latch (h : s.Reaches t) (l : Loc) : s.Reaches (l.latch t) := h.quiet (by constructor <;> simp)

theorem srcLatch (h : s.Reaches t) (src : Src) : s.Reaches (src.latch t) := h.quiet (by constructor <;> simp)

theorem writeMem16 (h : s.Reaches t) (a v : Word) : s.Reaches (t.writeMem16 a v) := (h.store _ _).store _ _

theorem setSp (h : s.Reaches t) (v : Word) : s.Reaches (t.setSp v) := h.quiet ⟨Nat.le_refl _, rfl, rfl, rfl, rfl⟩
theorem setPc (h : s.Reaches t) (v : Word) : s.Reaches (t.setPc v) := h.quiet ⟨Nat.le_refl _, rfl, rfl, rfl, rfl⟩
theorem setWz (h : s.Reaches t) (v : Word) : s.Reaches (t.setWz v) := h.quiet ⟨Nat.le_refl _, rfl, rfl, rfl, rfl⟩
theorem setF (h : s.Reaches t) (v : Byte) : s.Reaches (t.setF v) := h.quiet ⟨Nat.le_refl _, rfl, rfl, rfl, rfl⟩
theorem setA (h : s.Reaches t) (v : Byte) : s.Reaches (t.setA v) := h.quiet ⟨Nat.le_refl _, rfl, rfl, rfl, rfl⟩
theorem setB (h : s.Reaches t) (v : Byte) : s.Reaches (t.setB v) := h.quiet ⟨Nat.le_refl _, rfl, rfl, rfl, rfl⟩
theorem setHl (h : s.Reaches t) (v : Word) : s.Reaches (t.setHl v) := h.quiet ⟨Nat.le_refl _, rfl, rfl, rfl, rfl⟩
theorem setBc (h : s.Reaches t) (v : Word) : s.Reaches (t.setBc v) := h.quiet ⟨Nat.le_refl _, rfl, rfl, rfl, rfl⟩
theorem setDe (h : s.Reaches t) (v : Word) : s.Reaches (t.setDe v) := h.quiet ⟨Nat.le_refl _, rfl, rfl, rfl, rfl⟩

theorem push16 (h : s.Reaches t) (v : Word) : s.Reaches (t.push16 v) := (((h.setSp _).store _ _).setSp _).store _ _

theorem enterAt (h : s.Reaches t) (a : Word) : s.Reaches (t.enterAt a) := ((h.push16 _).setPc _).setWz _

theorem addCyc (h : s.Reaches t) (n : Nat) : s.Reaches (t.addCyc n) := h.quiet ⟨Nat.le_add_right _ _, rfl, rfl, rfl, rfl⟩

theorem jr (h : s.Reaches t) (e : Byte) : s.Reaches (jr e t) := (h.setPc _).setWz _

theorem returnToCaller (h : s.Reaches t) : s.Reaches t.returnToCaller := ((h.setSp _).setPc _).setWz _

theorem repeatBlock (h : s.Reaches t) : s.Reaches t.repeatBlock := h.quiet ⟨Nat.le_add_right _ _, rfl, rfl, rfl, rfl⟩

theorem repeatBlockWz (h : s.Reaches t) : s.Reaches t.repeatBlockWz := h.repeatBlock.setWz _

/-! One iteration of each block instruction. -/

theorem blockLoad (dir : Dir) : s.Reaches (blockLoad dir s) :=
  ((((start.store _ _).setHl _).setDe _).setBc _).setF _

theorem blockCompare (dir : Dir) : s.Reaches (blockCompare dir s) := (((start.setHl _).setBc _).setWz _).setF _

theorem blockIn (dir : Dir) : s.Reaches (blockIn dir s) :=
  (((((start.portIn _).setWz _).store _ _).setB _).setHl _).setF _

theorem blockOut (dir : Dir) : s.Reaches (blockOut dir s) :=
  ((((start.setB _).portOut _ _).setWz _).setHl _).setF _

/-- The counter does not go back (R48). -/
theorem cyc_le (h : s.Reaches t) : s.cyc ≤ t.cyc := by
  induction h with
  | start => exact Nat.le_refl _
  | quiet _ hq ih => exact Nat.le_trans ih hq.cyc
  | store a v _ ih => simpa using ih
  | portIn p _ ih => simpa using ih
  | portOut p v _ ih => simpa using ih

end State.Reaches

open State.Reaches in
/-- Every operation is made of quiet changes, stores and port accesses. -/
theorem act_run_reaches (act : Act) (s : State) : s.Reaches (act.run s) := by
  cases act with
  | ld8 dst src => exact ((start.srcLatch src).latch dst).writeLoc dst _
  | ld16 r | load16 r | inc16 r | dec16 r | pop r => exact start.quiet (by
      constructor <;> simp [Act.run, ld16, load16, inc16, dec16, pop, State.dropped16])
  | storeA => exact (start.store _ _).setWz _
  | store16 nn => exact (start.writeMem16 nn _).setWz _
  | exSp r => exact ((start.writeMem16 _ _).setReg16 r _).setWz _
  | push => exact start.push16 _
  | alu op src => exact ((start.srcLatch src).setA _).setF _
  | incLoc m | decLoc m => exact ((start.latch m).writeLoc m _).setF _
  | add16 dst => exact ((start.setReg16 dst _).setF _).setWz _
  | rot op m => exact (start.writeLoc m _).setF _
  | rld | rrd => exact (((start.store _ _).setA _).setF _).setWz _
  | rotIndexed op xy d copy => exact (((start.setWz _).store _ _).copyTo copy _).setF _
  | bitMem b m => exact (start.latch (.mem m)).setF _
  | resLoc b m | setLoc b m => exact start.writeLoc m _
  | resIndexed b xy d copy | setIndexed b xy d copy => exact ((start.setWz _).store _ _).copyTo copy _
  | jpIf cc nn =>
    simp only [Act.run, jpIf]
    split
    · exact (start.setWz nn).setPc nn
    · exact start.setWz nn
  | jr e => exact start.jr e
  | jrIf cc e =>
    simp only [Act.run, jrIf]
    split
    · exact (start.jr e).addCyc 5
    · exact start
  | djnz e =>
    simp only [Act.run, djnz]
    split
    · exact start.setB _
    · exact ((start.setB _).jr e).addCyc 5
  | ret => exact start.returnToCaller
  | retIf cc =>
    simp only [Act.run, retIf]
    split
    · exact start.returnToCaller.addCyc 6
    · exact start
  | call nn | rst nn => exact start.enterAt nn
  | callIf cc nn =>
    simp only [Act.run, callIf]
    split
    · exact (start.enterAt nn).addCyc 7
    · exact start.setWz nn
  | blockLoad dir => exact .blockLoad dir
  | blockCompare dir => exact .blockCompare dir
  | blockIn dir => exact .blockIn dir
  | blockOut dir => exact .blockOut dir
  | blockLoadRepeat dir =>
    simp only [Act.run, blockLoadRepeat]
    split
    · exact .blockLoad dir
    · exact (State.Reaches.blockLoad dir).repeatBlockWz
  | blockCompareRepeat dir =>
    simp only [Act.run, blockCompareRepeat]
    split
    · exact .blockCompare dir
    · exact (State.Reaches.blockCompare dir).repeatBlockWz
  | blockInRepeat dir =>
    simp only [Act.run, blockInRepeat]
    split
    · exact .blockIn dir
    · exact (State.Reaches.blockIn dir).repeatBlock
  | blockOutRepeat dir =>
    simp only [Act.run, blockOutRepeat]
    split
    · exact .blockOut dir
    · exact (State.Reaches.blockOut dir).repeatBlock
  | inA => exact ((start.portIn _).setA _).setWz _
  | outA | outReg | outZero => exact (start.portOut _ _).setWz _
  | inC dst =>
    cases dst with
    | none => exact ((start.portIn _).setWz _).setF _
    | some r => exact (((start.portIn _).setReg8 r _).setWz _).setF _
  | _ => exact start.quiet ⟨Nat.le_refl _, rfl, rfl, rfl, rfl⟩

/-- An instruction is such an operation, and takes at least 4 T-states. -/
theorem exec_reaches {b0 b1 b2 b3 : Byte} {s t : State} (h : exec (instrOf [b0, b1, b2, b3]) s = .next t) :
    s.Reaches t ∧ s.cyc + 4 ≤ t.cyc := by
  obtain ⟨len, n, hn, rfl⟩ := exec_instrOf h
  have hact := act_run_reaches (instrPlan (instrOf [b0, b1, b2, b3])).act (s.fetched len (opcodeFetches b0 b1) n)
  have hcyc := hact.cyc_le
  rw [State.fetched_cyc] at hcyc
  exact ⟨(State.Reaches.start.fetched ..).trans hact, by omega⟩

/-- The EI delay is a register of the CPU. -/
theorem State.retire_quiet (s : State) (delay : Fin 2) (eiDone : Bool) : s.Quiet (s.retire delay eiDone) := by
  unfold State.retire
  split
  · exact ⟨Nat.le_refl _, rfl, rfl, rfl, rfl⟩
  · split <;> exact ⟨Nat.le_refl _, rfl, rfl, rfl, rfl⟩

/-- A chain of DD and FD bytes and the instruction after it. -/
theorem runInstruction_reaches {delay : Fin 2} {fuel : Nat} {s t : State} (h : runInstruction delay fuel s = .next t) :
    s.Reaches t ∧ s.cyc + 4 ≤ t.cyc := by
  induction fuel generalizing s with
  | zero => simp [runInstruction] at h
  | succ fuel ih =>
    rw [runInstruction] at h
    split at h
    case h_1 u hu =>
      obtain ⟨hreach, hcyc⟩ := exec_reaches hu
      split at h
      · obtain ⟨hreach', hcyc'⟩ := ih h
        exact ⟨hreach.trans hreach', by omega⟩
      · cases h
        have hq := u.retire_quiet delay s.nextIsEi
        exact ⟨hreach.quiet hq, Nat.le_trans hcyc hq.cyc⟩
    all_goals cases h

/-- One instruction or one halted cycle, with the EI delay. -/
theorem State.instructionStep_reaches {s t : State} (h : s.instructionStep = .next t) :
    s.Reaches t ∧ s.cyc + 4 ≤ t.cyc := by
  unfold State.instructionStep at h
  split at h
  · cases h
    have hq := s.haltedCycle.retire_quiet s.iffDelay false
    exact ⟨(State.Reaches.start.fetched 0 1 4).quiet hq, hq.cyc⟩
  · exact runInstruction_reaches h

open State.Reaches in
/-- The boundary enters a handler or does nothing. -/
theorem State.boundary_reaches {s t : State} (h : s.boundary = .next t) : s.Reaches t := by
  have enter {u : State} {a : Word} {n : Nat} (hq : s.Quiet u) : s.Reaches ((u.enterAt a).addCyc n) :=
    ((start.quiet hq).enterAt a).addCyc n
  obtain ⟨-, hb⟩ | ⟨-, -, -, -, hb⟩ | hb := s.boundary_cases
  · cases hb.symm.trans h
    exact enter ⟨Nat.le_refl _, rfl, rfl, rfl, rfl⟩
  · rw [hb] at h
    simp only [State.acceptInt] at h
    split at h
    · split at h <;> cases h
      exact enter ⟨Nat.le_refl _, rfl, rfl, rfl, rfl⟩
    · cases h
      exact enter ⟨Nat.le_refl _, rfl, rfl, rfl, rfl⟩
    · cases h
      exact enter ⟨Nat.le_refl _, rfl, rfl, rfl, rfl⟩
  · cases hb.symm.trans h
    exact .start

/-- C7 raises a request or writes its latch. -/
theorem State.c7_quiet (s : State) : s.Quiet s.c7 := by
  have raise (v : Byte) : s.Quiet { s.raiseInt v with c7Latch := true } := by
    unfold State.raiseInt
    split <;> exact ⟨Nat.le_refl _, rfl, rfl, rfl, rfl⟩
  unfold State.c7
  split
  · exact ⟨Nat.le_refl _, rfl, rfl, rfl, rfl⟩
  · split
    · exact ⟨Nat.le_refl _, rfl, rfl, rfl, rfl⟩
    · split
      · exact raise 0xFF
      · exact ⟨Nat.le_refl _, rfl, rfl, rfl, rfl⟩

/-- All that a step does, and the T-states it takes at least. -/
theorem step_reaches {s t : State} (h : step s = .next t) : s.Reaches t ∧ s.cyc + 4 ≤ t.cyc := by
  unfold step machineStep at h
  split at h
  case h_1 u hu =>
    obtain ⟨hreach, hcyc⟩ := State.instructionStep_reaches hu
    unfold State.endStep at h
    split at h
    case h_1 v hv =>
      cases h
      have hend := (State.boundary_reaches hv).quiet v.c7_quiet
      exact ⟨hreach.trans hend, Nat.le_trans hcyc hend.cyc_le⟩
    all_goals cases h
  all_goals cases h

/-- Settles O60: the fetch of the instruction takes at least 4 T-states and nothing takes T-states back (`step_reaches`);
the fetches of an instruction are those of its bytes, and only LD R,A writes R after them. -/
theorem countersGrow : Obligations.CountersGrow := by
  refine ⟨fun s t h => (step_reaches h).2, fun r n => ⟨bumpR_bit7 r n, bumpR_mod r n⟩, ?_⟩
  intro b0 b1 b2 b3 s hform
  obtain ⟨t, h⟩ := exec_next (instrOf [b0, b1, b2, b3]) s
  refine ⟨t, h, ?_⟩
  obtain ⟨len, n, -, rfl⟩ := exec_instrOf h
  refine act_run_r _ _ fun e => ?_
  obtain ⟨n1, n2, he⟩ := names_of_act_eq e
  exact hform n1 n2 he

/-! ## The file store (60_exceptions.md R575) -/

namespace FileStore

/-- A file put in the store is found there. -/
theorem find?_put_same (files : FileStore) (name : FileName) (bs : List Byte) :
    FileStore.find? (FileStore.put files name bs) name = some bs := by
  induction files with
  | nil => simp [FileStore.put, FileStore.find?]
  | cons e rest ih =>
    by_cases h : e.1 = name <;> simp [FileStore.put, FileStore.find?, h, ih]

/-- A file put in the store is there. -/
@[simp] theorem has_put_same (files : FileStore) (name : FileName) (bs : List Byte) :
    FileStore.has (FileStore.put files name bs) name = true := by
  simp [FileStore.has, find?_put_same]

/-- A file put in the store has the bytes given. -/
@[simp] theorem bytes_put_same (files : FileStore) (name : FileName) (bs : List Byte) :
    FileStore.bytes (FileStore.put files name bs) name = bs := by
  simp [FileStore.bytes, find?_put_same]

/-- A new name comes last, an old one stays in its place. -/
theorem names_put (files : FileStore) (name : FileName) (bs : List Byte) :
    FileStore.names (FileStore.put files name bs) =
      if name ∈ FileStore.names files then FileStore.names files else FileStore.names files ++ [name] := by
  induction files with
  | nil => rfl
  | cons e rest ih =>
    simp only [FileStore.names] at ih ⊢
    by_cases h : e.1 = name
    · simp [FileStore.put, h]
    · by_cases hm : name ∈ List.map Prod.fst rest <;> simp [FileStore.put, h, Ne.symm h, ih, hm]

/-- A file put in a finite map leaves one. -/
theorem wf_put {files : FileStore} (h : FileStore.wf files) (name : FileName) (bs : List Byte) :
    FileStore.wf (FileStore.put files name bs) := by
  unfold FileStore.wf
  rw [names_put]
  split
  case isTrue => exact h
  case isFalse hn =>
    refine List.nodup_append.mpr ⟨h, List.pairwise_singleton _ _, fun a ha b hb hab => hn ?_⟩
    rwa [← List.mem_singleton.mp hb, ← hab]

end FileStore

/-- A write of a byte puts the file back with the byte after the position reached. -/
theorem Storage.writeByte_some {p : StoragePolicy} {files files' : FileStore} {h : Handle} {position : Nat} {v : Byte}
    (hw : Storage.writeByte p files h position v = some files') :
    ∃ bs, files' = FileStore.put files h.name bs ∧ position + 1 ≤ bs.length := by
  simp only [Storage.writeByte] at hw
  split at hw
  · cases hw
  · split at hw
    next hlt =>
      cases hw
      exact ⟨_, rfl, Nat.lt_of_lt_of_eq hlt List.length_set.symm⟩
    · split at hw
      next heq =>
        cases hw
        exact ⟨_, rfl, Nat.le_of_eq (by rw [heq, List.length_append, List.length_singleton])⟩
      · cases hw

/-- A name byte is taken only while the buffer has room. -/
theorem Sd.pushName_fits {cap : Nat} {d : Sd} (h : d.fname.length ≤ cap - 1) (v : Byte) :
    (Sd.pushName cap d v).fname.length ≤ cap - 1 := by
  unfold Sd.pushName
  split
  · exact h
  · have hname : (if d.fnameFinal then [] else d.fname).length ≤ cap - 1 := by
      split
      · exact Nat.zero_le _
      · exact h
    dsimp only
    generalize (if d.fnameFinal then [] else d.fname) = name at hname ⊢
    split
    · simpa using ‹_›
    · exact hname

/-! ## The invariant -/

namespace State.Inv
variable {s t : State}

/-- The invariant is about memory, the SD device, the files and the parameters. -/
theorem congr (h : s.Inv) (hmem : t.mem = s.mem) (hsd : t.sd = s.sd) (hfiles : t.files = s.files)
    (hparams : t.params = s.params) : t.Inv := by
  obtain ⟨hm, hi, hp, hf, hname, hone, hdir, hfile⟩ := h
  constructor
  · rwa [hmem, hparams]
  · rwa [hparams]
  · rwa [hparams]
  · rwa [hfiles]
  · constructor
    · rwa [hsd, hparams]
    · rwa [hsd]
    · rwa [hsd]
    · rwa [hsd, hfiles]

/-! Each constructor of `State.Reaches` keeps the invariant; a port access does so device by device. -/

theorem quiet (h : s.Inv) (hq : s.Quiet t) : t.Inv := h.congr hq.mem hq.sd hq.files hq.params

theorem store (h : s.Inv) (a : Word) (v : Byte) : (s.writeMem a v).Inv := by
  have hmem := State.writeMem_wf h.mem_wf a v
  rw [State.writeMem_eq] at hmem ⊢
  obtain ⟨hname, hone, hdir, hfile⟩ := h.sd_inv
  exact ⟨hmem, h.initial, h.params, h.files_wf, ⟨hname, hone, hdir, hfile⟩⟩

/-- A change of the SD device that its invariant survives. -/
theorem setSd (h : s.Inv) {d : Sd} (hd : (s.setSd d).SdInv) : (s.setSd d).Inv :=
  ⟨h.mem_wf, h.initial, h.params, h.files_wf, hd⟩

theorem takeQueued (h : s.Inv) : s.takeQueued.2.Inv := by
  unfold State.takeQueued
  split <;> exact h.congr rfl rfl rfl rfl

/-- A data read moves the position over a byte of the file, shortens the listing, or closes what is at its end. -/
theorem sdDataRead (h : s.Inv) : s.sdDataRead.2.Inv := by
  obtain ⟨hname, hone, hdir, hfile⟩ := h.sd_inv
  unfold State.sdDataRead
  split
  case h_1 f hf =>
    split
    case h_1 b hb =>
      obtain ⟨hhas, -, hmode⟩ := hfile f hf
      have hlt : f.position < (FileStore.bytes s.files f.name).length := by
        split at hb
        · exact (List.getElem?_eq_some_iff.mp hb).1
        · cases hb
      refine h.setSd ⟨hname, .inr (hone.resolve_left (by simp [hf])), hdir, ?_⟩
      rintro _ ⟨⟩
      exact ⟨hhas, hlt, hmode⟩
    case h_2 => exact h.setSd ⟨hname, .inl rfl, hdir, nofun⟩
  case h_2 hf =>
    split
    case h_1 b rest _ =>
      refine h.setSd ⟨hname, .inl hf, ?_, hfile⟩
      cases rest <;> simp
    case h_2 => exact h.setSd ⟨hname, .inl hf, nofun, hfile⟩
    case h_3 => exact h

/-- A port read keeps the invariant. -/
theorem portIn (h : s.Inv) (p : Word) : (s.portIn p).2.Inv := by
  unfold State.portIn
  split
  · exact (h.congr (t := s.touchUsart) rfl rfl rfl rfl).takeQueued
  · exact h.congr rfl rfl rfl rfl
  · exact h
  · exact h.sdDataRead
  · exact h
  · exact h.takeQueued
  all_goals exact h

/-- A data write puts the file back, which stays in the store, and moves the position to its end at most. -/
theorem sdDataWrite (h : s.Inv) (v : Byte) : (s.sdDataWrite v).Inv := by
  obtain ⟨hname, hone, hdir, hfile⟩ := h.sd_inv
  unfold State.sdDataWrite
  split
  case h_2 => exact h
  case h_1 f hf =>
    split
    case isFalse => exact h
    case isTrue =>
      split
      case h_2 => exact h
      case h_1 files hw =>
        obtain ⟨bs, rfl, hle⟩ := Storage.writeByte_some hw
        refine ⟨h.mem_wf, h.initial, h.params, FileStore.wf_put h.files_wf _ _,
          ⟨hname, .inr (hone.resolve_left (by simp [hf])), hdir, ?_⟩⟩
        rintro _ ⟨⟩
        exact ⟨FileStore.has_put_same .., by simpa using hle, (hfile f hf).2.2⟩

theorem pushName (h : s.Inv) (v : Byte) : (s.setSd (Sd.pushName s.params.sd.fnameCap s.sd v)).Inv := by
  obtain ⟨hname, hone, hdir, hfile⟩ := h.sd_inv
  refine h.setSd ⟨Sd.pushName_fits hname v, ?_, ?_, ?_⟩ <;> simp only [setSd_sd, Sd.pushName] <;> split
  all_goals assumption

/-- An open leaves the file open that its answer gives, or nothing. -/
theorem sdOpened (h : s.Inv) (opening : Opening) {answer : Option (FileStore × Nat)}
    (ha : ∀ files position, answer = some (files, position) → FileStore.wf files ∧
      FileStore.has files s.sd.fname = true ∧ position ≤ (FileStore.bytes files s.sd.fname).length) :
    (s.sdOpened opening answer).Inv := by
  have hname := h.sd_inv.name_fits
  unfold State.sdOpened
  split
  case h_1 files position =>
    obtain ⟨hwf, hhas, hle⟩ := ha files position rfl
    refine ⟨h.mem_wf, h.initial, h.params, hwf, ⟨hname, .inr rfl, nofun, ?_⟩⟩
    rintro _ ⟨⟩
    exact ⟨hhas, hle, rfl⟩
  case h_2 => exact h.setSd ⟨hname, .inl rfl, nofun, nofun⟩

/-- An open of a file that must be there starts at its first byte. -/
theorem sdOpened_present (h : s.Inv) (opening : Opening) {allowed : Bool}
    (ha : allowed = true → FileStore.has s.files s.sd.fname = true) :
    (s.sdOpened opening (if allowed then some (s.files, 0) else none)).Inv := by
  refine h.sdOpened opening fun files position hsome => ?_
  split at hsome <;> cases hsome
  exact ⟨h.files_wf, ha ‹_›, Nat.zero_le _⟩

theorem sdCreate (h : s.Inv) : s.sdCreate.Inv := by
  refine h.sdOpened _ fun files position hsome => ?_
  simp only [Storage.openWriteTrunc] at hsome
  split at hsome <;> cases hsome
  exact ⟨FileStore.wf_put h.files_wf _ _, FileStore.has_put_same .., Nat.zero_le _⟩

theorem sdOpenAppend (h : s.Inv) : s.sdOpenAppend.Inv := by
  refine h.sdOpened _ fun files position hsome => ?_
  simp only [Storage.openAppend] at hsome
  split at hsome <;> cases hsome
  split
  next hhas => exact ⟨h.files_wf, hhas, Nat.le_refl _⟩
  · exact ⟨FileStore.wf_put h.files_wf _ _, FileStore.has_put_same .., Nat.le_refl _⟩

/-- A seek stays within the file or closes it. -/
theorem sdSeek (h : s.Inv) (offset : Nat) : (s.sdSeek offset).Inv := by
  obtain ⟨hname, hone, hdir, hfile⟩ := h.sd_inv
  unfold State.sdSeek
  split
  case h_1 f hf =>
    obtain ⟨hhas, -, hmode⟩ := hfile f hf
    split
    case isTrue hs =>
      simp only [Storage.seek, Bool.and_eq_true, decide_eq_true_eq] at hs
      refine h.setSd ⟨hname, .inr (hone.resolve_left (by simp [hf])), hdir, ?_⟩
      rintro _ ⟨⟩
      exact ⟨hhas, hs.1, hmode⟩
    case isFalse => exact h.setSd ⟨hname, .inl rfl, hdir, nofun⟩
  case h_2 => exact h.setSd ⟨hname, hone, hdir, hfile⟩

theorem sdListDirectory (h : s.Inv) : s.sdListDirectory.Inv := by
  refine h.setSd ⟨h.sd_inv.name_fits, .inl rfl, ?_, nofun⟩
  simp only [setSd_sd]
  split <;> simp_all

/-- A command keeps the invariant. -/
theorem sdCommand (h : s.Inv) (v : Byte) : (s.sdCommand v).Inv := by
  unfold State.sdCommand
  split
  · exact h.sdOpened_present .read fun ha => (Bool.and_eq_true_iff.mp ha).1
  · exact h.sdCreate
  · exact h.sdOpenAppend
  · exact h.sdSeek 0
  · exact h.setSd ⟨h.sd_inv.name_fits, .inl rfl, nofun, nofun⟩
  · exact h.sdListDirectory
  · exact h.sdOpened_present .readWrite fun ha => (Bool.and_eq_true_iff.mp ha).1
  · exact h.sdSeek _
  · exact h

/-- A port write keeps the invariant. -/
theorem portOut (h : s.Inv) (p : Word) (v : Byte) : (s.portOut p v).Inv := by
  obtain ⟨hname, hone, hdir, hfile⟩ := h.sd_inv
  unfold State.portOut
  split
  · exact h.congr rfl rfl rfl rfl
  · exact h.congr rfl rfl rfl rfl
  · exact h.sdCommand v
  · exact h.sdDataWrite v
  · exact h.pushName v
  · exact h.setSd ⟨hname, hone, hdir, hfile⟩
  · exact h.setSd ⟨hname, hone, hdir, hfile⟩
  · exact h.congr rfl rfl rfl rfl
  · exact h.congr rfl rfl rfl rfl
  all_goals exact h

/-- The invariant holds wherever quiet changes, stores and port accesses lead. -/
theorem of_reaches (h : s.Inv) (hr : s.Reaches t) : t.Inv := by
  induction hr with
  | start => exact h
  | quiet _ hq ih => exact ih.quiet hq
  | store a v _ ih => exact ih.store a v
  | portIn p _ ih => exact ih.portIn p
  | portOut p v _ ih => exact ih.portOut p v

end State.Inv

/-- Settles O58: a step is made of quiet changes, stores and port accesses (`step_reaches`), and each of these keeps the
invariant. -/
theorem stepKeepsTheInvariant : Obligations.StepKeepsTheInvariant :=
  fun _ _ h hstep => h.of_reaches (step_reaches hstep).1

end Sys2Proof.Machine

/-!
The statements about memory and ports (20_memory.md): what every change that a step is made of leaves of the ROM, which
bytes an instruction stores to and whether it reaches a device, read off its operation and off its bytes.
-/

namespace Sys2Proof.Machine

/-! ## The ROM (20_memory.md R92, R93) -/

/-- The parameters and every byte below the ROM ceiling outlast quiet changes, stores and port accesses. -/
theorem State.Reaches.keeps_rom {s t : State} (h : s.Reaches t) :
    t.params = s.params ∧ ∀ a : Word, s.inRom a = true → t.readMem a = s.readMem a := by
  have same {t u : State} (hmem : u.mem = t.mem) (hparams : u.params = t.params)
      (ih : t.params = s.params ∧ ∀ a : Word, s.inRom a = true → t.readMem a = s.readMem a) :
      u.params = s.params ∧ ∀ a : Word, s.inRom a = true → u.readMem a = s.readMem a :=
    ⟨hparams.trans ih.1, fun a ha => (State.readMem_congr hmem hparams a).trans (ih.2 a ha)⟩
  induction h with
  | start => exact ⟨rfl, fun _ _ => rfl⟩
  | quiet _ hq ih => exact same hq.mem hq.params ih
  | portIn p _ ih => exact same (State.portIn_mem _ p) (State.portIn_params _ p) ih
  | portOut p v _ ih => exact same (State.portOut_mem _ p v) (State.portOut_params _ p v) ih
  | @store t b v _ ih =>
    obtain ⟨hparams, hread⟩ := ih
    refine ⟨(t.writeMem_params b v).trans hparams, fun a ha => ?_⟩
    have hrom : t.inRom a = true := by rwa [State.inRom, hparams]
    exact (t.readMem_writeMem_rom hrom b v).trans (hread a ha)

/-- Settles O59: a step is made of quiet changes, stores and port accesses (`step_reaches`), and each of these keeps the
parameters and the ROM. -/
theorem romNeverChanges : Obligations.RomNeverChanges := by
  intro s t h
  obtain ⟨hparams, hrom⟩ := (step_reaches h).1.keeps_rom
  exact ⟨hparams, fun a ha => hrom a (decide_eq_true ha)⟩

/-! ## A write, and a push with the pop after it (R92, R97) -/

/-- Settles O38: above the ceiling by the two rules for a read after a write, below it by the rule for a dropped write
(Laws/Memory.lean). -/
theorem memoryWrite : Obligations.MemoryWrite := by
  intro s a b v
  refine ⟨fun ha => ?_, fun ha => s.writeMem_rom (decide_eq_true ha) v⟩
  split
  case isTrue hab =>
    subst hab
    exact State.readMem_writeMem_same (decide_eq_false (Nat.not_lt.mpr ha)) v
  case isFalse hab => exact s.readMem_writeMem_other hab v

/-- What PUSH does, for each pair (41_load16_stack_exchange.md R238). -/
theorem exec_push (p : BitVec 2) (s : State) :
    exec (instrOf [opcode 3 (fieldY p 0) 5]) s = .next (push (rp2Table p) (s.fetched 1 1 11)) := by
  revert p
  exact forall_field2 rfl rfl rfl rfl

/-- What POP does, for each pair (R239). -/
theorem exec_pop (q : BitVec 2) (s : State) :
    exec (instrOf [opcode 3 (fieldY q 0) 1]) s = .next (pop (rp2Table q) (s.fetched 1 1 10)) := by
  revert q
  exact forall_field2 rfl rfl rfl rfl

/-- Of the pairs of PUSH and POP none is SP (30_encoding.md R133). -/
theorem rp2Table_ne_sp (p : BitVec 2) : rp2Table p ≠ .sp := by
  revert p; decide

/-- Of the 16-bit registers SP alone holds SP. -/
theorem State.setReg16_sp (s : State) {r : Reg16} (h : r ≠ .sp) (v : Word) : (s.setReg16 r v).sp = s.sp := by
  cases r
  case sp => exact absurd rfl h
  all_goals rfl

/-- Settles O8: the word popped is the word pushed (`State.top16_push16`), and SP goes down by 2 and up by 2. -/
theorem pushThenPopRestores : Obligations.PushThenPopRestores := by
  intro p q s t u h1 h2 hpush hpop
  rw [exec_push] at hpush
  cases hpush
  rw [exec_pop] at hpop
  cases hpop
  constructor
  · exact (State.reg16_setReg16_same ..).trans ((s.fetched 1 1 11).top16_push16 h1 h2 _)
  · rw [pop, State.setReg16_sp _ (rp2Table_ne_sp q), push]
    simp only [State.dropped16, State.setSp_sp, State.fetched_sp, State.push16_sp, BitVec.sub_add_cancel]

/-! ## What an operation stores to and whether it reaches a device -/

/-- The address a write to a location stores to. -/
def Loc.stores (l : Loc) (s : State) : List Word :=
  match l with
  | .reg _ => []
  | .mem m => [m.addr s]

/-- The addresses a call on a condition stores to. -/
def Cond.stores (cc : Cond) (s : State) : List Word := if cc.holds s.f then s.pushedAt else []

/-- The addresses an operation may store to. -/
def Act.stores (act : Act) (s : State) : List Word :=
  match act with
  | .ld8 m _ | .incLoc m | .decLoc m | .rot _ m | .resLoc _ m | .setLoc _ m => m.stores s
  | .storeA m => [m.addr s]
  | .rotIndexed _ xy d _ | .resIndexed _ xy d _ | .setIndexed _ xy d _ => [s.ea xy d]
  | .rld | .rrd | .blockIn _ | .blockInRepeat _ => [s.hl]
  | .blockLoad _ | .blockLoadRepeat _ => [s.de]
  | .store16 nn _ => [nn, nn + 1]
  | .exSp _ => [s.sp, s.sp + 1]
  | .push _ | .call _ | .rst _ => s.pushedAt
  | .callIf cc _ => cc.stores s
  | _ => []

/-- Whether an operation reads or writes a port. -/
def Act.usesPort : Act → Bool
  | .inA _ | .outA _ | .inC _ | .outReg _ | .outZero => true
  | .blockIn _ | .blockInRepeat _ | .blockOut _ | .blockOutRepeat _ => true
  | _ => false

/-! The addresses are those of the state's 16-bit registers, so neither the fetch nor a write of WZ changes them. -/

section
variable {s t : State} (hmain : t.main = s.main) (hsp : t.sp = s.sp) (hix : t.ix = s.ix) (hiy : t.iy = s.iy)

include hix hiy in
theorem State.xy_congr (xy : XY) : t.xy xy = s.xy xy := by
  cases xy
  · exact hix
  · exact hiy

include hmain hix hiy in
theorem Mem8.addr_congr (m : Mem8) : m.addr t = m.addr s := by
  cases m <;> simp [Mem8.addr, State.hl, State.bc, State.de, State.xy_congr hix hiy, hmain]

include hmain hix hiy in
theorem Loc.stores_congr (l : Loc) : l.stores t = l.stores s := by
  cases l with
  | reg r => rfl
  | mem m => simp [Loc.stores, Mem8.addr_congr hmain hix hiy]

include hmain hsp in
theorem Cond.stores_congr (cc : Cond) : cc.stores t = cc.stores s := by
  rw [Cond.stores, Cond.stores, State.f, State.f, State.pushedAt, State.pushedAt, hmain, hsp]

include hmain hsp hix hiy in
theorem Act.stores_congr (act : Act) : act.stores t = act.stores s := by
  cases act with
  | ld8 m | incLoc m | decLoc m | rot _ m | resLoc _ m | setLoc _ m => exact Loc.stores_congr hmain hix hiy m
  | storeA m => exact congrArg (fun a => [a]) (Mem8.addr_congr hmain hix hiy m)
  | callIf cc => exact Cond.stores_congr hmain hsp cc
  | _ => simp [Act.stores, State.ea, State.hl, State.de, State.pushedAt, State.xy_congr hix hiy, hmain, hsp]

end

section
variable (s : State) {a : Word}

@[simp] theorem State.portIn_readMem (p a : Word) : (s.portIn p).2.readMem a = s.readMem a :=
  State.readMem_congr (s.portIn_mem p) (s.portIn_params p) a

@[simp] theorem State.portOut_readMem (p : Word) (v : Byte) (a : Word) : (s.portOut p v).readMem a = s.readMem a :=
  State.readMem_congr (s.portOut_mem p v) (s.portOut_params p v) a

@[simp] theorem State.copyTo_readMem (c : Option Reg8) (v : Byte) (a : Word) : (s.copyTo c v).readMem a = s.readMem a := by
  cases c with
  | none => rfl
  | some r => exact s.setReg8_readMem r v a

@[simp] theorem State.repeatBlock_readMem (a : Word) : s.repeatBlock.readMem a = s.readMem a := rfl
@[simp] theorem State.repeatBlockWz_readMem (a : Word) : s.repeatBlockWz.readMem a = s.readMem a := rfl

/-- A write to a location leaves every other byte as before. -/
theorem State.readMem_writeLoc_other {l : Loc} (h : a ∉ l.stores s) (v : Byte) :
    (s.writeLoc l v).readMem a = s.readMem a := by
  cases l with
  | reg r => exact s.setReg8_readMem r v a
  | mem m => exact s.readMem_writeMem_other (List.ne_of_not_mem_cons h) v

/-- A write of a word leaves every byte but its two as before. -/
theorem State.readMem_writeMem16_of_not_mem {nn : Word} (h : a ∉ [nn, nn + 1]) (v : Word) :
    (s.writeMem16 nn v).readMem a = s.readMem a :=
  s.readMem_writeMem16_other (List.ne_of_not_mem_cons h) (List.ne_of_not_mem_cons (List.not_mem_of_not_mem_cons h)) v

/-- A push leaves every byte but its two as before. -/
theorem State.readMem_push16_of_not_mem (h : a ∉ s.pushedAt) (v : Word) : (s.push16 v).readMem a = s.readMem a :=
  s.readMem_push16_other (List.ne_of_not_mem_cons h) (List.ne_of_not_mem_cons (List.not_mem_of_not_mem_cons h)) v

/-- LDI and LDD leave every byte but that at DE as before. -/
theorem readMem_blockLoad_other (h : a ≠ s.de) (dir : Dir) : (blockLoad dir s).readMem a = s.readMem a :=
  s.readMem_writeMem_other h _

/-- INI and IND leave every byte but that at HL as before. -/
theorem readMem_blockIn_other (h : a ≠ s.hl) (dir : Dir) : (blockIn dir s).readMem a = s.readMem a :=
  (State.readMem_writeMem_other _ h _).trans (s.portIn_readMem s.portBC a)

@[simp] theorem readMem_blockOut (dir : Dir) (a : Word) : (blockOut dir s).readMem a = s.readMem a :=
  (s.setB _).portOut_readMem _ _ a

end

/-- An operation leaves every byte that it does not store to as before. -/
theorem readMem_act_run (act : Act) (s : State) {a : Word} (h : a ∉ act.stores s) :
    (act.run s).readMem a = s.readMem a := by
  cases act with
  | ld8 dst src =>
    have hdst : dst.stores (dst.latch (src.latch s)) = dst.stores s := Loc.stores_congr (by simp) (by simp) (by simp) dst
    rw [Act.run, ld8, State.readMem_writeLoc_other _ (hdst ▸ h)]
    simp
  | incLoc m | decLoc m =>
    have hm : m.stores (m.latch s) = m.stores s := Loc.stores_congr (by simp) (by simp) (by simp) m
    exact (State.readMem_writeLoc_other _ (hm ▸ h) _).trans (m.latch_readMem s a)
  | rot op m | resLoc b m | setLoc b m => exact s.readMem_writeLoc_other h _
  | storeA m => exact s.readMem_writeMem_other (List.ne_of_not_mem_cons h) _
  | rotIndexed op xy d copy | resIndexed b xy d copy | setIndexed b xy d copy =>
    exact (State.copyTo_readMem ..).trans (State.readMem_writeMem_other _ (List.ne_of_not_mem_cons h) _)
  | rld | rrd => exact s.readMem_writeMem_other (List.ne_of_not_mem_cons h) _
  | store16 nn r => exact s.readMem_writeMem16_of_not_mem h _
  | exSp r => exact (State.setReg16_readMem ..).trans (s.readMem_writeMem16_of_not_mem h _)
  | push | call | rst => exact s.readMem_push16_of_not_mem h _
  | callIf cc nn =>
    simp only [Act.run, callIf]
    split
    next hcc =>
      rw [Act.stores, Cond.stores, if_pos hcc] at h
      exact s.readMem_push16_of_not_mem h _
    · rfl
  | blockLoad dir => exact readMem_blockLoad_other s (List.ne_of_not_mem_cons h) dir
  | blockIn dir => exact readMem_blockIn_other s (List.ne_of_not_mem_cons h) dir
  | blockOut dir => exact readMem_blockOut s dir a
  | blockLoadRepeat dir =>
    have hone := readMem_blockLoad_other s (List.ne_of_not_mem_cons h) dir
    simp only [Act.run, blockLoadRepeat]
    split <;> simp [hone]
  | blockInRepeat dir =>
    have hone := readMem_blockIn_other s (List.ne_of_not_mem_cons h) dir
    simp only [Act.run, blockInRepeat]
    split <;> simp [hone]
  | blockOutRepeat dir =>
    simp only [Act.run, blockOutRepeat]
    split <;> simp
  | jpIf | jrIf | djnz | retIf | blockCompareRepeat =>
    simp only [Act.run, jpIf, jrIf, djnz, retIf, blockCompareRepeat]
    split <;> rfl
  | inC dst =>
    cases dst with
    | none => exact s.portIn_readMem s.portBC a
    | some r => exact (State.setReg8_readMem ..).trans (s.portIn_readMem s.portBC a)
  | inA n => exact s.portIn_readMem (s.portAn n) a
  | outA n => exact s.portOut_readMem (s.portAn n) s.a a
  | outReg r => exact s.portOut_readMem s.portBC (s.reg8 r) a
  | outZero => exact s.portOut_readMem s.portBC 0 a
  | ld16 | load16 | pop | inc16 | dec16 | add16 => exact State.setReg16_readMem ..
  | alu op src => exact src.latch_readMem s a
  | bitMem b m => exact m.latch_readMem s a
  | _ => rfl

/-! ## What the bytes say of it -/

/-- The condition of CALL cc (45_control.md R368). -/
def Form.callCond : Form → Option Cond
  | .main op _ _ => if opX op = 3 ∧ opZ op = 4 then some (ccTable (opY op)) else none
  | _ => none

/-- The addresses CALL cc may store to. -/
theorem Form.stores_of_callCond {form : Form} {cc : Cond} (h : form.callCond = some cc) (s : State) :
    form.stores s = cc.stores s := by
  cases form with
  | main op n1 n2 =>
    obtain ⟨⟨hx, hz⟩, hcc⟩ := Option.ite_none_right_eq_some.mp h
    cases hcc
    have hE3 : op ≠ 0xE3#8 := fun e => absurd (e ▸ hz) (by decide)
    have hCD : op ≠ 0xCD#8 := fun e => absurd (e ▸ hz) (by decide)
    simp [Form.stores, mainStores, Cond.stores, hx, hz, hE3, hCD]
  | _ => cases h

/-- The addresses of a form as the kernel can evaluate them: the condition of CALL cc, which hangs on F, stands alone. -/
def Form.storesByCond (form : Form) (s : State) : List Word :=
  match form.callCond with
  | some cc => cc.stores s
  | none => form.stores s

theorem Form.storesByCond_eq (form : Form) (s : State) : form.storesByCond s = form.stores s := by
  unfold Form.storesByCond
  split
  next h => exact (Form.stores_of_callCond h s).symm
  · rfl

/-- The values at the opcode bytes, those of `skip` left out. -/
def grid {α : Type} (skip : Byte → Bool) (f : Byte → α) : List (List (Option α)) :=
  (List.range 16).map fun h => (List.range 16).map fun l =>
    let op := BitVec.ofNat 8 (16 * h + l)
    if skip op then none else some (f op)

/-- Functions with the same grid agree at every opcode byte. -/
theorem allOpcodes_of_grid {α : Type} [DecidableEq α] {skip : Byte → Bool} {f g : Byte → α}
    (h : grid skip f = grid skip g) : allOpcodes (fun op => skip op || decide (f op = g op)) = true := by
  refine List.all_eq_true.mpr fun i hi => List.all_eq_true.mpr fun j hj => ?_
  have hcell := List.map_inj_left.mp (List.map_inj_left.mp h i hi) j hj
  dsimp only at hcell ⊢
  cases hskip : skip (BitVec.ofNat 8 (16 * i + j))
  · simpa [hskip] using hcell
  · rfl

/-- Functions of four bytes agree if they have the same grid in each table of the decoder (`of_tables`). -/
theorem eq_of_grids {α : Type} [DecidableEq α] {f g : Byte → Byte → Byte → Byte → α}
    (plain : ∀ n1 n2 n3, grid isPrefixByte (f · n1 n2 n3) = grid isPrefixByte (g · n1 n2 n3))
    (cb : ∀ n1 n2, grid (fun _ => false) (f 0xCB · n1 n2) = grid (fun _ => false) (g 0xCB · n1 n2))
    (ed : ∀ n1 n2, grid (fun _ => false) (f 0xED · n1 n2) = grid (fun _ => false) (g 0xED · n1 n2))
    (index : ∀ xy n1 n2, grid (· == 0xCB) (f (XY.byte xy) · n1 n2) = grid (· == 0xCB) (g (XY.byte xy) · n1 n2))
    (indexCb : ∀ xy d, grid (fun _ => false) (f (XY.byte xy) 0xCB d ·) = grid (fun _ => false) (g (XY.byte xy) 0xCB d ·))
    (b0 b1 b2 b3 : Byte) : f b0 b1 b2 b3 = g b0 b1 b2 b3 :=
  of_decide_eq_true (of_tables (test := fun b0 b1 b2 b3 => decide (f b0 b1 b2 b3 = g b0 b1 b2 b3))
    (fun n1 n2 n3 => allOpcodes_of_grid (plain n1 n2 n3))
    (fun n1 n2 => allOpcodes_of_grid (cb n1 n2))
    (fun n1 n2 => allOpcodes_of_grid (ed n1 n2))
    (fun xy n1 n2 => allOpcodes_of_grid (index xy n1 n2))
    (fun xy d => allOpcodes_of_grid (indexCb xy d)) b0 b1 b2 b3)

section
variable (s : State)

/-- What the decoded operation may touch outside the registers: the addresses it may store to, and whether it uses a port. -/
noncomputable def actTouches (b0 b1 b2 b3 : Byte) : List Word × Bool :=
  let act := (instrPlan (decodeWindow b0 b1 b2 b3).1).act
  (act.stores s, act.usesPort)

/-- What the form may touch. -/
def formTouches (b0 b1 b2 b3 : Byte) : List Word × Bool :=
  let form := formOf b0 b1 b2 b3
  (form.storesByCond s, form.usesPort)

/-! One grid of each table of the decoder (`by exact`, as for `planAgrees_plain`). -/

theorem touches_plain (n1 n2 n3 : Byte) :
    grid isPrefixByte (actTouches s · n1 n2 n3) = grid isPrefixByte (formTouches s · n1 n2 n3) := by exact rfl
theorem touches_cb (n1 n2 : Byte) :
    grid (fun _ => false) (actTouches s 0xCB · n1 n2) = grid (fun _ => false) (formTouches s 0xCB · n1 n2) := by exact rfl
theorem touches_ed (n1 n2 : Byte) :
    grid (fun _ => false) (actTouches s 0xED · n1 n2) = grid (fun _ => false) (formTouches s 0xED · n1 n2) := by exact rfl
theorem touches_dd (n1 n2 : Byte) :
    grid (· == 0xCB) (actTouches s 0xDD · n1 n2) = grid (· == 0xCB) (formTouches s 0xDD · n1 n2) := by exact rfl
theorem touches_fd (n1 n2 : Byte) :
    grid (· == 0xCB) (actTouches s 0xFD · n1 n2) = grid (· == 0xCB) (formTouches s 0xFD · n1 n2) := by exact rfl
theorem touches_ddcb (d : Byte) :
    grid (fun _ => false) (actTouches s 0xDD 0xCB d ·) = grid (fun _ => false) (formTouches s 0xDD 0xCB d ·) := by
  exact rfl
theorem touches_fdcb (d : Byte) :
    grid (fun _ => false) (actTouches s 0xFD 0xCB d ·) = grid (fun _ => false) (formTouches s 0xFD 0xCB d ·) := by
  exact rfl

/-- The decoded operation touches what the form does. -/
theorem actTouches_eq_formTouches : ∀ b0 b1 b2 b3, actTouches s b0 b1 b2 b3 = formTouches s b0 b1 b2 b3 :=
  eq_of_grids (touches_plain s) (touches_cb s) (touches_ed s)
    (fun xy n1 n2 => match xy with | .ix => touches_dd s n1 n2 | .iy => touches_fd s n1 n2)
    (fun xy d => match xy with | .ix => touches_ddcb s d | .iy => touches_fdcb s d)

variable (b0 b1 b2 b3 : Byte)

/-- The decoded operation may store to the addresses of the form. -/
theorem stores_instrOf : (instrPlan (instrOf [b0, b1, b2, b3])).act.stores s = (formOf b0 b1 b2 b3).stores s :=
  (congrArg Prod.fst (actTouches_eq_formTouches s b0 b1 b2 b3)).trans (Form.storesByCond_eq _ s)

/-- The decoded operation uses a port if the form does. -/
theorem usesPort_instrOf : (instrPlan (instrOf [b0, b1, b2, b3])).act.usesPort = (formOf b0 b1 b2 b3).usesPort :=
  congrArg Prod.snd (actTouches_eq_formTouches State.reset b0 b1 b2 b3)

end

/-- Settles O39: every instruction answers a next state (`exec_next`), and its operation stores only to the addresses of its
form (`readMem_act_run`, `stores_instrOf`), which its fetch leaves as they were. -/
theorem memoryFrame : Obligations.MemoryFrame := by
  intro b0 b1 b2 b3 s
  obtain ⟨t, h⟩ := exec_next (instrOf [b0, b1, b2, b3]) s
  refine ⟨t, h, fun a ha => ?_⟩
  obtain ⟨len, n, -, rfl⟩ := exec_instrOf h
  have hstores := (Act.stores_congr rfl rfl rfl rfl _).trans (stores_instrOf s b0 b1 b2 b3)
  exact readMem_act_run _ (s.fetched len (opcodeFetches b0 b1) n) (hstores ▸ ha)

/-! ## The devices (10_state.md R51 to R56) -/

/-- The part of the state that belongs to the devices. -/
structure Devices where
  queue    : List Byte
  sink     : List Byte
  uses8251 : Bool
  aciaCtrl : Byte
  sd       : Sd
  files    : FileStore

/-- The devices of a state. -/
def State.devices (s : State) : Devices :=
  { queue := s.queue, sink := s.sink, uses8251 := s.uses8251, aciaCtrl := s.aciaCtrl, sd := s.sd, files := s.files }

/-- What one port access may do to the streams and the USART's latch (60_exceptions.md R554 to R556). -/
structure Devices.Step (d e : Devices) : Prop where
  sink     : e.sink = d.sink ∨ ∃ v, e.sink = d.sink ++ [v]
  queue    : e.queue = d.queue ∨ e.queue = d.queue.tail
  uses8251 : d.uses8251 = true → e.uses8251 = true

/-- The streams and the latch may stay as they were. -/
theorem Devices.Step.of_same {d e : Devices} (hsink : e.sink = d.sink) (hqueue : e.queue = d.queue)
    (huses : e.uses8251 = d.uses8251) : d.Step e :=
  ⟨.inl hsink, .inl hqueue, huses.trans⟩

section
variable (s : State)

/-- The head of the queue is consumed, or nothing. -/
theorem State.takeQueued_step : s.devices.Step s.takeQueued.2.devices := by
  unfold State.takeQueued
  split
  next hq => exact ⟨.inl rfl, .inr (by simp [State.devices, hq]), id⟩
  · exact .of_same rfl rfl rfl

theorem State.usartRead_step : s.devices.Step s.usartRead.2.devices := by
  obtain ⟨hsink, hqueue, huses⟩ := s.touchUsart.takeQueued_step
  exact ⟨hsink, hqueue, fun _ => huses rfl⟩

theorem State.sdDataRead_step : s.devices.Step s.sdDataRead.2.devices := by
  unfold State.sdDataRead
  repeat' split
  all_goals exact .of_same rfl rfl rfl

theorem State.sdDataWrite_step (v : Byte) : s.devices.Step (s.sdDataWrite v).devices := by
  unfold State.sdDataWrite
  repeat' split
  all_goals exact .of_same rfl rfl rfl

theorem State.sdOpened_step (opening : Opening) (answer : Option (FileStore × Nat)) :
    s.devices.Step (s.sdOpened opening answer).devices := by
  unfold State.sdOpened
  split <;> exact .of_same rfl rfl rfl

theorem State.sdSeek_step (offset : Nat) : s.devices.Step (s.sdSeek offset).devices := by
  unfold State.sdSeek
  repeat' split
  all_goals exact .of_same rfl rfl rfl

theorem State.sdCommand_step (v : Byte) : s.devices.Step (s.sdCommand v).devices := by
  unfold State.sdCommand
  split
  · exact s.sdOpened_step ..
  · exact s.sdOpened_step ..
  · exact s.sdOpened_step ..
  · exact s.sdSeek_step 0
  · exact .of_same rfl rfl rfl
  · exact .of_same rfl rfl rfl
  · exact s.sdOpened_step ..
  · exact s.sdSeek_step _
  · exact .of_same rfl rfl rfl

/-- A port read takes at most the head of the queue. -/
theorem State.portIn_step (p : Word) : s.devices.Step (s.portIn p).2.devices := by
  unfold State.portIn
  split
  · exact s.usartRead_step
  · exact ⟨.inl rfl, .inl rfl, fun _ => rfl⟩
  · exact .of_same rfl rfl rfl
  · exact s.sdDataRead_step
  · exact .of_same rfl rfl rfl
  · exact s.takeQueued_step
  all_goals exact .of_same rfl rfl rfl

/-- A port write appends at most one byte to the sink. -/
theorem State.portOut_step (p : Word) (v : Byte) : s.devices.Step (s.portOut p v).devices := by
  unfold State.portOut
  split
  · exact ⟨.inr ⟨v, rfl⟩, .inl rfl, fun _ => rfl⟩
  · exact ⟨.inl rfl, .inl rfl, fun _ => rfl⟩
  · exact s.sdCommand_step v
  · exact s.sdDataWrite_step v
  · exact .of_same rfl rfl rfl
  · exact .of_same rfl rfl rfl
  · exact .of_same rfl rfl rfl
  · exact .of_same rfl rfl rfl
  · exact ⟨.inr ⟨v, rfl⟩, .inl rfl, id⟩
  all_goals exact .of_same rfl rfl rfl

/-! Each operation with a port access makes one, and changes the devices by it alone. -/

theorem inA_step (n : Byte) : s.devices.Step (inA n s).devices := by
  have h : (inA n s).devices = (s.portIn (s.portAn n)).2.devices := by simp [State.devices, inA]
  exact h ▸ s.portIn_step (s.portAn n)

theorem outA_step (n : Byte) : s.devices.Step (outA n s).devices := by
  have h : (outA n s).devices = (s.portOut (s.portAn n) s.a).devices := by simp [State.devices, outA]
  exact h ▸ s.portOut_step (s.portAn n) s.a

theorem inC_step (dst : Option Reg8) : s.devices.Step (inC dst s).devices := by
  have h : (inC dst s).devices = (s.portIn s.portBC).2.devices := by cases dst <;> simp [State.devices, inC]
  exact h ▸ s.portIn_step s.portBC

theorem outC_step (v : Byte) : s.devices.Step (outC v s).devices := by
  have h : (outC v s).devices = (s.portOut s.portBC v).devices := by simp [State.devices, outC]
  exact h ▸ s.portOut_step s.portBC v

theorem blockIn_step (dir : Dir) : s.devices.Step (blockIn dir s).devices := by
  have h : (blockIn dir s).devices = (s.portIn s.portBC).2.devices := by simp [State.devices, blockIn]
  exact h ▸ s.portIn_step s.portBC

/-- OUTI and OUTD access the port after the decrement of B (46_block.md R414). -/
theorem blockOut_step (dir : Dir) : s.devices.Step (blockOut dir s).devices := by
  let s1 := s.setB (s.main.b - 1)
  have h : (blockOut dir s).devices = (s1.portOut s1.portBC (s.readMem s.hl)).devices := by
    simp [State.devices, blockOut, s1]
  exact h ▸ s1.portOut_step s1.portBC (s.readMem s.hl)

end

/-- An operation without a port access leaves the devices as they were. -/
theorem act_run_devices (act : Act) (s : State) (h : act.usesPort = false) : (act.run s).devices = s.devices := by
  cases act with
  | ld8 | storeA | ld16 | store16 | load16 | push | pop | exSp =>
    simp [State.devices, Act.run, ld8, storeA, ld16, store16, load16, push, pop, State.dropped16, exSp]
  | alu | incLoc | decLoc | add16 | inc16 | dec16 =>
    simp [State.devices, Act.run, alu, incLoc, decLoc, add16, inc16, dec16]
  | rot | rotIndexed | rld | rrd | bitMem | resLoc | setLoc | resIndexed | setIndexed =>
    simp [State.devices, Act.run, rot, rotIndexed, rld, rrd, bitMem, resLoc, setLoc, resIndexed, setIndexed]
  | call | rst | blockLoad => simp [State.devices, Act.run, call, rst, State.enterAt, blockLoad]
  | jpIf | jrIf | djnz | callIf | retIf =>
    simp only [Act.run, jpIf, jrIf, djnz, callIf, retIf]
    split <;> simp [State.devices, jr, State.enterAt, State.returnToCaller, State.dropped16]
  | blockLoadRepeat | blockCompareRepeat =>
    simp only [Act.run, blockLoadRepeat, blockCompareRepeat]
    split <;> simp [State.devices, blockLoad, blockCompare, State.repeatBlockWz]
  | inA | outA | inC | outReg | outZero | blockIn | blockOut | blockInRepeat | blockOutRepeat =>
    exact absurd h Bool.true_eq_false.mp
  | _ => rfl

/-- An operation with a port access does to the streams and the latch what one access may. -/
theorem act_run_step (act : Act) (s : State) (h : act.usesPort = true) : s.devices.Step (act.run s).devices := by
  cases act with
  | inA n => exact inA_step s n
  | outA n => exact outA_step s n
  | inC dst => exact inC_step s dst
  | outReg r => exact outC_step s (s.reg8 r)
  | outZero => exact outC_step s 0
  | blockIn dir => exact blockIn_step s dir
  | blockOut dir => exact blockOut_step s dir
  | blockInRepeat dir =>
    simp only [Act.run, blockInRepeat]
    split <;> exact blockIn_step s dir
  | blockOutRepeat dir =>
    simp only [Act.run, blockOutRepeat]
    split <;> exact blockOut_step s dir
  | _ => exact absurd h Bool.false_ne_true

/-- Settles O42: an operation changes the devices only by a port access (`act_run_devices`), which the form tells
(`usesPort_instrOf`), and one access does no more to the streams and the latch than it may (`act_run_step`). -/
theorem deviceFrame : Obligations.DeviceFrame := by
  intro b0 b1 b2 b3 s t h
  obtain ⟨len, n, -, rfl⟩ := exec_instrOf h
  rw [← usesPort_instrOf]
  generalize (instrPlan (instrOf [b0, b1, b2, b3])).act = act
  cases hport : act.usesPort
  case false =>
    have hsame := act_run_devices act (s.fetched len (opcodeFetches b0 b1) n) hport
    have hqueue := congrArg Devices.queue hsame
    have hsink := congrArg Devices.sink hsame
    have huses := congrArg Devices.uses8251 hsame
    exact ⟨fun _ => ⟨hqueue, hsink, huses, congrArg Devices.aciaCtrl hsame, congrArg Devices.sd hsame,
      congrArg Devices.files hsame⟩, .inl hsink, .inl hqueue, huses.trans⟩
  case true =>
    obtain ⟨hsink, hqueue, huses⟩ := act_run_step act (s.fetched len (opcodeFetches b0 b1) n) hport
    exact ⟨nofun, hsink, hqueue, huses⟩

end Sys2Proof.Machine

/-!
The statements about the encoding (30_encoding.md): the decoder against the encoder and the length rule, and DD and FD without
effect.
-/

namespace Sys2Proof.Machine

/-! ## The decoder reads back what the encoder writes (30_encoding.md R130, R149 to R155) -/

/-- The table of a function of the opcode byte, row by high nibble. -/
def table {α : Type} (f : Byte → α) : List (List α) :=
  (List.range 16).map fun h => (List.range 16).map fun l => f (BitVec.ofNat 8 (16 * h + l))

/-- A table is read as its function. -/
theorem cell_table {α : Type} (f : Byte → α) (unused : α) (op : Byte) : cell (table f) unused op = f op := by
  have hrow : op.toNat / 16 < 16 := by omega
  have hcol : op.toNat % 16 < 16 := by omega
  simp [cell, table, List.getD_eq_getElem?_getD, hrow, hcol, Nat.div_add_mod]

/-- The instruction that the decoder reads from some bytes with others after them, and whether it takes just those bytes:
the bytes stand apart, so that no other is in the way where an opcode is looked up. -/
noncomputable def reads (bytes tail : List Byte) : Instr × Bool :=
  match bytes with
  | [b0] => (decodeWindow b0 (tail.getD 0 0) (tail.getD 1 0) (tail.getD 2 0)).map id (· == 1)
  | [b0, b1] => (decodeWindow b0 b1 (tail.getD 0 0) (tail.getD 1 0)).map id (· == 2)
  | [b0, b1, b2] => (decodeWindow b0 b1 b2 (tail.getD 0 0)).map id (· == 3)
  | [b0, b1, b2, b3] => (decodeWindow b0 b1 b2 b3).map id (· == 4)
  | _ => (decodeBytes (bytes ++ tail)).map id (· == bytes.length)

theorem reads_eq (bytes tail : List Byte) :
    reads bytes tail = (decodeBytes (bytes ++ tail)).map id (· == bytes.length) := by
  unfold reads
  split <;> rfl

/-- What the decoder reads from just some bytes leaves the others. -/
theorem decode_append {bytes tail : List Byte} {i : Instr} (h : reads bytes tail = (i, true)) :
    decode (bytes ++ tail) = .ok (i, tail) := by
  rw [reads_eq, Prod.map, Prod.mk.injEq, beq_iff_eq] at h
  obtain ⟨hi, hlen⟩ := h
  simp only [id] at hi
  simp [decode, hi, hlen]

/-- A fact about a word put together from its bytes is one about the word. -/
theorem of_bytes {α : Type} {x : α} {f : Word → α} (w : Word) (h : x = f (pair (hi w) (lo w))) : x = f w :=
  h.trans (congrArg f (pair_hi_lo w))

/-- The cells of the ED no-operations (`by exact`, as for `planAgrees_plain`). -/
theorem edRows_noOperation : edRows = table fun op =>
    bif isEdNoOperation op then .i0 (.ed_nop op) else cell edRows (.i0 .nop) op := by exact rfl

section
variable (tail : List Byte)

/-- RETN is read back from each of its codes; `ED 4D` is RETI's. -/
theorem reads_retn {y : BitVec 3} (hwf : (Instr.retn y).wellFormed = true) :
    reads (encode (.retn y)) tail = (.retn y, true) := by
  revert y
  apply forall_field3
  case h1 => exact nofun
  all_goals exact fun _ => rfl

/-- An ED no-operation is read back. -/
theorem reads_edNop {op : Byte} (hwf : (Instr.ed_nop op).wellFormed = true) :
    reads (encode (.ed_nop op)) tail = (.ed_nop op, true) := by
  have hop : isEdNoOperation op = true := hwf
  have hcell : cell edRows (.i0 .nop) op = .i0 (.ed_nop op) := by rw [edRows_noOperation, cell_table, hop, cond_true]
  exact congrArg (fun e => (Entry.take e (tail.getD 0 0) (tail.getD 1 0) 2).map id (· == 2)) hcell

end

/-- The instructions that are a lone DD or FD (R144). -/
theorem isChainByte_cases {i : Instr} (h : i.isChainByte = true) :
    i = .redundant_DD ∨ i = .redundant_FD ∨ i = .ignored_DD_before_ED ∨ i = .ignored_FD_before_ED := by
  unfold Instr.isChainByte at h
  split at h
  case h_5 => exact absurd h Bool.false_ne_true
  all_goals simp

/-- A lone DD or FD before a byte that makes it one is decoded from its byte (R144). -/
theorem decodeWindow_chainByte {i : Instr} {next : Byte} (hchain : i.isChainByte = true) (hnext : i.mayPrecede next = true) :
    ∃ b0, encode i = [b0] ∧ ∀ x y, decodeWindow b0 next x y = (i, 1) := by
  obtain rfl | rfl | rfl | rfl := isChainByte_cases hchain
  case inl | inr.inl =>
    obtain h | h := Bool.or_eq_true_iff.mp hnext <;> cases eq_of_beq h <;> exact ⟨_, rfl, fun _ _ => rfl⟩
  all_goals
    cases eq_of_beq hnext
    exact ⟨_, rfl, fun _ _ => rfl⟩

/-- So it is read back. -/
theorem reads_chainByte {i : Instr} {next : Byte} (rest : List Byte) (hchain : i.isChainByte = true)
    (hnext : i.mayPrecede next = true) : reads (encode i) (next :: rest) = (i, true) := by
  obtain ⟨b0, hencode, hwindow⟩ := decodeWindow_chainByte hchain hnext
  rw [hencode]
  exact congrArg (Prod.map id (· == 1)) (hwindow ..)

/-! Every other instruction is read back: one without a word by evaluation, one with a word by that and `of_bytes`. The
constructors are taken in slices, last slice first, as for `exec_eq_plan`: those after FD, those after DD, the rest. -/

/-- The instructions after FD are read back. -/
theorem reads_fd (i : Instr) (tail : List Byte) (hchain : i.isChainByte = false)
    (hslice : Nat.ble Instr.fd_nop.ctorIdx i.ctorIdx = true) : reads (encode i) tail = (i, true) := by
  cases i with
  | redundant_FD | ignored_FD_before_ED => exact absurd hchain Bool.true_eq_false.mp
  | bit_0_mIYd z d | bit_1_mIYd z d | bit_2_mIYd z d | bit_3_mIYd z d | bit_4_mIYd z d | bit_5_mIYd z d | bit_6_mIYd z d
  | bit_7_mIYd z d =>
    clear hchain hslice
    revert z
    apply forall_field3 <;> rfl
  | _ => first | exact absurd hslice Bool.false_ne_true | rfl | (next nn => apply of_bytes nn; rfl)

/-- The instructions after DD are read back. -/
theorem reads_dd (i : Instr) (tail : List Byte) (hchain : i.isChainByte = false)
    (hslice : Nat.ble Instr.dd_nop.ctorIdx i.ctorIdx = true) : reads (encode i) tail = (i, true) := by
  cases i with
  | redundant_DD | ignored_DD_before_ED => exact absurd hchain Bool.true_eq_false.mp
  | bit_0_mIXd z d | bit_1_mIXd z d | bit_2_mIXd z d | bit_3_mIXd z d | bit_4_mIXd z d | bit_5_mIXd z d | bit_6_mIXd z d
  | bit_7_mIXd z d =>
    clear hchain hslice
    revert z
    apply forall_field3 <;> rfl
  | _ =>
    first
    | exact absurd hslice Bool.false_ne_true
    | exact reads_fd _ tail hchain rfl
    | rfl
    | (next nn => apply of_bytes nn; rfl)

/-- Every instruction other than a lone DD or FD is read back. -/
theorem reads_encode (i : Instr) (tail : List Byte) (hwf : i.wellFormed = true) (hchain : i.isChainByte = false) :
    reads (encode i) tail = (i, true) := by
  cases i with
  | retn y => exact reads_retn tail hwf
  | ed_nop op => exact reads_edNop tail hwf
  | neg y =>
    clear hwf hchain
    revert y
    apply forall_field3 <;> rfl
  | im_0 second | im_0_mirror second | im_1 second | im_2 second => cases second <;> rfl
  | _ => first | exact reads_dd _ tail hchain rfl | rfl | (next nn => apply of_bytes nn; rfl)

/-- Settles O36: the decoder takes just the bytes of an instruction (`reads_encode`; `reads_chainByte` for a lone DD or FD),
and so leaves the bytes after it (`decode_append`). -/
theorem decodeReadsEncode : Obligations.DecodeReadsEncode := by
  intro i next rest hwf hnext
  apply decode_append
  cases hchain : i.isChainByte
  case false => exact reads_encode i (next :: rest) hwf hchain
  case true => exact reads_chainByte rest hchain hnext

/-! ## A DD or FD before DD, FD or ED (R144) -/

/-- A DD or FD before DD, FD or ED. -/
def chainBytes (b0 b1 : Byte) : Bool := isIndexByte b0 && (isIndexByte b1 || b1 == 0xED)

/-- Whether a DD or FD stands at an address, with DD, FD or ED after it. -/
def State.chainAt (s : State) (a : Word) : Bool := chainBytes (s.readMem a) (s.readMem (a + 1))

/-- Its own effect: one byte, one increment of R, 4 T-states. -/
theorem exec_chainByte {i : Instr} (h : i.isChainByte = true) (s : State) : exec i s = .next s.skipPrefix := by
  obtain rfl | rfl | rfl | rfl := isChainByte_cases h <;> rfl

theorem State.nextIsChain_eq (s : State) : s.nextIsChain = s.chainAt s.pc := window_isChainByte ..

/-- The step goes on after a lone DD or FD. -/
theorem runInstruction_chain {s : State} (h : s.chainAt s.pc = true) (delay : Fin 2) (fuel : Nat) :
    runInstruction delay (fuel + 1) s = runInstruction delay fuel s.skipPrefix := by
  have hnext : s.nextIsChain = true := s.nextIsChain_eq.trans h
  have hexec : s.execNext = .next s.skipPrefix := exec_chainByte hnext s
  simp [runInstruction, hexec, hnext]

/-- Any other instruction ends its part of the step, whatever fuel is left. -/
theorem runInstruction_last {s : State} (h : s.chainAt s.pc = false) (delay : Fin 2) (fuel fuel' : Nat) :
    runInstruction delay (fuel + 1) s = runInstruction delay (fuel' + 1) s := by
  have hnext : s.nextIsChain = false := s.nextIsChain_eq.trans h
  simp [runInstruction, hnext]

/-- Whether a chain of n bytes stands at PC. -/
def State.Chain (s : State) (n : Nat) : Prop := ∀ k < n, s.chainAt (s.pc + BitVec.ofNat 16 k) = true

/-- The chain after its first byte. -/
theorem State.chain_succ (s : State) (n : Nat) : s.Chain (n + 1) ↔ s.chainAt s.pc = true ∧ s.skipPrefix.Chain n := by
  have hat (k : Nat) : s.skipPrefix.chainAt (s.skipPrefix.pc + BitVec.ofNat 16 k) =
      s.chainAt (s.pc + BitVec.ofNat 16 (k + 1)) := by
    rw [Nat.add_comm k, BitVec.ofNat_add, ← BitVec.add_assoc]
    rfl
  simp only [State.Chain, hat]
  constructor
  · exact fun h => ⟨by simpa using h 0 n.succ_pos, fun k hk => h (k + 1) (Nat.succ_lt_succ hk)⟩
  · rintro ⟨h0, hrest⟩ (_ | k) hk
    · simpa using h0
    · exact hrest k (Nat.lt_of_succ_lt_succ hk)

/-- PC wraps: a chain from a byte through all the other addresses goes on with that byte. -/
theorem State.chain_wraps {s : State} (h : s.chainAt s.pc = true) (hchain : s.skipPrefix.Chain 65535) :
    s.skipPrefix.Chain 65536 := by
  intro k hk
  obtain hk | rfl := Nat.lt_succ_iff_lt_or_eq.mp hk
  · exact hchain k hk
  · have hpc : s.pc + 1#16 + 65535#16 = s.pc := by rw [BitVec.add_assoc]; exact BitVec.add_zero _
    exact (congrArg s.chainAt hpc).trans h

/-- A chain as long as the fuel is the fault. -/
theorem runInstruction_of_chain {n : Nat} {s : State} (h : s.Chain n) (delay : Fin 2) :
    runInstruction delay n s = .fault .endlessPrefixChain := by
  induction n generalizing s with
  | zero => rfl
  | succ n ih =>
    obtain ⟨h0, hrest⟩ := (s.chain_succ n).mp h
    rw [runInstruction_chain h0]
    exact ih hrest

/-- Fuel beyond the end of a chain changes nothing. -/
theorem runInstruction_succ {n : Nat} {s : State} (h : ¬ s.Chain n) (delay : Fin 2) :
    runInstruction delay (n + 1) s = runInstruction delay n s := by
  induction n generalizing s with
  | zero => exact absurd nofun h
  | succ n ih =>
    cases h0 : s.chainAt s.pc
    case false => exact runInstruction_last h0 delay _ _
    case true =>
      rw [runInstruction_chain h0, runInstruction_chain h0]
      exact ih fun hrest => h ((s.chain_succ n).mpr ⟨h0, hrest⟩)

/-- A step may begin at the byte after a lone DD or FD: if the one byte of fuel more were used, the chain would hold all of
memory, that DD or FD included, and both steps are the fault (R614). -/
theorem State.instructionStep_chain {s : State} (hhalted : s.halted = false) (h : s.chainAt s.pc = true) :
    s.instructionStep = s.skipPrefix.instructionStep := by
  have hrun : runInstruction s.iffDelay 65536 s = runInstruction s.iffDelay 65536 s.skipPrefix := by
    rw [runInstruction_chain h]
    by_cases hchain : s.skipPrefix.Chain 65535
    case neg => exact (runInstruction_succ hchain _).symm
    case pos =>
      have hall : s.skipPrefix.Chain 65536 := State.chain_wraps h hchain
      rw [runInstruction_of_chain hchain, runInstruction_of_chain hall]
  simpa [State.instructionStep, hhalted] using hrun

/-- Settles O34: a DD or FD before DD, FD or ED has its own effect alone (`exec_chainByte`), and the step from it is the step
from the byte after it (`State.instructionStep_chain`). -/
theorem prefixChainIsOneStep : Obligations.PrefixChainIsOneStep := by
  intro xy b n1 n2 hb
  have hchain : chainBytes xy.byte b = true := by obtain rfl | rfl | rfl := hb <;> cases xy <;> rfl
  constructor
  · intro s
    exact exec_chainByte ((window_isChainByte ..).trans hchain) s
  · intro s hhalted h0 h1
    have hat : s.chainAt s.pc = true := by rw [State.chainAt, h0, h1, hchain]
    unfold step machineStep
    rw [State.instructionStep_chain hhalted hat]
    rfl

/-! ## A DD or FD that its opcode ignores (R145) -/

/-- The opcodes that DD and FD change (R140), and the bytes CB, DD, ED and FD. -/
def heedsIndex (op : Byte) : Bool := indexAffected op || isPrefixByte op

/-- A meaning a fetch later. -/
def RunEntry.afterPrefix (e : RunEntry) : RunEntry :=
  match e with
  | .h0 f => .h0 (f ∘ State.skipPrefix)
  | .h1 f => .h1 fun n => f n ∘ State.skipPrefix
  | .h2 f => .h2 fun nn => f nn ∘ State.skipPrefix
  | .h11 f => .h11 fun d n => f d n ∘ State.skipPrefix

theorem RunEntry.run_afterPrefix (e : RunEntry) (x y : Byte) : e.afterPrefix.run x y = e.run x y ∘ State.skipPrefix := by
  cases e <;> rfl

/-- What an opcode other than CB, DD, ED and FD means by itself. -/
def plainEntry (op : Byte) : RunEntry :=
  match cell mainRunRows .cb op with
  | .ins e => e
  | _ => .h0 execNop

/-! The grids of meanings, which are decoding and `exec` (`runWindow_exec`), hold that meaning, and after DD and FD the same a
fetch later (`by exact`, as for `planAgrees_plain`). -/

theorem mainRunRows_plain : mainRunRows = table fun op =>
    bif isPrefixByte op then cell mainRunRows .cb op else .ins (plainEntry op) := by exact rfl
theorem ddRunRows_ignored : ddRunRows = table fun op =>
    bif heedsIndex op then cell ddRunRows .cb op else .ins (plainEntry op).afterPrefix := by exact rfl
theorem fdRunRows_ignored : fdRunRows = table fun op =>
    bif heedsIndex op then cell fdRunRows .cb op else .ins (plainEntry op).afterPrefix := by exact rfl

theorem runWindow_of_ins {b0 : Byte} {e : RunEntry} (h : cell mainRunRows .cb b0 = .ins e) (b1 b2 b3 : Byte) :
    runWindow b0 b1 b2 b3 = e.run b1 b2 := by
  rw [runWindow, h]

theorem runIndexed_of_ins {rows : List (List RunSlot)} {b1 : Byte} {e : RunEntry} (h : cell rows .cb b1 = .ins e)
    (cbs : List (List (Byte → Run))) (b2 b3 : Byte) : runIndexed rows cbs b1 b2 b3 = e.run b2 b3 := by
  rw [runIndexed, h]

/-- An ignored DD or FD is a fetch before the unprefixed instruction. -/
theorem exec_ignored (xy : XY) {op : Byte} (haffected : indexAffected op = false) (hprefix : isPrefixByte op = false)
    (n1 n2 : Byte) : exec (instrOf [xy.byte, op, n1, n2]) = exec (instrOf [op, n1, n2]) ∘ State.skipPrefix := by
  have hop : heedsIndex op = false := Bool.or_eq_false_iff.mpr ⟨haffected, hprefix⟩
  have hplain : cell mainRunRows .cb op = .ins (plainEntry op) := by
    rw [mainRunRows_plain, cell_table, hprefix, cond_false]
  rw [instrOf_four, instrOf_three, ← runWindow_exec, ← runWindow_exec, runWindow_of_ins hplain,
    ← RunEntry.run_afterPrefix]
  cases xy
  case ix =>
    have hdd : cell ddRunRows .cb op = .ins (plainEntry op).afterPrefix := by
      rw [ddRunRows_ignored, cell_table, hop, cond_false]
    exact runIndexed_of_ins hdd ..
  case iy =>
    have hfd : cell fdRunRows .cb op = .ins (plainEntry op).afterPrefix := by
      rw [fdRunRows_ignored, cell_table, hop, cond_false]
    exact runIndexed_of_ins hfd ..

/-- Settles O33: the two do the same (`exec_ignored`), and every instruction answers a next state. -/
theorem ignoredIndexPrefix : Obligations.IgnoredIndexPrefix := by
  intro xy op n1 n2 s haffected hprefix
  obtain ⟨t, ht⟩ := exec_next (instrOf [op, n1, n2]) s.skipPrefix
  exact ⟨t, ht, (congrFun (exec_ignored xy haffected hprefix n1 n2) s).trans ht⟩

/-! ## The length rule (R150) -/

/-- Whether an operation may set PC itself: those of 45_control.md, and the repeating block instructions. -/
def Act.transfers : Act → Bool
  | .jp _ | .jpIf _ _ | .jpReg _ | .jr _ | .jrIf _ _ | .djnz _ => true
  | .call _ | .callIf _ _ | .ret | .retIf _ | .reti | .retn | .rst _ => true
  | .blockLoadRepeat _ | .blockCompareRepeat _ | .blockInRepeat _ | .blockOutRepeat _ => true
  | _ => false

/-- The bytes of a plan's fetch, an ignored DD or FD among them. -/
def Plan.length (p : Plan) : Nat := (bif p.skip then 1 else 0) + p.len

/-- The length rule for an instruction without DD or FD, from its first two bytes. -/
def plainLength (b0 b1 : Byte) : Nat :=
  if b0 = 0xCB then 2 else if b0 = 0xED then (if b1 &&& 0xC7 = 0x43 then 4 else 2) else baseLength b0

/-- The length rule for an opcode other than DD, FD and ED after one of DD and FD. -/
def indexedLength (op : Byte) : Nat :=
  if op = 0xCB then 4 else 1 + if usesHLMemory op then baseLength op + 1 else baseLength op

/-- The bytes of an instruction from its first two: the length rule, and 1 for a DD or FD before DD, FD or ED (R144). -/
def windowLength (b0 b1 : Byte) : Nat :=
  bif chainBytes b0 b1 then 1 else bif isIndexByte b0 then indexedLength b1 else plainLength b0 b1

/-- A plan has a length, and whether its operation may set PC is as said. -/
def Plan.moves (p : Plan) (length : Nat) (transfers : Bool) : Bool :=
  match p with
  | ⟨skip, len, _, _, act⟩ => (bif skip then 1 else 0) + len == length && act.transfers == transfers

/-- What the decoder says of an instruction's length, its own and its plan's, and of PC is as the bytes say. -/
noncomputable def lengthAgrees (b0 b1 b2 b3 : Byte) : Bool :=
  match decodeWindow b0 b1 b2 b3 with
  | (i, n) => n == windowLength b0 b1 && (instrPlan i).moves n (formOf b0 b1 b2 b3).transfers

/-! One table of the decoder each (`by exact`, as for `planAgrees_plain`). -/

theorem lengthAgrees_plain (n1 n2 n3 : Byte) :
    allOpcodes (fun op => isPrefixByte op || lengthAgrees op n1 n2 n3) = true := by exact rfl
theorem lengthAgrees_cb (n1 n2 : Byte) : allOpcodes (lengthAgrees 0xCB · n1 n2) = true := by exact rfl
theorem lengthAgrees_ed (n1 n2 : Byte) : allOpcodes (lengthAgrees 0xED · n1 n2) = true := by exact rfl
theorem lengthAgrees_dd (n1 n2 : Byte) : allOpcodes (fun op => op == 0xCB || lengthAgrees 0xDD op n1 n2) = true := by
  exact rfl
theorem lengthAgrees_fd (n1 n2 : Byte) : allOpcodes (fun op => op == 0xCB || lengthAgrees 0xFD op n1 n2) = true := by
  exact rfl
theorem lengthAgrees_ddcb (d : Byte) : allOpcodes (lengthAgrees 0xDD 0xCB d ·) = true := by exact rfl
theorem lengthAgrees_fdcb (d : Byte) : allOpcodes (lengthAgrees 0xFD 0xCB d ·) = true := by exact rfl

/-- The tables together. -/
theorem lengthAgrees_all (b0 b1 b2 b3 : Byte) : lengthAgrees b0 b1 b2 b3 = true :=
  of_tables lengthAgrees_plain lengthAgrees_cb lengthAgrees_ed
    (fun xy n1 n2 => match xy with | .ix => lengthAgrees_dd n1 n2 | .iy => lengthAgrees_fd n1 n2)
    (fun xy d => match xy with | .ix => lengthAgrees_ddcb d | .iy => lengthAgrees_fdcb d) b0 b1 b2 b3

section
variable (b0 b1 b2 b3 : Byte)

/-- What the test says of an instruction. -/
theorem length_transfers_instrOf :
    (decodeWindow b0 b1 b2 b3).2 = windowLength b0 b1 ∧
      (instrPlan (instrOf [b0, b1, b2, b3])).length = windowLength b0 b1 ∧
      (instrPlan (instrOf [b0, b1, b2, b3])).act.transfers = (formOf b0 b1 b2 b3).transfers := by
  have h := lengthAgrees_all b0 b1 b2 b3
  simp only [lengthAgrees, Plan.moves, Bool.and_eq_true, beq_iff_eq] at h
  obtain ⟨hn, hlen, htransfers⟩ := h
  exact ⟨hn, hlen.trans hn, htransfers⟩

/-- A DD or FD alone is one before DD, FD or ED. -/
theorem formOf_eq_alone_iff : formOf b0 b1 b2 b3 = .alone ↔ chainBytes b0 b1 = true := by
  unfold formOf indexForm chainBytes
  repeat' split
  all_goals simp_all [isIndexByte, or_assoc]

end

section
variable {b0 b1 : Byte} (tail : List Byte)

/-- The length rule reads the first two bytes only, unless they go on a chain. -/
theorem lengthRule_of_not_chain (h : chainBytes b0 b1 = false) : lengthRule (b0 :: b1 :: tail) = windowLength b0 b1 := by
  cases h0 : isIndexByte b0
  case false => simp [lengthRule, windowLength, plainLength, h0, h]
  case true =>
    obtain ⟨h1, hED⟩ : isIndexByte b1 = false ∧ b1 ≠ 0xED#8 := by simpa [chainBytes, h0] using h
    simp [lengthRule, windowLength, indexedLength, h0, h, h1, hED]

/-- A byte that goes on a chain adds 1 to the length of the rest (R144). -/
theorem lengthRule_of_chain (h : chainBytes b0 b1 = true) : lengthRule (b0 :: b1 :: tail) = lengthRule (b1 :: tail) + 1 := by
  obtain ⟨h0, h1⟩ := Bool.and_eq_true_iff.mp h
  cases h1' : isIndexByte b1
  case false =>
    obtain rfl : b1 = 0xED#8 := by simpa [h1'] using h1
    simp [lengthRule, h0, h1', Nat.add_comm 1]
  case true =>
    simp [lengthRule, h0, h1']
    repeat' split
    all_goals omega

theorem consumed_of_chain (h : chainBytes b0 b1 = true) : consumed (b0 :: b1 :: tail) = consumed (b1 :: tail) + 1 :=
  if_pos ((window_isChainByte ..).trans h)

theorem consumed_of_not_chain (h : chainBytes b0 b1 = false) : consumed (b0 :: b1 :: tail) = windowLength b0 b1 :=
  (if_neg (Bool.eq_false_iff.mp ((window_isChainByte ..).trans h))).trans (length_transfers_instrOf ..).1

/-- The decoder's bytes are those of the rule if they are after a byte that goes on a chain. -/
theorem consumed_eq_lengthRule_cons
    (hrest : chainBytes b0 b1 = true → consumed (b1 :: tail) = lengthRule (b1 :: tail)) :
    consumed (b0 :: b1 :: tail) = lengthRule (b0 :: b1 :: tail) := by
  cases h : chainBytes b0 b1
  case false => rw [consumed_of_not_chain tail h, lengthRule_of_not_chain tail h]
  case true => rw [consumed_of_chain tail h, lengthRule_of_chain tail h, hrest h]

end

/-- The decoder's bytes are those of the rule after every chain. -/
theorem consumed_eq_lengthRule (chain : List Byte) {b0 : Byte} (h0 : isIndexByte b0 = false) (b1 b2 b3 : Byte) :
    consumed (chain ++ [b0, b1, b2, b3]) = lengthRule (chain ++ [b0, b1, b2, b3]) := by
  induction chain with
  | nil => exact consumed_eq_lengthRule_cons _ (by simp [chainBytes, h0])
  | cons c chain ih =>
    cases chain with
    | nil => exact consumed_eq_lengthRule_cons _ fun _ => ih
    | cons d chain => exact consumed_eq_lengthRule_cons _ fun _ => ih

section
variable (s : State)

@[simp] theorem State.writeLoc_pc (l : Loc) (v : Byte) : (s.writeLoc l v).pc = s.pc := by
  cases l <;> simp [State.writeLoc]

@[simp] theorem State.copyTo_pc (c : Option Reg8) (v : Byte) : (s.copyTo c v).pc = s.pc := by
  cases c <;> simp [State.copyTo]

end

/-- An operation that is no transfer leaves PC where its fetch put it. -/
theorem act_run_pc (act : Act) (s : State) (h : act.transfers = false) : (act.run s).pc = s.pc := by
  cases act with
  | ld8 | storeA | ld16 | store16 | load16 | push | pop | exSp =>
    simp [Act.run, ld8, storeA, ld16, store16, load16, push, pop, State.dropped16, exSp]
  | alu | incLoc | decLoc | add16 | inc16 | dec16 =>
    simp [Act.run, alu, incLoc, decLoc, add16, inc16, dec16]
  | rot | rotIndexed | rld | rrd | bitMem | resLoc | setLoc | resIndexed | setIndexed =>
    simp [Act.run, rot, rotIndexed, rld, rrd, bitMem, resLoc, setLoc, resIndexed, setIndexed]
  | blockLoad | blockIn | blockOut | inA | outA | outReg | outZero =>
    simp [Act.run, blockLoad, blockIn, blockOut, inA, outA, outC]
  | inC dst => cases dst <;> simp [Act.run, inC]
  | nop | halt | di | ei | setIm | loadA | ldAI | ldAR | ldIA | ldRA | ldSp | exDeHl | exAf | exx => rfl
  | daa | cpl | neg | scf | ccf | adc16 | sbc16 | rotA | bitReg | blockCompare => rfl
  | _ => exact absurd h Bool.true_eq_false.mp

/-- An instruction that is no transfer moves PC past its bytes. -/
theorem exec_instrOf_pc {b0 b1 b2 b3 : Byte} {s t : State} (h : exec (instrOf [b0, b1, b2, b3]) s = .next t)
    (hform : (formOf b0 b1 b2 b3).transfers = false) : t.pc = s.pc + BitVec.ofNat 16 (windowLength b0 b1) := by
  obtain ⟨-, hlen, htransfers⟩ := length_transfers_instrOf b0 b1 b2 b3
  rw [exec_eq_plan, Plan.run_eq] at h
  rw [← Host.Outcome.next.inj h, act_run_pc _ _ (htransfers.trans hform), State.fetched_pc, ← hlen]
  rfl

/-- Settles O35: the decoder consumes what the length rule gives, chain bytes and all (`consumed_eq_lengthRule`), and PC moves
by the bytes of the instruction (`exec_instrOf_pc`), which are those of the rule unless it is a DD or FD alone. (The name
`lengthRule` is the model's.) -/
theorem lengthRuleHolds : Obligations.LengthRule := by
  constructor
  · intro chain b0 b1 b2 b3 _ hDD hFD
    have h0 : isIndexByte b0 = false := Bool.or_eq_false_iff.mpr ⟨beq_false_of_ne hDD, beq_false_of_ne hFD⟩
    exact consumed_eq_lengthRule chain h0 b1 b2 b3
  · intro b0 b1 b2 b3 s form
    obtain ⟨t, ht⟩ := exec_next (instrOf [b0, b1, b2, b3]) s
    refine ⟨t, ht, fun halone => ?_, fun halone htransfers => ?_⟩
    · have hchain := (formOf_eq_alone_iff ..).mp halone
      rw [exec_instrOf_pc ht (congrArg Form.transfers halone), windowLength, hchain]
      rfl
    · have hchain := Bool.eq_false_iff.mpr (mt (formOf_eq_alone_iff b0 b1 b2 b3).mpr halone)
      rw [exec_instrOf_pc ht htransfers, lengthRule_of_not_chain _ hchain]

/-! ## Words of the opcode table (R131 to R155) -/

/-- Settles O37, by running the decoder on each word. -/
theorem sampleWordsDecode : Obligations.SampleWordsDecode :=
  ⟨rfl, rfl, rfl, rfl, rfl, rfl, rfl, rfl, rfl, rfl, rfl, rfl⟩

end Sys2Proof.Machine

/-!
The statements about the 8-bit loads (40_load8.md): which operation each form decodes to, and what that operation does on
registers, on `(HL)` and on `(XY+d)`.
-/

namespace Sys2Proof.Machine

/-! ## Locations of the register tables (30_encoding.md R132, R141) -/

/-- A property of the seven fields that name a register. -/
theorem forall_register {P : BitVec 3 → Prop} (h0 : P 0) (h1 : P 1) (h2 : P 2) (h3 : P 3) (h4 : P 4) (h5 : P 5) (h7 : P 7)
    (k : BitVec 3) (hk : k ≠ 6) : P k := by
  revert k
  apply forall_field3
  case h6 => exact absurd rfl
  all_goals exact fun _ => by assumption

section
variable (s : State)

/-- `(HL)` and the registers latch no WZ. -/
@[simp] theorem rTable_latch (k : BitVec 3) : (rTable k).latch s = s := by
  revert k
  exact forall_field3 rfl rfl rfl rfl rfl rfl rfl rfl

/-- Nor do the halves of IX and IY. -/
theorem rIndexTable_latch (xy : XY) (d : Byte) (k : BitVec 3) (hk : k ≠ 6) : (rIndexTable xy d k).latch s = s := by
  revert k
  exact forall_register rfl rfl rfl rfl rfl rfl rfl

/-- A location is read off the registers, memory and what the load fixed. -/
theorem State.readLoc_congr {s t : State} (hmain : t.main = s.main) (hix : t.ix = s.ix) (hiy : t.iy = s.iy)
    (hmem : t.mem = s.mem) (hparams : t.params = s.params) (l : Loc) : t.readLoc l = s.readLoc l := by
  cases l with
  | reg r => cases r <;> simp [State.readLoc, State.reg8, hmain, hix, hiy]
  | mem m => rw [State.readLoc, State.readLoc, Mem8.addr_congr hmain hix hiy, State.readMem_congr hmem hparams]

@[simp] theorem State.fetched_readLoc (len m1 t : Nat) (l : Loc) : (s.fetched len m1 t).readLoc l = s.readLoc l :=
  State.readLoc_congr rfl rfl rfl rfl rfl l

@[simp] theorem State.setWz_readLoc (v : Word) (l : Loc) : (s.setWz v).readLoc l = s.readLoc l :=
  State.readLoc_congr rfl rfl rfl rfl rfl l

@[simp] theorem State.fetched_ea (len m1 t : Nat) (xy : XY) (d : Byte) : (s.fetched len m1 t).ea xy d = s.ea xy d := by
  cases xy <;> rfl

/-! ## What a load does -/

/-- A load between entries of the register table (R200, R202, R203). -/
theorem ld8_rTable (y z : BitVec 3) :
    ld8 (rTable y) (.loc (rTable z)) s = s.writeLoc (rTable y) (s.readLoc (rTable z)) := by
  simp [ld8, Src.latch, State.readSrc]

/-- A load of an immediate to an entry of the register table (R201, R204). -/
theorem ld8_rTable_imm (y : BitVec 3) (n : Byte) : ld8 (rTable y) (.imm n) s = s.writeLoc (rTable y) n := by
  simp [ld8, Src.latch, State.readSrc]

/-- A load between registers, the halves of IX and IY among them (R208). -/
theorem ld8_rIndexTable (xy : XY) (d : Byte) (y z : BitVec 3) (hy : y ≠ 6) (hz : z ≠ 6) :
    ld8 (rIndexTable xy d y) (.loc (rIndexTable xy d z)) s =
      s.writeLoc (rIndexTable xy d y) (s.readLoc (rIndexTable xy d z)) := by
  rw [ld8, Src.latch, rIndexTable_latch s xy d z hz, rIndexTable_latch s xy d y hy, State.readSrc]

/-- A load to an entry of the register table from `(XY+d)` (R205). -/
theorem ld8_rTable_idx (y : BitVec 3) (xy : XY) (d : Byte) :
    ld8 (rTable y) (.loc (.mem (.idx xy d))) s =
      (s.setWz (s.ea xy d)).writeLoc (rTable y) (s.readMem (s.ea xy d)) := by
  rw [ld8, rTable_latch]
  cases xy <;> rfl

/-- A load to `(XY+d)` from an entry of the register table (R206). -/
theorem ld8_idx_rTable (xy : XY) (d : Byte) (z : BitVec 3) :
    ld8 (.mem (.idx xy d)) (.loc (rTable z)) s =
      (s.setWz (s.ea xy d)).writeMem (s.ea xy d) (s.readLoc (rTable z)) := by
  rw [← s.setWz_readLoc (s.ea xy d), ld8, Src.latch, rTable_latch]
  cases xy <;> rfl

/-- A load of an immediate to `(XY+d)` (R207). -/
theorem ld8_idx_imm (xy : XY) (d n : Byte) :
    ld8 (.mem (.idx xy d)) (.imm n) s = (s.setWz (s.ea xy d)).writeMem (s.ea xy d) n := by
  cases xy <;> rfl

/-! ## The forms of LD and their operations (R200 to R209) -/

/-- `LD` between entries of the register table (R200, R202, R203); the code with (HL) twice is HALT's. -/
theorem exec_ld_rTable (y z : BitVec 3) (h : y ≠ 6 ∨ z ≠ 6) :
    exec (instrOf [opcode 1 y z]) s =
      .next (ld8 (rTable y) (.loc (rTable z)) (s.fetched 1 1 (if y = 6 ∨ z = 6 then 7 else 4))) := by
  obtain hy | hz := h
  · revert z
    revert y
    apply forall_register <;> exact forall_field3 rfl rfl rfl rfl rfl rfl rfl rfl
  · revert y
    revert z
    apply forall_register <;> exact forall_field3 rfl rfl rfl rfl rfl rfl rfl rfl

/-- `LD` of an immediate to an entry of the register table (R201, R204). -/
theorem exec_ld_rTable_imm (y : BitVec 3) (n : Byte) :
    exec (instrOf [opcode 0 y 6, n]) s = .next (ld8 (rTable y) (.imm n) (s.fetched 2 1 (if y = 6 then 10 else 7))) := by
  rw [instrOf_two]
  revert y
  exact forall_field3 rfl rfl rfl rfl rfl rfl rfl rfl

/-- `LD` between registers after DD or FD, the halves of XY in the place of H and L (R208). -/
theorem exec_ld_rIndexTable (xy : XY) (d : Byte) (y z : BitVec 3) (hy : y ≠ 6) (hz : z ≠ 6)
    (h : y = 4 ∨ y = 5 ∨ z = 4 ∨ z = 5) :
    exec (instrOf [xy.byte, opcode 1 y z]) s =
      .next (ld8 (rIndexTable xy d y) (.loc (rIndexTable xy d z)) (s.fetched 2 2 8)) := by
  obtain rfl | rfl | rfl | rfl := h
  case inl | inr.inl =>
    clear hy
    revert z
    cases xy <;> exact forall_register rfl rfl rfl rfl rfl rfl rfl
  all_goals
    clear hz
    revert y
    cases xy <;> exact forall_register rfl rfl rfl rfl rfl rfl rfl

/-- `LD r,(XY+d)` (R205). -/
theorem exec_ld_rTable_idx (xy : XY) (d : Byte) (y : BitVec 3) (hy : y ≠ 6) :
    exec (instrOf [xy.byte, opcode 1 y 6, d]) s = .next (ld8 (rTable y) (.loc (.mem (.idx xy d))) (s.fetched 3 2 19)) := by
  rw [instrOf_three]
  revert y
  cases xy <;> exact forall_register rfl rfl rfl rfl rfl rfl rfl

/-- `LD (XY+d),r` (R206). -/
theorem exec_ld_idx_rTable (xy : XY) (d : Byte) (z : BitVec 3) (hz : z ≠ 6) :
    exec (instrOf [xy.byte, opcode 1 6 z, d]) s = .next (ld8 (.mem (.idx xy d)) (.loc (rTable z)) (s.fetched 3 2 19)) := by
  rw [instrOf_three]
  revert z
  cases xy <;> exact forall_register rfl rfl rfl rfl rfl rfl rfl

/-- `LD (XY+d),n` (R207). -/
theorem exec_ld_idx_imm (xy : XY) (d n : Byte) :
    exec (instrOf [xy.byte, 0x36, d, n]) s = .next (ld8 (.mem (.idx xy d)) (.imm n) (s.fetched 4 2 19)) := by
  rw [instrOf_four]
  cases xy <;> rfl

/-- `LD XYH,n` (R209). -/
theorem exec_ld_high_imm (xy : XY) (n : Byte) :
    exec (instrOf [xy.byte, 0x26, n]) s = .next (ld8 (.reg xy.high) (.imm n) (s.fetched 3 2 11)) := by
  rw [instrOf_three]
  cases xy <;> rfl

/-- `LD XYL,n` (R209). -/
theorem exec_ld_low_imm (xy : XY) (n : Byte) :
    exec (instrOf [xy.byte, 0x2E, n]) s = .next (ld8 (.reg xy.low) (.imm n) (s.fetched 3 2 11)) := by
  rw [instrOf_three]
  cases xy <;> rfl

end

/-- Settles O1: each form is one load (`exec_ld_rTable`, `exec_ld_rTable_imm`) between operands that latch no WZ. -/
theorem loadRegisterAndAtHL : Obligations.LoadRegisterAndAtHL := by
  intro y z n s
  refine ⟨fun hy hz => ?_, fun hy => ?_, fun hy => ?_, fun hz => ?_, ?_⟩
  · rw [exec_ld_rTable s y z (.inl hy), ld8_rTable, State.fetched_readLoc, if_neg (not_or.mpr ⟨hy, hz⟩)]
  · rw [exec_ld_rTable_imm, ld8_rTable_imm, if_neg hy]
  · rw [exec_ld_rTable s y 6 (.inl hy), ld8_rTable, State.fetched_readLoc, if_pos (.inr rfl)]
    rfl
  · rw [exec_ld_rTable s 6 z (.inr hz), ld8_rTable, State.fetched_readLoc, if_pos (.inl rfl)]
    rfl
  · exact (exec_ld_rTable_imm s 6 n).trans (congrArg _ (ld8_rTable_imm _ 6 n))

/-- Settles O2: each form is one load; the fetch changes neither the address of `(XY+d)` (`State.fetched_ea`) nor what is read. -/
theorem indexedLoads : Obligations.IndexedLoads := by
  intro xy y z d n s hy hz
  refine ⟨?_, ?_, ?_, fun h => ?_, ?_, ?_⟩
  · rw [exec_ld_rTable_idx s xy d y hy, ld8_rTable_idx, State.fetched_ea, State.fetched_readMem]
  · rw [exec_ld_idx_rTable s xy d z hz, ld8_idx_rTable, State.fetched_ea, State.fetched_readLoc]
  · rw [exec_ld_idx_imm, ld8_idx_imm, State.fetched_ea]
  · rw [exec_ld_rIndexTable s xy d y z hy hz h, ld8_rIndexTable _ xy d y z hy hz, State.fetched_readLoc]
  · exact exec_ld_high_imm s xy n
  · exact exec_ld_low_imm s xy n

/-! ## A from and to memory, I and R (R210 to R219) -/

/-- `LD A,(nn)` (R212). -/
theorem exec_ld_A_mnn (s : State) (nn : Word) :
    exec (instrOf [0x3A, lo nn, hi nn]) s = .next (loadA (.abs nn) (s.fetched 3 1 13)) := by
  rw [instrOf_three]
  exact of_bytes (f := fun w => Host.Outcome.next (loadA (.abs w) (s.fetched 3 1 13))) nn rfl

/-- `LD (nn),A` (R213). -/
theorem exec_ld_mnn_A (s : State) (nn : Word) :
    exec (instrOf [0x32, lo nn, hi nn]) s = .next (storeA (.abs nn) (s.fetched 3 1 13)) := by
  rw [instrOf_three]
  exact of_bytes (f := fun w => Host.Outcome.next (storeA (.abs w) (s.fetched 3 1 13))) nn rfl

/-- Settles O3: the forms through BC and DE have no operand, so that running their code gives the state; those through nn
are `loadA` and `storeA` at the word that their two bytes make. -/
theorem accumulatorIndirect : Obligations.AccumulatorIndirect := by
  intro nn s
  exact ⟨rfl, rfl, exec_ld_A_mnn s nn, rfl, rfl, exec_ld_mnn_A s nn⟩

/-- Settles O4: none of the four has an operand, so that running its code gives the state, R read and written after the
fetch. -/
theorem interruptAndRefreshTransfers : Obligations.InterruptAndRefreshTransfers :=
  fun _ => ⟨rfl, rfl, rfl, rfl⟩

end Sys2Proof.Machine

/-!
The statements about the 16-bit loads, the stack and the exchanges (41_load16_stack_exchange.md): which operation each form
decodes to, and what that operation does after its fetch.
-/

namespace Sys2Proof.Machine

section
variable (s : State)

/-! ## What the 16-bit operations do after a fetch: it changes no register that they read, SP among them, and no memory -/

/-- IX or IY as a register of the 16-bit file. -/
@[simp] theorem State.reg16_xy (xy : XY) : s.reg16 xy.reg16 = s.xy xy := by cases xy <;> rfl

@[simp] theorem State.fetched_reg16 (len m1 t : Nat) (r : Reg16) : (s.fetched len m1 t).reg16 r = s.reg16 r := by
  cases r <;> rfl

/-- The low byte at `nn`, the high byte after it (R232, R234, R235). -/
theorem store16_fetched (nn : Word) (r : Reg16) (len m1 t : Nat) :
    store16 nn r (s.fetched len m1 t) =
      (((s.fetched len m1 t).writeMem nn (lo (s.reg16 r))).writeMem (nn + 1) (hi (s.reg16 r))).setWz (nn + 1) := by
  rw [store16, State.writeMem16, State.fetched_reg16]

/-- The low byte from `nn`, the high byte from after it (R233, R234, R236). -/
theorem load16_fetched (r : Reg16) (nn : Word) (len m1 t : Nat) :
    load16 r nn (s.fetched len m1 t) =
      ((s.fetched len m1 t).setReg16 r (pair (s.readMem (nn + 1)) (s.readMem nn))).setWz (nn + 1) := by
  rw [load16, State.readMem16, State.fetched_readMem, State.fetched_readMem]

/-- SP becomes the register (R237). -/
theorem ldSp_fetched (r : Reg16) (len m1 t : Nat) :
    ldSp r (s.fetched len m1 t) = (s.fetched len m1 t).setSp (s.reg16 r) := by
  rw [ldSp, State.fetched_reg16]

/-- The high byte below SP, the low byte below it (R238, R240; 20_memory.md R97). -/
theorem push_fetched (r : Reg16) (len m1 t : Nat) :
    push r (s.fetched len m1 t) =
      (((s.fetched len m1 t).writeMem (s.sp - 1) (hi (s.reg16 r))).writeMem (s.sp - 2) (lo (s.reg16 r))).setSp
        (s.sp - 2) := by
  rw [push, State.push16_eq, State.fetched_reg16, State.fetched_sp]

/-- The word at SP, which goes up by 2 (R239, R240; 20_memory.md R97). -/
theorem pop_fetched (r : Reg16) (len m1 t : Nat) :
    pop r (s.fetched len m1 t) = ((s.fetched len m1 t).setSp (s.sp + 2)).setReg16 r s.top16 := by
  rw [pop, State.dropped16, State.top16, State.fetched_sp, State.fetched_readMem, State.fetched_readMem, ← State.top16]

/-- The register into the two bytes at SP, and the word they held into the register and WZ (R242, R243). -/
theorem exSp_fetched (r : Reg16) (len m1 t : Nat) :
    exSp r (s.fetched len m1 t) =
      ((((s.fetched len m1 t).writeMem s.sp (lo (s.reg16 r))).writeMem (s.sp + 1) (hi (s.reg16 r))).setReg16 r
        s.top16).setWz s.top16 := by
  rw [exSp, State.readMem16, State.writeMem16, State.fetched_sp, State.fetched_readMem, State.fetched_readMem,
    State.fetched_reg16, ← State.top16]

/-! ## The forms of the 16-bit loads and their operations (R230 to R237) -/

/-- `LD rp,nn` (R230). -/
theorem exec_ld_rp_nn (p : BitVec 2) (nn : Word) :
    exec (instrOf [opcode 0 (fieldY p 0) 1, lo nn, hi nn]) s = .next (ld16 (rpTable p) nn (s.fetched 3 1 10)) := by
  rw [instrOf_three]
  refine of_bytes (f := fun w => Host.Outcome.next (ld16 (rpTable p) w (s.fetched 3 1 10))) nn ?_
  revert p
  exact forall_field2 rfl rfl rfl rfl

/-- `LD XY,nn` (R231). -/
theorem exec_ld_xy_nn (xy : XY) (nn : Word) :
    exec (instrOf [xy.byte, 0x21, lo nn, hi nn]) s = .next (ld16 xy.reg16 nn (s.fetched 4 2 14)) := by
  rw [instrOf_four]
  refine of_bytes (f := fun w => Host.Outcome.next (ld16 xy.reg16 w (s.fetched 4 2 14))) nn ?_
  cases xy <;> rfl

/-- `LD SP,HL` (R237). -/
theorem exec_ld_SP_HL : exec (instrOf [0xF9]) s = .next (ldSp .hl (s.fetched 1 1 6)) := rfl

/-- `LD SP,XY` (R237). -/
theorem exec_ld_SP_xy (xy : XY) : exec (instrOf [xy.byte, 0xF9]) s = .next (ldSp xy.reg16 (s.fetched 2 2 10)) := by
  cases xy <;> rfl

/-- `LD (nn),HL` (R232). -/
theorem exec_ld_mnn_HL (nn : Word) :
    exec (instrOf [0x22, lo nn, hi nn]) s = .next (store16 nn .hl (s.fetched 3 1 16)) := by
  rw [instrOf_three]
  exact of_bytes (f := fun w => Host.Outcome.next (store16 w .hl (s.fetched 3 1 16))) nn rfl

/-- `LD HL,(nn)` (R233). -/
theorem exec_ld_HL_mnn (nn : Word) :
    exec (instrOf [0x2A, lo nn, hi nn]) s = .next (load16 .hl nn (s.fetched 3 1 16)) := by
  rw [instrOf_three]
  exact of_bytes (f := fun w => Host.Outcome.next (load16 .hl w (s.fetched 3 1 16))) nn rfl

/-- `LD (nn),XY` (R234). -/
theorem exec_ld_mnn_xy (xy : XY) (nn : Word) :
    exec (instrOf [xy.byte, 0x22, lo nn, hi nn]) s = .next (store16 nn xy.reg16 (s.fetched 4 2 20)) := by
  rw [instrOf_four]
  refine of_bytes (f := fun w => Host.Outcome.next (store16 w xy.reg16 (s.fetched 4 2 20))) nn ?_
  cases xy <;> rfl

/-- `LD XY,(nn)` (R234). -/
theorem exec_ld_xy_mnn (xy : XY) (nn : Word) :
    exec (instrOf [xy.byte, 0x2A, lo nn, hi nn]) s = .next (load16 xy.reg16 nn (s.fetched 4 2 20)) := by
  rw [instrOf_four]
  refine of_bytes (f := fun w => Host.Outcome.next (load16 xy.reg16 w (s.fetched 4 2 20))) nn ?_
  cases xy <;> rfl

/-- `LD (nn),rp` after ED, HL among the pairs (R235). -/
theorem exec_ld_mnn_rp (p : BitVec 2) (nn : Word) :
    exec (instrOf [0xED, opcode 1 (fieldY p 0) 3, lo nn, hi nn]) s =
      .next (store16 nn (rpTable p) (s.fetched 4 2 20)) := by
  rw [instrOf_four]
  refine of_bytes (f := fun w => Host.Outcome.next (store16 w (rpTable p) (s.fetched 4 2 20))) nn ?_
  revert p
  exact forall_field2 rfl rfl rfl rfl

/-- `LD rp,(nn)` after ED, HL among the pairs (R236). -/
theorem exec_ld_rp_mnn (p : BitVec 2) (nn : Word) :
    exec (instrOf [0xED, opcode 1 (fieldY p 1) 3, lo nn, hi nn]) s =
      .next (load16 (rpTable p) nn (s.fetched 4 2 20)) := by
  rw [instrOf_four]
  refine of_bytes (f := fun w => Host.Outcome.next (load16 (rpTable p) w (s.fetched 4 2 20))) nn ?_
  revert p
  exact forall_field2 rfl rfl rfl rfl

/-! ## PUSH and POP of the index registers and the exchanges with the stack (R240, R242, R243) -/

/-- `PUSH XY` (R240). -/
theorem exec_push_xy (xy : XY) : exec (instrOf [xy.byte, 0xE5]) s = .next (push xy.reg16 (s.fetched 2 2 15)) := by
  cases xy <;> rfl

/-- `POP XY` (R240). -/
theorem exec_pop_xy (xy : XY) : exec (instrOf [xy.byte, 0xE1]) s = .next (pop xy.reg16 (s.fetched 2 2 14)) := by
  cases xy <;> rfl

/-- `EX (SP),HL` (R242). -/
theorem exec_ex_mSP_HL : exec (instrOf [0xE3]) s = .next (exSp .hl (s.fetched 1 1 19)) := rfl

/-- `EX (SP),XY` (R243). -/
theorem exec_ex_mSP_xy (xy : XY) : exec (instrOf [xy.byte, 0xE3]) s = .next (exSp xy.reg16 (s.fetched 2 2 23)) := by
  cases xy <;> rfl

end

/-- Settles O5: each form is one load or store of a register (the `exec_ld_` lemmas above), and the fetch before it changes
nothing that it reads. -/
theorem pairLoads : Obligations.PairLoads := by
  intro p xy nn s
  refine ⟨exec_ld_rp_nn s p nn, exec_ld_xy_nn s xy nn, ?_, ?_, ?_, ?_, ?_, ?_, ?_, ?_⟩
  · rw [exec_ld_SP_HL, ldSp_fetched, State.reg16]
  · rw [exec_ld_SP_xy, ldSp_fetched, State.reg16_xy]
  · rw [exec_ld_mnn_HL, store16_fetched, State.reg16]
  · rw [exec_ld_HL_mnn, load16_fetched, State.setReg16]
  · rw [exec_ld_mnn_xy, store16_fetched, State.reg16_xy]
  · rw [exec_ld_xy_mnn, load16_fetched]
  · rw [exec_ld_mnn_rp, store16_fetched]
  · rw [exec_ld_rp_mnn, load16_fetched]

/-- Settles O6: each form is one `push` or `pop` of a register (`exec_push`, `exec_pop`, and their forms for IX and IY), with
the two bytes and SP of `push_fetched` and `pop_fetched`. -/
theorem pushAndPop : Obligations.PushAndPop := by
  intro p xy s
  refine ⟨?_, ?_, ?_, ?_⟩
  · rw [exec_push, push_fetched]
  · rw [exec_push_xy, push_fetched, State.reg16_xy]
  · rw [exec_pop, pop_fetched, State.top16]
  · rw [exec_pop_xy, pop_fetched, State.top16]

/-- Settles O7: the exchanges with the stack by `exSp_fetched`; the three between registers have no operand and touch no
memory, so that running their code gives the state. -/
theorem exchanges : Obligations.Exchanges := by
  intro xy s
  refine ⟨rfl, ?_, ?_, rfl, rfl⟩
  · rw [exec_ex_mSP_HL, exSp_fetched, State.top16, State.reg16, State.setReg16]
  · rw [exec_ex_mSP_xy, exSp_fetched, State.top16, State.reg16_xy]

end Sys2Proof.Machine

/-!
The statements about the flags of 8-bit arithmetic and logic (42_alu8.md): the carries, borrows and overflows as facts on
integers, and DAA on packed decimal digits.
-/

namespace Sys2Proof.Machine

/-! ## The bits of F (10_state.md R37) -/

@[simp] theorem bitIf_getElem (p : Bool) (mask : Byte) (i : Nat) (h : i < 8) : (bitIf p mask)[i] = (p && mask[i]) := by
  cases p <;> simp [bitIf]

/-- A condition that is an equation of bytes, as `if` on the equation. -/
theorem bitIf_beq (x y mask : Byte) : bitIf (x == y) mask = if x = y then mask else 0 := by simp [bitIf]

/-- The eight flags of F. -/
structure FlagsAre (f : Byte) (sign zero y half x pv n c : Bool) : Prop where
  sign : fS f = sign
  zero : fZ f = zero
  y : fY f = y
  half : fH f = half
  x : fX f = x
  pv : fP f = pv
  n : fN f = n
  c : fC f = c

/-- The sign bit of a byte. -/
theorem getLsbD_seven (w : Byte) : w.getLsbD 7 = decide (128 ≤ w.toNat) :=
  (BitVec.msb_eq_getLsbD_last w).symm.trans (BitVec.msb_eq_decide w)

/-- The sign bit is set where the byte is negative. -/
theorem getLsbD_seven_eq_toInt (w : Byte) : w.getLsbD 7 = decide (w.toInt < 0) :=
  (BitVec.msb_eq_getLsbD_last w).symm.trans BitVec.msb_eq_toInt

/-! ## Carry and overflow on integers (R262 to R265) -/

/-- Bit 4 of the sum differs from that of its terms where the low digits carry; the carry-in is a bit. -/
theorem halfCarry_sum (a v : Byte) (c : Bool) :
    halfCarry a v (BitVec.ofNat 8 (a.toNat + v.toNat + c.toNat)) = decide (15 < a.toNat % 16 + v.toNat % 16 + c.toNat) := by
  have hw : BitVec.ofNat 8 (a.toNat + v.toNat + c.toNat) = a + v + BitVec.setWidth 8 (BitVec.ofBool c) := by
    apply BitVec.eq_of_toNat_eq
    cases c <;> simp [Nat.add_mod]
  have hcarry : BitVec.carry 4 a v c = decide (15 < a.toNat % 16 + v.toNat % 16 + c.toNat) := rfl
  rw [hw, halfCarry, BitVec.getLsbD_xor, BitVec.getLsbD_add_add_bool (by decide), hcarry, BitVec.getLsbD_xor,
    ← Bool.xor_assoc, ← Bool.xor_assoc, Bool.xor_assoc _ (a.getLsbD 4), Bool.xor_self, Bool.false_xor]

/-- The three bytes of a half carry stand alike. -/
theorem halfCarry_swap (a v r : Byte) : halfCarry a v r = halfCarry r v a := by
  rw [halfCarry, halfCarry]
  ac_rfl

/-- The minuend is the sum of the subtrahend, the difference and the borrow, so bit 4 shows the carry of that sum. -/
theorem halfCarry_difference (a v : Byte) (c : Bool) :
    halfCarry a v (BitVec.ofInt 8 ((a.toNat : Int) - v.toNat - (c.toNat : Nat))) =
      decide (a.toNat % 16 < v.toNat % 16 + c.toNat) := by
  have hc := c.toNat_le
  generalize hr : BitVec.ofInt 8 ((a.toNat : Int) - v.toNat - (c.toNat : Nat)) = r
  have hr' : (r.toNat : Int) = ((a.toNat : Int) - v.toNat - (c.toNat : Nat)) % 256 := by
    rw [← hr, BitVec.toNat_ofInt]
    omega
  have ha : a = BitVec.ofNat 8 (r.toNat + v.toNat + c.toNat) := by
    apply BitVec.eq_of_toNat_eq
    rw [BitVec.toNat_ofNat]
    omega
  calc halfCarry a v r
      = halfCarry r v (BitVec.ofNat 8 (r.toNat + v.toNat + c.toNat)) := by rw [halfCarry_swap, ← ha]
    _ = decide (15 < r.toNat % 16 + v.toNat % 16 + c.toNat) := halfCarry_sum r v c
    _ = decide (a.toNat % 16 < v.toNat % 16 + c.toNat) := by rw [decide_eq_decide]; omega

/-- The sum leaves the signed range where it has the sign of neither term. -/
theorem addOverflow_sum (a v : Byte) {c : Nat} (hc : c ≤ 1) :
    addOverflow a v (BitVec.ofNat 8 (a.toNat + v.toNat + c)) =
      decide (a.toInt + v.toInt + (c : Int) < -128 ∨ 127 < a.toInt + v.toInt + (c : Int)) := by
  rw [Bool.eq_iff_iff, addOverflow, BitVec.getLsbD_and, BitVec.getLsbD_xor, BitVec.getLsbD_xor]
  simp only [getLsbD_seven, BitVec.toNat_ofNat, Bool.and_eq_true,
    bne_iff_ne, ne_eq, decide_eq_decide, decide_eq_true_eq, BitVec.toInt_eq_toNat_cond]
  omega

/-- The difference leaves the signed range where the signs of the terms differ and it has not that of the first. -/
theorem subOverflow_difference (a v : Byte) {c : Nat} (hc : c ≤ 1) :
    subOverflow a v (BitVec.ofInt 8 ((a.toNat : Int) - v.toNat - (c : Int))) =
      decide (a.toInt - v.toInt - (c : Int) < -128 ∨ 127 < a.toInt - v.toInt - (c : Int)) := by
  rw [Bool.eq_iff_iff, subOverflow, BitVec.getLsbD_and, BitVec.getLsbD_xor, BitVec.getLsbD_xor]
  simp only [getLsbD_seven, BitVec.toNat_ofInt, Bool.and_eq_true,
    bne_iff_ne, ne_eq, decide_eq_decide, decide_eq_true_eq, BitVec.toInt_eq_toNat_cond]
  omega

/-! ## Sums and differences with their flags -/

/-- The byte of a sum. -/
theorem addBytes_toNat (a v : Byte) (c : Nat) : (addBytes a v c).1.toNat = (a.toNat + v.toNat + c) % 256 :=
  BitVec.toNat_ofNat ..

/-- The byte of a difference. -/
theorem subBytes_toNat (a v : Byte) (c : Nat) : ((subBytes a v c).1.toNat : Int) = ((a.toNat : Int) - v.toNat - c) % 256 := by
  rw [subBytes, BitVec.toNat_ofInt]
  omega

/-- F of a sum. -/
theorem addBytes_flags (a v : Byte) (c : Bool) :
    FlagsAre (addBytes a v c.toNat).2 (decide ((addBytes a v c.toNat).1.toInt < 0)) (decide ((addBytes a v c.toNat).1 = 0))
      ((addBytes a v c.toNat).1.getLsbD 5) (decide (15 < a.toNat % 16 + v.toNat % 16 + c.toNat))
      ((addBytes a v c.toNat).1.getLsbD 3)
      (decide (a.toInt + v.toInt + (c.toNat : Int) < -128 ∨ 127 < a.toInt + v.toInt + (c.toNat : Int))) false
      (decide (255 < a.toNat + v.toNat + c.toNat)) := by
  rw [← getLsbD_seven_eq_toInt, ← halfCarry_sum, ← addOverflow_sum a v c.toNat_le]
  constructor <;> simp [addBytes, fS, fZ, fY, fH, fX, fP, fN, fC, sz53, Bool.beq_eq_decide_eq]

/-- F of a difference. -/
theorem subBytes_flags (a v : Byte) (c : Bool) :
    FlagsAre (subBytes a v c.toNat).2 (decide ((subBytes a v c.toNat).1.toInt < 0)) (decide ((subBytes a v c.toNat).1 = 0))
      ((subBytes a v c.toNat).1.getLsbD 5) (decide (a.toNat % 16 < v.toNat % 16 + c.toNat))
      ((subBytes a v c.toNat).1.getLsbD 3)
      (decide (a.toInt - v.toInt - (c.toNat : Int) < -128 ∨ 127 < a.toInt - v.toInt - (c.toNat : Int))) true
      (decide (a.toNat < v.toNat + c.toNat)) := by
  have hborrow : decide (a.toNat < v.toNat + c.toNat) = decide ((a.toNat : Int) - v.toNat - (c.toNat : Nat) < 0) := by
    rw [decide_eq_decide]
    omega
  rw [← getLsbD_seven_eq_toInt, ← halfCarry_difference, ← subOverflow_difference a v c.toNat_le, hborrow]
  constructor <;> simp [subBytes, fS, fZ, fY, fH, fX, fP, fN, fC, sz53, Bool.beq_eq_decide_eq]

/-- A difference without borrow is zero where the two bytes are the same. -/
theorem subBytes_eq_zero_iff (a v : Byte) : (subBytes a v 0).1 = 0 ↔ a = v := by
  have h := subBytes_toNat a v 0
  rw [← BitVec.toNat_inj, ← BitVec.toNat_inj, BitVec.ofNat_eq_ofNat, BitVec.toNat_zero]
  omega

theorem toNat_eq_if (c : Bool) : c.toNat = if c then 1 else 0 := by cases c <;> rfl

/-- Settles O10: ADD and ADC are one sum (`addBytes_flags`) with the carry-in 0 or C. -/
theorem addFlagsAreCarries : Obligations.AddFlagsAreCarries := by
  intro a v f
  have hadd := addBytes_flags a v false
  have hadc := addBytes_flags a v (fC f)
  simp only [Bool.toNat_false, Nat.add_zero, Int.natCast_zero, Int.add_zero] at hadd
  simp only [aluResult, carry, ← toNat_eq_if]
  exact ⟨⟨addBytes_toNat a v 0, hadd.sign, hadd.zero, hadd.y, hadd.x, hadd.half, hadd.pv, hadd.n, hadd.c⟩,
    addBytes_toNat a v _, hadc.sign, hadc.zero, hadc.y, hadc.x, hadc.half, hadc.pv, hadc.n, hadc.c⟩

/-- F of a comparison: that of the difference, with Y and X of the operand. -/
theorem compareFlags_flags (a v : Byte) :
    FlagsAre (compareFlags a v) (fS (subBytes a v 0).2) (fZ (subBytes a v 0).2) (v.getLsbD 5) (fH (subBytes a v 0).2)
      (v.getLsbD 3) (fP (subBytes a v 0).2) (fN (subBytes a v 0).2) (fC (subBytes a v 0).2) := by
  constructor <;> simp [compareFlags, yx, fS, fZ, fY, fH, fX, fP, fN, fC]

/-- Settles O11: SUB and SBC are one difference (`subBytes_flags`) with the borrow-in 0 or C, and CP takes its flags. -/
theorem subtractFlagsAreBorrows : Obligations.SubtractFlagsAreBorrows := by
  intro a v f
  have hsub := subBytes_flags a v false
  have hsbc := subBytes_flags a v (fC f)
  have hcp := compareFlags_flags a v
  simp only [Bool.toNat_false, Nat.add_zero, Int.natCast_zero, Int.sub_zero, subBytes_eq_zero_iff] at hsub
  have hbyte := subBytes_toNat a v 0
  rw [Int.natCast_zero, Int.sub_zero] at hbyte
  simp only [aluResult, carry, ← toNat_eq_if]
  exact ⟨⟨hbyte, hsub.sign, hsub.zero, hsub.y, hsub.x, hsub.half, hsub.pv, hsub.n, hsub.c⟩,
    ⟨subBytes_toNat a v _, hsbc.sign, hsbc.zero, hsbc.y, hsbc.x, hsbc.half, hsbc.pv, hsbc.n, hsbc.c⟩,
    trivial, hcp.sign, hcp.zero, hcp.y, hcp.x, hcp.half, hcp.pv, hcp.n.trans hsub.n, hcp.c⟩

/-! ## AND, XOR and OR (R266 to R268) -/

/-- `PAR` counts the bits (00_scope.md R13). -/
theorem par_eq_count (w : Byte) :
    par w = decide (((List.range 8).filter (fun k => w.getLsbD k)).length % 2 = 0) := by
  rw [par, ← List.countP_eq_length_filter, Bool.beq_eq_decide_eq]
  simp only [List.range, List.range.loop, List.countP_cons, List.countP_nil, ← toNat_eq_if]
  rw [decide_eq_decide]
  omega

/-- F of a logical operation: `SZ53P` of the result, and H. -/
theorem logical_flags {w f : Byte} {half : Bool} (hf : f = sz53P w ||| bitIf half 0x10) :
    FlagsAre f (w.getLsbD 7) (decide (w = 0)) (w.getLsbD 5) half (w.getLsbD 3)
      (decide (((List.range 8).filter (fun k => w.getLsbD k)).length % 2 = 0)) false false := by
  rw [← par_eq_count, hf]
  constructor <;> simp [sz53P, fS, fZ, fY, fH, fX, fP, fN, fC, sz53, Bool.beq_eq_decide_eq]

/-- Settles O12: the three operations differ in their byte and in H alone (`logical_flags`). -/
theorem logicalOperations : Obligations.LogicalOperations := by
  intro a v f
  have hand := logical_flags (w := a &&& v) (half := true) rfl
  have hxor := logical_flags (w := a ^^^ v) (half := false) BitVec.or_zero.symm
  have hor := logical_flags (w := a ||| v) (half := false) BitVec.or_zero.symm
  exact ⟨rfl, ⟨hand.sign, hand.zero, hand.y, hand.half, hand.x, hand.pv, hand.n, hand.c⟩,
    rfl, ⟨hxor.sign, hxor.zero, hxor.y, hxor.half, hxor.x, hxor.pv, hxor.n, hxor.c⟩,
    rfl, hor.sign, hor.zero, hor.y, hor.half, hor.x, hor.pv, hor.n, hor.c⟩

/-! ## DAA on packed decimal digits (R273) -/

theorem and_low_digit (a : Byte) : (a &&& 0x0F).toNat = a.toNat % 16 := by
  rw [BitVec.toNat_and]
  exact Nat.and_two_pow_sub_one_eq_mod a.toNat 4

/-- The correction that DAA adds or subtracts. -/
theorem bitIf_or_bitIf (low high : Bool) :
    bitIf low 0x06 ||| bitIf high 0x60 = if low then (if high then 0x66 else 0x06) else (if high then 0x60 else 0) := by
  cases low <;> cases high <;> rfl

/-- The byte that DAA gives, where `low` and `high` are its two conditions: the correction of each digit added or, after a
subtraction, taken away. -/
theorem daaResult_toNat {a f : Byte} {low high : Prop} [Decidable low] [Decidable high]
    (hlow : fH f = true ∨ 9 < a.toNat % 16 ↔ low) (hhigh : fC f = true ∨ 0x99 < a.toNat ↔ high) :
    (daaResult a f).1.toNat =
      if fN f then (a.toNat + 256 - ((if low then 6 else 0) + (if high then 96 else 0))) % 256
      else (a.toNat + ((if low then 6 else 0) + (if high then 96 else 0))) % 256 := by
  simp only [daaResult, bitIf_or_bitIf, and_low_digit, Bool.or_eq_true, decide_eq_true_eq, hlow, hhigh]
  by_cases hl : low <;> by_cases hh : high <;> simp only [hl, hh, if_true, if_false]
  all_goals split
  all_goals simp only [BitVec.toNat_sub, BitVec.toNat_add, BitVec.ofNat_eq_ofNat, BitVec.toNat_ofNat]
  all_goals omega

/-- C after DAA, by the second condition. -/
theorem daaResult_carry {a f : Byte} {high : Prop} [Decidable high] (hhigh : fC f = true ∨ 0x99 < a.toNat ↔ high) :
    fC (daaResult a f).2 = decide high := by
  rw [Bool.eq_iff_iff, decide_eq_true_iff, ← hhigh]
  simp [daaResult, sz53P, sz53, fC]

/-- A number below 100 in packed BCD: the tens in the high digit, the ones in the low digit. -/
def packedBcd (n : Nat) : Byte := BitVec.ofNat 8 (n / 10 * 16 + n % 10)

theorem packedBcd_toNat {n : Nat} (h : n < 100) : (packedBcd n).toNat = n / 10 * 16 + n % 10 := by
  rw [packedBcd, BitVec.toNat_ofNat]
  omega

section
variable {x y : Nat} (hx : x < 100) (hy : y < 100)
include hx hy

/-- A sum's low digit is corrected where the ones carry, its high digit where the sum is 100 or more. -/
theorem daaResult_addBytes :
    let sum := addBytes (packedBcd x) (packedBcd y) 0
    (daaResult sum.1 sum.2).1 = packedBcd ((x + y) % 100) ∧ fC (daaResult sum.1 sum.2).2 = decide (100 ≤ x + y) := by
  intro sum
  have hw : sum.1.toNat = _ := addBytes_toNat (packedBcd x) (packedBcd y) 0
  have hflags := addBytes_flags (packedBcd x) (packedBcd y) false
  have hhalf : fH sum.2 = _ := hflags.half
  have hcarry : fC sum.2 = _ := hflags.c
  have hn : fN sum.2 = _ := hflags.n
  rw [packedBcd_toNat hx, packedBcd_toNat hy] at hw hhalf hcarry
  have hlow : fH sum.2 = true ∨ 9 < sum.1.toNat % 16 ↔ 10 ≤ x % 10 + y % 10 := by
    rw [hhalf, hw, decide_eq_true_eq, Bool.toNat_false]
    omega
  have hhigh : fC sum.2 = true ∨ 0x99 < sum.1.toNat ↔ 100 ≤ x + y := by
    have horder : 0x99 < x / 10 * 16 + x % 10 + (y / 10 * 16 + y % 10) ↔ 100 ≤ x + y := by omega
    rw [hcarry, hw, decide_eq_true_eq, Bool.toNat_false]
    omega
  refine ⟨BitVec.eq_of_toNat_eq ?_, daaResult_carry hhigh⟩
  rw [daaResult_toNat hlow hhigh, hn, hw, packedBcd_toNat (Nat.mod_lt _ (by decide)), if_neg Bool.false_ne_true]
  split <;> split <;> omega

/-- A difference's low digit is corrected where the ones borrow, its high digit where the first number is the smaller. -/
theorem daaResult_subBytes :
    let difference := subBytes (packedBcd x) (packedBcd y) 0
    (daaResult difference.1 difference.2).1 = packedBcd ((100 + x - y) % 100) ∧
      fC (daaResult difference.1 difference.2).2 = decide (x < y) := by
  intro difference
  have hw : (difference.1.toNat : Int) = _ := subBytes_toNat (packedBcd x) (packedBcd y) 0
  have hflags := subBytes_flags (packedBcd x) (packedBcd y) false
  have hhalf : fH difference.2 = _ := hflags.half
  have hcarry : fC difference.2 = _ := hflags.c
  have hn : fN difference.2 = _ := hflags.n
  rw [packedBcd_toNat hx, packedBcd_toNat hy] at hw hhalf hcarry
  have hlow : fH difference.2 = true ∨ 9 < difference.1.toNat % 16 ↔ x % 10 < y % 10 := by
    rw [hhalf, decide_eq_true_eq, Bool.toNat_false]
    omega
  have hhigh : fC difference.2 = true ∨ 0x99 < difference.1.toNat ↔ x < y := by
    have horder : x / 10 * 16 + x % 10 < y / 10 * 16 + y % 10 ↔ x < y := by omega
    have htop : x / 10 * 16 + x % 10 ≤ 0x99 := by omega
    rw [hcarry, decide_eq_true_eq, Bool.toNat_false]
    omega
  refine ⟨BitVec.eq_of_toNat_eq ?_, daaResult_carry hhigh⟩
  rw [daaResult_toNat hlow hhigh, hn, packedBcd_toNat (Nat.mod_lt _ (by decide)), if_pos rfl]
  split <;> split <;> omega

end

/-- Settles O15: DAA after ADD and after SUB (`daaResult_addBytes`, `daaResult_subBytes`). -/
theorem decimalAdjustIsDecimal : Obligations.DecimalAdjustIsDecimal := by
  intro x y hx hy f
  have hsum := daaResult_addBytes hx hy
  have hdifference := daaResult_subBytes hx hy
  exact ⟨hsum.1, hsum.2, hdifference.1, hdifference.2⟩

end Sys2Proof.Machine

/-!
The statements about the instructions of 42_alu8.md: which operation each form decodes to, and what that operation does to A,
F and the byte after the fetch.
-/

namespace Sys2Proof.Machine

/-! ## The forms of the accumulator operations (R260) -/

/-- An accumulator operation on the byte v that its source reads after the latch. -/
theorem alu_eq (op : AluOp) {src : Src} {s t : State} {v : Byte} (hlatch : src.latch s = t) (hv : t.readSrc src = v) :
    alu op src s = (t.setA (aluResult op t.a v t.f).1).setF (aluResult op t.a v t.f).2 := by
  rw [alu, hlatch, hv]

section
variable (s : State)

/-- Entries of the register table, (HL) among them. -/
theorem exec_alu_rTable (y z : BitVec 3) :
    exec (instrOf [opcode 2 y z]) s =
      .next (alu (aluTable y) (.loc (rTable z)) (s.fetched 1 1 (if z = 6 then 7 else 4))) := by
  revert z
  revert y
  apply forall_field3 <;> exact forall_field3 rfl rfl rfl rfl rfl rfl rfl rfl

/-- The immediate. -/
theorem exec_alu_imm (y : BitVec 3) (n : Byte) :
    exec (instrOf [opcode 3 y 6, n]) s = .next (alu (aluTable y) (.imm n) (s.fetched 2 1 7)) := by
  rw [instrOf_two]
  revert y
  exact forall_field3 rfl rfl rfl rfl rfl rfl rfl rfl

/-- The high half of XY. -/
theorem exec_alu_high (xy : XY) (y : BitVec 3) :
    exec (instrOf [xy.byte, opcode 2 y 4]) s = .next (alu (aluTable y) (.loc (.reg xy.high)) (s.fetched 2 2 8)) := by
  revert y
  cases xy <;> exact forall_field3 rfl rfl rfl rfl rfl rfl rfl rfl

/-- The low half of XY. -/
theorem exec_alu_low (xy : XY) (y : BitVec 3) :
    exec (instrOf [xy.byte, opcode 2 y 5]) s = .next (alu (aluTable y) (.loc (.reg xy.low)) (s.fetched 2 2 8)) := by
  revert y
  cases xy <;> exact forall_field3 rfl rfl rfl rfl rfl rfl rfl rfl

/-- `(XY+d)`. -/
theorem exec_alu_idx (xy : XY) (y : BitVec 3) (d : Byte) :
    exec (instrOf [xy.byte, opcode 2 y 6, d]) s =
      .next (alu (aluTable y) (.loc (.mem (.idx xy d))) (s.fetched 3 2 19)) := by
  rw [instrOf_three]
  revert y
  cases xy <;> exact forall_field3 rfl rfl rfl rfl rfl rfl rfl rfl

end

/-- Settles O9: each form is one accumulator operation (the `exec_alu_` lemmas) on the byte that its source reads, and the
fetch changes neither that byte nor A nor F. -/
theorem accumulatorOperationForms : Obligations.AccumulatorOperationForms := by
  intro y z n d xy s result done
  refine ⟨fun hz => ?_, ?_, ?_, ?_, ?_, ?_⟩
  · rw [exec_alu_rTable, if_neg hz, alu_eq _ (src := .loc (rTable z)) (rTable_latch _ z) (State.fetched_readLoc ..)]
    rfl
  · exact exec_alu_rTable s y 6
  · exact exec_alu_imm s y n
  · rw [exec_alu_high, alu_eq _ rfl rfl]
    cases xy <;> rfl
  · rw [exec_alu_low, alu_eq _ rfl rfl]
    cases xy <;> rfl
  · rw [exec_alu_idx, alu_eq _ rfl rfl]
    cases xy <;> rfl

/-! ## INC and DEC of a byte (R270 to R272) -/

/-- INC on the byte v read after the latch. -/
theorem incLoc_eq {m : Loc} {s t : State} {v f : Byte} (hlatch : m.latch s = t) (hv : t.readLoc m = v) (hf : t.f = f) :
    incLoc m s = (t.writeLoc m (v + 1)).setF
      (sz53 (v + 1) ||| (if v &&& 0x0F = 0x0F then 0x10 else 0) ||| (if v = 0x7F then 0x04 else 0) ||| (f &&& 0x01)) := by
  rw [incLoc, hlatch, hv, hf, incFlags, bitIf_beq, bitIf_beq]

/-- DEC on the byte v read after the latch. -/
theorem decLoc_eq {m : Loc} {s t : State} {v f : Byte} (hlatch : m.latch s = t) (hv : t.readLoc m = v) (hf : t.f = f) :
    decLoc m s = (t.writeLoc m (v - 1)).setF
      (sz53 (v - 1) ||| (if v &&& 0x0F = 0 then 0x10 else 0) ||| (if v = 0x80 then 0x04 else 0) ||| 0x02 |||
        (f &&& 0x01)) := by
  rw [decLoc, hlatch, hv, hf, decFlags, bitIf_beq, bitIf_beq]

section
variable (s : State)

/-- INC of entries of the register table, (HL) among them. -/
theorem exec_inc_rTable (k : BitVec 3) :
    exec (instrOf [opcode 0 k 4]) s = .next (incLoc (rTable k) (s.fetched 1 1 (if k = 6 then 11 else 4))) := by
  revert k
  exact forall_field3 rfl rfl rfl rfl rfl rfl rfl rfl

/-- DEC of entries of the register table, (HL) among them. -/
theorem exec_dec_rTable (k : BitVec 3) :
    exec (instrOf [opcode 0 k 5]) s = .next (decLoc (rTable k) (s.fetched 1 1 (if k = 6 then 11 else 4))) := by
  revert k
  exact forall_field3 rfl rfl rfl rfl rfl rfl rfl rfl

/-- INC and DEC of the halves of XY. -/
theorem exec_inc_dec_half (xy : XY) :
    exec (instrOf [xy.byte, 0x24]) s = .next (incLoc (.reg xy.high) (s.fetched 2 2 8)) ∧
    exec (instrOf [xy.byte, 0x2C]) s = .next (incLoc (.reg xy.low) (s.fetched 2 2 8)) ∧
    exec (instrOf [xy.byte, 0x25]) s = .next (decLoc (.reg xy.high) (s.fetched 2 2 8)) ∧
    exec (instrOf [xy.byte, 0x2D]) s = .next (decLoc (.reg xy.low) (s.fetched 2 2 8)) := by
  cases xy <;> exact ⟨rfl, rfl, rfl, rfl⟩

/-- INC and DEC of `(XY+d)`. -/
theorem exec_inc_dec_idx (xy : XY) (d : Byte) :
    exec (instrOf [xy.byte, 0x34, d]) s = .next (incLoc (.mem (.idx xy d)) (s.fetched 3 2 23)) ∧
    exec (instrOf [xy.byte, 0x35, d]) s = .next (decLoc (.mem (.idx xy d)) (s.fetched 3 2 23)) := by
  rw [instrOf_three, instrOf_three]
  cases xy <;> exact ⟨rfl, rfl⟩

end

/-- Settles O13: each form is `incLoc` or `decLoc` of one location, and the fetch changes neither the byte read nor F. -/
theorem incrementAndDecrementByte : Obligations.IncrementAndDecrementByte := by
  intro k d xy s incF decF r m x
  obtain ⟨hincHigh, hincLow, hdecHigh, hdecLow⟩ := exec_inc_dec_half s xy
  obtain ⟨hincIdx, hdecIdx⟩ := exec_inc_dec_idx s xy d
  refine ⟨fun hk => ?_, fun hk => ?_, (exec_inc_rTable s 6).trans (congrArg _ (incLoc_eq rfl rfl rfl)),
    (exec_dec_rTable s 6).trans (congrArg _ (decLoc_eq rfl rfl rfl)), hincHigh.trans (congrArg _ ?_),
    hincLow.trans (congrArg _ ?_), hdecHigh.trans (congrArg _ ?_), hdecLow.trans (congrArg _ ?_),
    hincIdx.trans (congrArg _ ?_), hdecIdx.trans (congrArg _ ?_)⟩
  · rw [exec_inc_rTable, if_neg hk, incLoc_eq (rTable_latch _ k) (State.fetched_readLoc ..) rfl]
    rfl
  · rw [exec_dec_rTable, if_neg hk, decLoc_eq (rTable_latch _ k) (State.fetched_readLoc ..) rfl]
    rfl
  · cases xy <;> exact incLoc_eq rfl rfl rfl
  · cases xy <;> exact incLoc_eq rfl rfl rfl
  · cases xy <;> exact decLoc_eq rfl rfl rfl
  · cases xy <;> exact decLoc_eq rfl rfl rfl
  · cases xy <;> exact incLoc_eq rfl rfl rfl
  · cases xy <;> exact decLoc_eq rfl rfl rfl

/-! ## DAA, CPL, NEG, SCF and CCF (R273 to R277) -/

/-- DAA with the two conditions of its correction spelled out. -/
theorem daaResult_eq (a f : Byte) :
    let low := fH f = true ∨ 9 < (a &&& 0x0F).toNat
    let high := fC f = true ∨ 0x99 < a.toNat
    let corr : Byte := if low then (if high then 0x66 else 0x06) else (if high then 0x60 else 0)
    let w : Byte := if fN f then a - corr else a + corr
    daaResult a f = (w, sz53P w ||| ((a ^^^ w) &&& 0x10) ||| (f &&& 0x02) ||| (if high then 0x01 else 0)) := by
  have hbit (v : Byte) : bitIf (v.getLsbD 4) 0x10 = v &&& 0x10 := (BitVec.and_twoPow v 4).symm
  simp only [daaResult, bitIf_or_bitIf, hbit]
  simp only [bitIf, Bool.or_eq_true, decide_eq_true_eq]

/-- CPL inverts every bit (R274). -/
theorem cplResult_eq (a f : Byte) : cplResult a f = (~~~a, (f &&& 0xC5) ||| 0x12 ||| (~~~a &&& 0x28)) := by
  rw [cplResult, yx, ← BitVec.xor_allOnes]
  rfl

/-- NEG is the difference from 0 (R275): it borrows where A, or its low digit, is not 0, and overflows at 0x80. -/
theorem subBytes_zero_left (a : Byte) :
    subBytes 0 a 0 =
      (-a, sz53 (-a) ||| (if a &&& 0x0F ≠ 0 then 0x10 else 0) ||| (if a = 0x80 then 0x04 else 0) ||| 0x02 |||
        (if a ≠ 0 then 0x01 else 0)) := by
  have hzero : (0 : Byte).toNat = 0 := rfl
  have hmin : (0x80 : Byte).toNat = 128 := rfl
  have hw : BitVec.ofInt 8 (((0 : Byte).toNat : Int) - a.toNat - (0 : Nat)) = -a := by
    apply BitVec.eq_of_toNat_eq
    rw [BitVec.toNat_ofInt, BitVec.toNat_neg, hzero]
    omega
  have hhalf : halfCarry 0 a (-a) = decide (a &&& 0x0F ≠ 0) := by
    rw [← hw]
    refine (halfCarry_difference 0 a false).trans ?_
    rw [decide_eq_decide, ne_eq, ← BitVec.toNat_inj, and_low_digit, hzero, Bool.toNat_false]
    omega
  have hoverflow : subOverflow 0 a (-a) = decide (a = 0x80) := by
    rw [← hw, subOverflow_difference 0 a (Nat.zero_le 1), decide_eq_decide, ← BitVec.toNat_inj, BitVec.toInt_eq_toNat_cond,
      BitVec.toInt_eq_toNat_cond, hzero, hmin]
    omega
  have hborrow : decide (((0 : Byte).toNat : Int) - a.toNat - (0 : Nat) < 0) = decide (a ≠ 0) := by
    rw [decide_eq_decide, ne_eq, ← BitVec.toNat_inj, hzero]
    omega
  simp only [subBytes, hw, hhalf, hoverflow, hborrow]
  simp only [bitIf, decide_eq_true_eq]

/-- CCF moves C into H and inverts it (R277). -/
theorem ccfFlags_eq (a f : Byte) :
    ccfFlags a f = (f &&& 0xC4) ||| (a &&& 0x28) ||| (if fC f then 0x10 else 0x01) := by
  rw [ccfFlags, yx, BitVec.or_assoc _ (bitIf _ _)]
  cases fC f <;> rfl

section
variable (s : State)

theorem exec_daa : exec (instrOf [0x27]) s = .next (daa (s.fetched 1 1 4)) := rfl

theorem exec_cpl : exec (instrOf [0x2F]) s = .next (cpl (s.fetched 1 1 4)) := rfl

/-- NEG in each of its encodings. -/
theorem exec_neg (y : BitVec 3) : exec (instrOf [0xED, opcode 1 y 4]) s = .next (neg (s.fetched 2 2 8)) := by
  revert y
  exact forall_field3 rfl rfl rfl rfl rfl rfl rfl rfl

theorem exec_ccf : exec (instrOf [0x3F]) s = .next (ccf (s.fetched 1 1 4)) := rfl

end

/-- Settles O14: each operation sets A and F from the old ones, which the fetch keeps; F after SCF is the
model's own expression. -/
theorem accumulatorAndFlagOperations : Obligations.AccumulatorAndFlagOperations := by
  intro y s low high corr w
  refine ⟨?_, ?_, ?_, rfl, ?_⟩
  · rw [exec_daa, daa, daaResult_eq]
    rfl
  · rw [exec_cpl, cpl, cplResult_eq]
    rfl
  · rw [exec_neg, neg, subBytes_zero_left]
    rfl
  · rw [exec_ccf, ccf, ccfFlags_eq]
    rfl

end Sys2Proof.Machine

/-!
The statements about 16-bit arithmetic (43_alu16.md): the flags of a sum and of a difference of words as facts on integers,
then which operation each form decodes to and what it does after its fetch.
-/

namespace Sys2Proof.Machine

/-! ## Bits of a word and of F -/

/-- The sign bit of a word. -/
theorem getLsbD_fifteen (w : Word) : w.getLsbD 15 = decide (32768 ≤ w.toNat) :=
  (BitVec.msb_eq_getLsbD_last w).symm.trans (BitVec.msb_eq_decide w)

/-- The sign bit is set where the word is negative. -/
theorem getLsbD_fifteen_eq_toInt (w : Word) : w.getLsbD 15 = decide (w.toInt < 0) :=
  (BitVec.msb_eq_getLsbD_last w).symm.trans BitVec.msb_eq_toInt

/-- The sign bit by its mask. -/
theorem bitIf_getLsbD_fifteen (w : Word) (mask : Byte) :
    bitIf (w.getLsbD 15) mask = if (w &&& 0x8000) ≠ 0 then mask else 0 := by
  have hmask : w &&& 0x8000 = if w.getLsbD 15 then 0x8000 else 0 := BitVec.and_twoPow w 15
  rw [hmask]
  cases w.getLsbD 15 <;> rfl

/-- A decided condition, as `if` on it. -/
theorem bitIf_decide (p : Prop) [Decidable p] (mask : Byte) : bitIf (decide p) mask = if p then mask else 0 := by
  simp [bitIf]

/-- The bits of the high byte. -/
theorem hi_getLsbD (w : Word) {i : Nat} (h : i < 8) : (hi w).getLsbD i = w.getLsbD (8 + i) := by
  simp [hi, h]

/-- One bit of the high byte by its mask. -/
theorem bitIf_hi_bit (w : Word) {i : Nat} (h : i < 8) :
    bitIf (w.getLsbD (8 + i)) (BitVec.twoPow 8 i) = hi w &&& BitVec.twoPow 8 i := by
  rw [← hi_getLsbD w h, BitVec.and_twoPow]
  rfl

/-- Y and X by their mask on the high byte. -/
theorem yxHigh_eq (w : Word) : yxHigh w = hi w &&& 0x28 := by
  have hy : bitIf (w.getLsbD 13) 0x20 = hi w &&& 0x20 := bitIf_hi_bit w (i := 5) (by decide)
  have hx : bitIf (w.getLsbD 11) 0x08 = hi w &&& 0x08 := bitIf_hi_bit w (i := 3) (by decide)
  rw [yxHigh, hy, hx]
  exact BitVec.and_or_distrib_left.symm

/-- S, Y and X by their mask on the high byte, and Z. -/
theorem sz53Word_eq (w : Word) : sz53Word w = (hi w &&& 0xA8) ||| (if w = 0 then 0x40 else 0) := by
  have hs : bitIf (w.getLsbD 15) 0x80 = hi w &&& 0x80 := bitIf_hi_bit w (i := 7) (by decide)
  have hmask : (hi w &&& 0x80) ||| (hi w &&& 0x28) = hi w &&& 0xA8 := BitVec.and_or_distrib_left.symm
  rw [sz53Word, Bool.beq_eq_decide_eq, bitIf_decide, hs, yxHigh_eq, BitVec.or_assoc,
    BitVec.or_comm _ (hi w &&& 0x28), ← BitVec.or_assoc, hmask]

/-! ## Carry and overflow of words on integers (R300, R302, R303) -/

/-- Bit 12 of the sum differs from that of its terms where the low 12 bits carry; the carry-in is a bit. -/
theorem halfCarry16_sum (x v : Word) (c : Bool) :
    halfCarry16 x v (BitVec.ofNat 16 (x.toNat + v.toNat + c.toNat)) =
      decide (4095 < x.toNat % 4096 + v.toNat % 4096 + c.toNat) := by
  have hw : BitVec.ofNat 16 (x.toNat + v.toNat + c.toNat) = x + v + BitVec.setWidth 16 (BitVec.ofBool c) := by
    apply BitVec.eq_of_toNat_eq
    cases c <;> simp [Nat.add_mod]
  have hcarry : BitVec.carry 12 x v c = decide (4095 < x.toNat % 4096 + v.toNat % 4096 + c.toNat) := rfl
  rw [hw, halfCarry16, BitVec.getLsbD_xor, BitVec.getLsbD_add_add_bool (by decide), hcarry, BitVec.getLsbD_xor,
    ← Bool.xor_assoc, ← Bool.xor_assoc, Bool.xor_assoc _ (x.getLsbD 12), Bool.xor_self, Bool.false_xor]

/-- The three words of a half carry stand alike. -/
theorem halfCarry16_swap (x v r : Word) : halfCarry16 x v r = halfCarry16 r v x := by
  rw [halfCarry16, halfCarry16]
  ac_rfl

/-- The minuend is the sum of the difference, the subtrahend and the borrow, so bit 12 shows the carry of that sum. -/
theorem halfCarry16_difference (x v : Word) (c : Bool) :
    halfCarry16 x v (BitVec.ofInt 16 ((x.toNat : Int) - v.toNat - (c.toNat : Nat))) =
      decide (x.toNat % 4096 < v.toNat % 4096 + c.toNat) := by
  have hc := c.toNat_le
  generalize hr : BitVec.ofInt 16 ((x.toNat : Int) - v.toNat - (c.toNat : Nat)) = r
  have hr' : (r.toNat : Int) = ((x.toNat : Int) - v.toNat - (c.toNat : Nat)) % 65536 := by
    rw [← hr, BitVec.toNat_ofInt]
    omega
  have hx : BitVec.ofNat 16 (r.toNat + v.toNat + c.toNat) = x := by
    apply BitVec.eq_of_toNat_eq
    rw [BitVec.toNat_ofNat]
    omega
  have hsum := halfCarry16_sum r v c
  rw [hx, halfCarry16_swap] at hsum
  rw [hsum, decide_eq_decide]
  omega

/-- The sum leaves the signed range where it has the sign of neither term. -/
theorem overflow_sum (x v : Word) {c : Nat} (hc : c ≤ 1) :
    let w := BitVec.ofNat 16 (x.toNat + v.toNat + c)
    ((x ^^^ w) &&& (v ^^^ w)).getLsbD 15 =
      decide (x.toInt + v.toInt + (c : Int) < -32768 ∨ 32767 < x.toInt + v.toInt + (c : Int)) := by
  rw [Bool.eq_iff_iff, BitVec.getLsbD_and, BitVec.getLsbD_xor, BitVec.getLsbD_xor]
  simp only [getLsbD_fifteen, BitVec.toNat_ofNat, Bool.and_eq_true,
    bne_iff_ne, ne_eq, decide_eq_decide, decide_eq_true_eq, BitVec.toInt_eq_toNat_cond]
  omega

/-- The difference leaves the signed range where the signs of the terms differ and it has not that of the first. -/
theorem overflow_difference (x v : Word) {c : Nat} (hc : c ≤ 1) :
    let w := BitVec.ofInt 16 ((x.toNat : Int) - v.toNat - (c : Int))
    ((x ^^^ v) &&& (x ^^^ w)).getLsbD 15 =
      decide (x.toInt - v.toInt - (c : Int) < -32768 ∨ 32767 < x.toInt - v.toInt - (c : Int)) := by
  rw [Bool.eq_iff_iff, BitVec.getLsbD_and, BitVec.getLsbD_xor, BitVec.getLsbD_xor]
  simp only [getLsbD_fifteen, BitVec.toNat_ofInt, Bool.and_eq_true,
    bne_iff_ne, ne_eq, decide_eq_decide, decide_eq_true_eq, BitVec.toInt_eq_toNat_cond]
  omega

/-- A difference is negative where the words borrow. -/
theorem decide_difference_neg (x v : Word) (c : Nat) :
    decide ((x.toNat : Int) - v.toNat - (c : Int) < 0) = decide (x.toNat < v.toNat + c) := by
  rw [decide_eq_decide]
  omega

/-! ## Words with their flags -/

/-- F of ADD: S, Z and P/V stay. -/
theorem addWords_flags (x v : Word) (f : Byte) :
    FlagsAre (addWords x v f).2 (fS f) (fZ f) ((addWords x v f).1.getLsbD 13)
      (decide (4095 < x.toNat % 4096 + v.toNat % 4096)) ((addWords x v f).1.getLsbD 11) (fP f) false
      (decide (65535 < x.toNat + v.toNat)) := by
  have hhalf : halfCarry16 x v (BitVec.ofNat 16 (x.toNat + v.toNat)) = _ := halfCarry16_sum x v false
  rw [Bool.toNat_false, Nat.add_zero] at hhalf
  rw [← hhalf]
  constructor <;> simp [addWords, yxHigh, fS, fZ, fY, fH, fX, fP, fN, fC]

/-- The word of ADC. -/
theorem adcWords_toNat (x v : Word) (f : Byte) : (adcWords x v f).1.toNat = (x.toNat + v.toNat + (fC f).toNat) % 65536 :=
  BitVec.toNat_ofNat ..

/-- The word of SBC. -/
theorem sbcWords_toNat (x v : Word) (f : Byte) :
    ((sbcWords x v f).1.toNat : Int) = ((x.toNat : Int) - v.toNat - ((fC f).toNat : Int)) % 65536 := by
  rw [sbcWords, carry, BitVec.toNat_ofInt]
  omega

/-- F of ADC. -/
theorem adcWords_flags (x v : Word) (f : Byte) :
    FlagsAre (adcWords x v f).2 (decide ((adcWords x v f).1.toInt < 0)) (decide ((adcWords x v f).1 = 0))
      ((adcWords x v f).1.getLsbD 13) (decide (4095 < x.toNat % 4096 + v.toNat % 4096 + (fC f).toNat))
      ((adcWords x v f).1.getLsbD 11)
      (decide (x.toInt + v.toInt + ((fC f).toNat : Int) < -32768 ∨ 32767 < x.toInt + v.toInt + ((fC f).toNat : Int))) false
      (decide (65535 < x.toNat + v.toNat + (fC f).toNat)) := by
  rw [← getLsbD_fifteen_eq_toInt, ← halfCarry16_sum, ← overflow_sum x v (fC f).toNat_le]
  constructor <;> simp [adcWords, carry, sz53Word, yxHigh, fS, fZ, fY, fH, fX, fP, fN, fC, Bool.beq_eq_decide_eq]

/-- F of SBC. -/
theorem sbcWords_flags (x v : Word) (f : Byte) :
    FlagsAre (sbcWords x v f).2 (decide ((sbcWords x v f).1.toInt < 0)) (decide ((sbcWords x v f).1 = 0))
      ((sbcWords x v f).1.getLsbD 13) (decide (x.toNat % 4096 < v.toNat % 4096 + (fC f).toNat))
      ((sbcWords x v f).1.getLsbD 11)
      (decide (x.toInt - v.toInt - ((fC f).toNat : Int) < -32768 ∨ 32767 < x.toInt - v.toInt - ((fC f).toNat : Int))) true
      (decide (x.toNat < v.toNat + (fC f).toNat)) := by
  rw [← getLsbD_fifteen_eq_toInt, ← decide_difference_neg, ← halfCarry16_difference,
    ← overflow_difference x v (fC f).toNat_le]
  constructor <;> simp [sbcWords, carry, sz53Word, yxHigh, fS, fZ, fY, fH, fX, fP, fN, fC, Bool.beq_eq_decide_eq]

/-- Settles O18: ADD, ADC and SBC by their words (`adcWords_toNat`, `sbcWords_toNat`) and flags (`addWords_flags`,
`adcWords_flags`, `sbcWords_flags`). -/
theorem pairFlagsAreCarries : Obligations.PairFlagsAreCarries := by
  intro x v f c add adc sbc
  have hadd := addWords_flags x v f
  have hadc := adcWords_flags x v f
  have hsbc := sbcWords_flags x v f
  simp only [c, ← toNat_eq_if]
  exact ⟨⟨rfl, hadd.half, hadd.c, hadd.n, hadd.sign, hadd.zero, hadd.pv⟩,
    ⟨adcWords_toNat x v f, hadc.sign, hadc.zero, hadc.half, hadc.c, hadc.pv, hadc.n⟩,
    sbcWords_toNat x v f, hsbc.sign, hsbc.zero, hsbc.half, hsbc.c, hsbc.pv, hsbc.n⟩

/-! ## The words and F as R300 to R303 write them -/

/-- The word and F of ADD (R300). -/
theorem addWords_eq (x v : Word) (f : Byte) :
    addWords x v f =
      (x + v, (f &&& 0xC4) ||| (hi (x + v) &&& 0x28) ||| (if (x ^^^ v ^^^ (x + v)).getLsbD 12 then 0x10 else 0) |||
        (if 0xFFFF < x.toNat + v.toNat then 0x01 else 0)) := by
  have hsum : BitVec.ofNat 16 (x.toNat + v.toNat) = x + v := rfl
  simp only [addWords, hsum, yxHigh_eq, bitIf_decide]
  rw [BitVec.or_assoc (f &&& 0xC4), BitVec.or_comm (bitIf _ 0x10), ← BitVec.or_assoc (f &&& 0xC4)]
  rfl

/-- The word and F of ADC (R302). -/
theorem adcWords_eq (x v : Word) (f : Byte) :
    let w := BitVec.ofNat 16 (x.toNat + v.toNat + carry f)
    adcWords x v f =
      (w, (hi w &&& 0xA8) ||| (if w = 0 then 0x40 else 0) ||| (if (x ^^^ v ^^^ w).getLsbD 12 then 0x10 else 0) |||
        (if (x ^^^ w) &&& (v ^^^ w) &&& 0x8000 ≠ 0 then 0x04 else 0) |||
        (if 0xFFFF < x.toNat + v.toNat + carry f then 0x01 else 0)) := by
  simp only [adcWords, sz53Word_eq, bitIf_getLsbD_fifteen, bitIf_decide]
  rfl

/-- The word and F of SBC (R303). -/
theorem sbcWords_eq (x v : Word) (f : Byte) :
    let w := BitVec.ofInt 16 ((x.toNat : Int) - v.toNat - (carry f : Int))
    sbcWords x v f =
      (w, (hi w &&& 0xA8) ||| (if w = 0 then 0x40 else 0) ||| (if (x ^^^ v ^^^ w).getLsbD 12 then 0x10 else 0) |||
        (if (x ^^^ v) &&& (x ^^^ w) &&& 0x8000 ≠ 0 then 0x04 else 0) ||| 0x02 |||
        (if x.toNat < v.toNat + carry f then 0x01 else 0)) := by
  simp only [sbcWords, sz53Word_eq, bitIf_getLsbD_fifteen, decide_difference_neg, bitIf_decide]
  rfl

/-! ## What the operations do after a fetch, which changes no register that they read and not F -/

section
variable (s : State)

/-- ADD of two registers of the 16-bit file (R300, R301). -/
theorem add16_fetched (dst src : Reg16) (len m1 t : Nat) :
    let w := addWords (s.reg16 dst) (s.reg16 src) s.f
    add16 dst src (s.fetched len m1 t) =
      (((s.fetched len m1 t).setReg16 dst w.1).setF w.2).setWz (s.reg16 dst + 1) := by
  rw [add16, State.fetched_reg16, State.fetched_reg16]
  rfl

/-- ADC to HL (R302). -/
theorem adc16_fetched (src : Reg16) (len m1 t : Nat) :
    let w := adcWords s.hl (s.reg16 src) s.f
    adc16 src (s.fetched len m1 t) = (((s.fetched len m1 t).setHl w.1).setF w.2).setWz (s.hl + 1) := by
  rw [adc16, State.fetched_reg16]
  rfl

/-- SBC from HL (R303). -/
theorem sbc16_fetched (src : Reg16) (len m1 t : Nat) :
    let w := sbcWords s.hl (s.reg16 src) s.f
    sbc16 src (s.fetched len m1 t) = (((s.fetched len m1 t).setHl w.1).setF w.2).setWz (s.hl + 1) := by
  rw [sbc16, State.fetched_reg16]
  rfl

/-- INC of a register of the 16-bit file (R304). -/
theorem inc16_fetched (r : Reg16) (len m1 t : Nat) :
    inc16 r (s.fetched len m1 t) = (s.fetched len m1 t).setReg16 r (s.reg16 r + 1) := by
  rw [inc16, State.fetched_reg16]

/-- DEC of a register of the 16-bit file (R304). -/
theorem dec16_fetched (r : Reg16) (len m1 t : Nat) :
    dec16 r (s.fetched len m1 t) = (s.fetched len m1 t).setReg16 r (s.reg16 r - 1) := by
  rw [dec16, State.fetched_reg16]

/-! ## The forms of 16-bit arithmetic and their operations (R300 to R304) -/

/-- `ADD HL,rp` (R300). -/
theorem exec_add_HL (p : BitVec 2) :
    exec (instrOf [opcode 0 (fieldY p 1) 1]) s = .next (add16 .hl (rpTable p) (s.fetched 1 1 11)) := by
  revert p
  exact forall_field2 rfl rfl rfl rfl

/-- `ADD XY,rp`, XY in the place of HL (R301). -/
theorem exec_add_xy (xy : XY) (p : BitVec 2) :
    exec (instrOf [xy.byte, opcode 0 (fieldY p 1) 1]) s =
      .next (add16 xy.reg16 (rpIndexTable xy p) (s.fetched 2 2 15)) := by
  revert p
  cases xy <;> exact forall_field2 rfl rfl rfl rfl

/-- `INC rp` (R304). -/
theorem exec_inc_rp (p : BitVec 2) :
    exec (instrOf [opcode 0 (fieldY p 0) 3]) s = .next (inc16 (rpTable p) (s.fetched 1 1 6)) := by
  revert p
  exact forall_field2 rfl rfl rfl rfl

/-- `DEC rp` (R304). -/
theorem exec_dec_rp (p : BitVec 2) :
    exec (instrOf [opcode 0 (fieldY p 1) 3]) s = .next (dec16 (rpTable p) (s.fetched 1 1 6)) := by
  revert p
  exact forall_field2 rfl rfl rfl rfl

/-- `INC XY` (R304). -/
theorem exec_inc_xy (xy : XY) : exec (instrOf [xy.byte, 0x23]) s = .next (inc16 xy.reg16 (s.fetched 2 2 10)) := by
  cases xy <;> rfl

/-- `DEC XY` (R304). -/
theorem exec_dec_xy (xy : XY) : exec (instrOf [xy.byte, 0x2B]) s = .next (dec16 xy.reg16 (s.fetched 2 2 10)) := by
  cases xy <;> rfl

/-- `ADC HL,rp` (R302). -/
theorem exec_adc_HL (p : BitVec 2) :
    exec (instrOf [0xED, opcode 1 (fieldY p 1) 2]) s = .next (adc16 (rpTable p) (s.fetched 2 2 15)) := by
  revert p
  exact forall_field2 rfl rfl rfl rfl

/-- `SBC HL,rp` (R303). -/
theorem exec_sbc_HL (p : BitVec 2) :
    exec (instrOf [0xED, opcode 1 (fieldY p 0) 2]) s = .next (sbc16 (rpTable p) (s.fetched 2 2 15)) := by
  revert p
  exact forall_field2 rfl rfl rfl rfl

end

/-- Settles O16: each form is one `add16`, `inc16` or `dec16` (the `exec_` lemmas above), with the word and F of
`addWords_eq`. -/
theorem pairArithmetic : Obligations.PairArithmetic := by
  intro p xy s flags
  refine ⟨?_, ?_, ?_, ?_, ?_, ?_⟩
  · rw [exec_add_HL, add16_fetched, addWords_eq, State.reg16, State.setReg16]
  · rw [exec_add_xy, add16_fetched, addWords_eq, State.reg16_xy]
  · rw [exec_inc_rp, inc16_fetched]
  · rw [exec_dec_rp, dec16_fetched]
  · rw [exec_inc_xy, inc16_fetched, State.reg16_xy]
  · rw [exec_dec_xy, dec16_fetched, State.reg16_xy]

/-- Settles O17: each form is one `adc16` or `sbc16` of a pair (`exec_adc_HL`, `exec_sbc_HL`), with the word and F of
`adcWords_eq` and `sbcWords_eq`. -/
theorem addAndSubtractPairsWithCarry : Obligations.AddAndSubtractPairsWithCarry := by
  intro p s x v c sum difference common
  have hc : carry s.f = c := toNat_eq_if _
  constructor
  · rw [exec_adc_HL, adc16_fetched, adcWords_eq, hc]
  · rw [exec_sbc_HL, sbc16_fetched, sbcWords_eq, hc]

end Sys2Proof.Machine

/-!
The statements about rotates, shifts and bits (44_rotate_shift_bit.md): the bytes and F as the rules write them, then which
operation each form decodes to and what it does after its fetch.
-/

namespace Sys2Proof.Machine

/-! ## The bytes and F as R320 to R334 write them -/

/-- The bit that leaves on the left, moved to bit 0. -/
theorem bitIf_getLsbD_seven (v : Byte) : bitIf (v.getLsbD 7) 0x01 = v >>> 7 := by
  apply BitVec.eq_of_toNat_eq
  rw [getLsbD_seven, bitIf_decide, BitVec.toNat_ushiftRight, Nat.shiftRight_eq_div_pow, apply_ite BitVec.toNat]
  change (if 128 ≤ v.toNat then 1 else 0) = v.toNat / 128
  split <;> omega

/-- The bit that leaves on the right, by its mask. -/
theorem bitIf_getLsbD_zero (v : Byte) : bitIf (v.getLsbD 0) 0x01 = v &&& 1 := (BitVec.and_twoPow v 0).symm

/-- A bit that enters on the left. -/
theorem bitIf_shiftLeft_seven (p : Bool) : bitIf p 0x01 <<< 7 = bitIf p 0x80 := by cases p <;> rfl

theorem bitMask_ne_zero (b : BitVec 3) : bitMask b ≠ 0#8 := by
  revert b
  decide

/-- F of BIT by the bit it tests (R334). -/
theorem bitFlags_eq (b : BitVec 3) (v yAndX f : Byte) :
    bitFlags b v yAndX f =
      (if v.getLsbD b.toNat then (if b = 7 then 0x80 else 0) else 0x44) ||| 0x10 ||| yAndX ||| (f &&& 0x01) := by
  have htested : v &&& bitMask b = if v.getLsbD b.toNat then bitMask b else 0 := BitVec.and_twoPow v b.toNat
  rw [bitFlags, htested]
  cases v.getLsbD b.toNat with
  | false => simp [bitIf]
  | true => simp [bitIf, bitMask_ne_zero]

/-! ## What the operations do after a fetch, which changes no location that they read and not F -/

section
variable (s : State) (len m1 t : Nat)

/-- A rotate of A that gives w and the carry out c (R320 to R323). -/
theorem rotA_fetched {op : RotOp} {w : Byte} {c : Bool} (h : rotate op s.a (fC s.f) = (w, c)) :
    rotA op (s.fetched len m1 t) =
      ((s.fetched len m1 t).setA w).setF ((s.f &&& 0xC4) ||| (w &&& 0x28) ||| (if c then 0x01 else 0)) := by
  have hfetched : rotate op (s.fetched len m1 t).a (fC (s.fetched len m1 t).f) = (w, c) := h
  rw [rotA, hfetched]
  rfl

/-- A rotate or shift of a location (R324). -/
theorem rot_fetched (op : RotOp) (m : Loc) :
    let w := rotate op (s.readLoc m) (fC s.f)
    rot op m (s.fetched len m1 t) =
      ((s.fetched len m1 t).writeLoc m w.1).setF (sz53P w.1 ||| (if w.2 then 0x01 else 0)) := by
  rw [rot, State.fetched_readLoc]
  rfl

/-- BIT on `(HL)`, with the WZ that earlier instructions left (R335). -/
theorem bitMem_hl_fetched (b : BitVec 3) :
    bitMem b .hl (s.fetched len m1 t) =
      (s.fetched len m1 t).setF (bitFlags b (s.readMem s.hl) (hi s.wz &&& 0x28) s.f) := rfl

/-- RES of a location (R337). -/
theorem resLoc_fetched (b : BitVec 3) (m : Loc) :
    resLoc b m (s.fetched len m1 t) = (s.fetched len m1 t).writeLoc m (s.readLoc m &&& ~~~(1#8 <<< b.toNat)) := by
  rw [resLoc, State.fetched_readLoc]
  rfl

/-- SET of a location (R338). -/
theorem setLoc_fetched (b : BitVec 3) (m : Loc) :
    setLoc b m (s.fetched len m1 t) = (s.fetched len m1 t).writeLoc m (s.readLoc m ||| (1#8 <<< b.toNat)) := by
  rw [setLoc, State.fetched_readLoc]
  rfl

end

/-! ## What the operations on `(XY+d)` do after a fetch (R336, R339, R340) -/

/-- The register that takes the copy, none where z = 6 (30_encoding.md R143). -/
def copyRegister (z : BitVec 3) : Option Reg8 :=
  match rTable z with
  | .reg r => some r
  | .mem _ => none

/-- The copy by the register table. -/
theorem State.copyTo_copyRegister (s : State) (z : BitVec 3) (w : Byte) :
    s.copyTo (copyRegister z) w = if z = 6 then s else s.writeLoc (rTable z) w := by
  revert z
  exact forall_field3 rfl rfl rfl rfl rfl rfl rfl rfl

section
variable (s : State) (xy : XY) (d : Byte) (copy : Option Reg8) (len m1 t : Nat)

/-- A rotate or shift of `(XY+d)` (R339). -/
theorem rotIndexed_fetched (op : RotOp) :
    let ea := s.ea xy d
    let w := rotate op (s.readMem ea) (fC s.f)
    rotIndexed op xy d copy (s.fetched len m1 t) =
      ((((s.fetched len m1 t).setWz ea).writeMem ea w.1).copyTo copy w.1).setF
        (sz53P w.1 ||| (if w.2 then 0x01 else 0)) := by
  cases xy <;> rfl

/-- BIT on `(XY+d)`, Y and X from the address that it has put in WZ (R336). -/
theorem bitMem_idx_fetched (b : BitVec 3) :
    let ea := s.ea xy d
    bitMem b (.idx xy d) (s.fetched len m1 t) =
      ((s.fetched len m1 t).setWz ea).setF (bitFlags b (s.readMem ea) (hi ea &&& 0x28) s.f) := by
  cases xy <;> rfl

/-- RES of `(XY+d)` (R340). -/
theorem resIndexed_fetched (b : BitVec 3) :
    let ea := s.ea xy d
    let w := s.readMem ea &&& ~~~(1#8 <<< b.toNat)
    resIndexed b xy d copy (s.fetched len m1 t) =
      (((s.fetched len m1 t).setWz ea).writeMem ea w).copyTo copy w := by
  cases xy <;> rfl

/-- SET of `(XY+d)` (R340). -/
theorem setIndexed_fetched (b : BitVec 3) :
    let ea := s.ea xy d
    let w := s.readMem ea ||| (1#8 <<< b.toNat)
    setIndexed b xy d copy (s.fetched len m1 t) =
      (((s.fetched len m1 t).setWz ea).writeMem ea w).copyTo copy w := by
  cases xy <;> rfl

end

/-! ## The forms of 44_rotate_shift_bit.md and their operations -/

section
variable (s : State)

/-- RLCA, RRCA, RLA and RRA are the first four rotates, of A (R320 to R323). -/
theorem exec_rotA :
    exec (instrOf [0x07]) s = .next (rotA .rlc (s.fetched 1 1 4)) ∧
    exec (instrOf [0x0F]) s = .next (rotA .rrc (s.fetched 1 1 4)) ∧
    exec (instrOf [0x17]) s = .next (rotA .rl (s.fetched 1 1 4)) ∧
    exec (instrOf [0x1F]) s = .next (rotA .rr (s.fetched 1 1 4)) :=
  ⟨rfl, rfl, rfl, rfl⟩

/-- The CB rotates and shifts of entries of the register table, (HL) among them (R324). -/
theorem exec_rot_rTable (y z : BitVec 3) :
    exec (instrOf [0xCB, opcode 0 y z]) s =
      .next (rot (rotTable y) (rTable z) (s.fetched 2 2 (if z = 6 then 15 else 8))) := by
  revert z
  revert y
  apply forall_field3 <;> exact forall_field3 rfl rfl rfl rfl rfl rfl rfl rfl

/-- BIT of a register, which gives Y and X (R334). -/
theorem exec_bit_register (b z : BitVec 3) (hz : z ≠ 6) :
    exec (instrOf [0xCB, opcode 1 b z]) s =
      .next ((s.fetched 2 2 8).setF (bitFlags b (s.readLoc (rTable z)) (s.readLoc (rTable z) &&& 0x28) s.f)) := by
  revert z
  revert b
  apply forall_field3 <;> exact forall_register rfl rfl rfl rfl rfl rfl rfl

/-- BIT of (HL) (R335). -/
theorem exec_bit_mHL (b : BitVec 3) : exec (instrOf [0xCB, opcode 1 b 6]) s = .next (bitMem b .hl (s.fetched 2 2 12)) := by
  revert b
  exact forall_field3 rfl rfl rfl rfl rfl rfl rfl rfl

/-- RES of entries of the register table, (HL) among them (R337). -/
theorem exec_res_rTable (b z : BitVec 3) :
    exec (instrOf [0xCB, opcode 2 b z]) s = .next (resLoc b (rTable z) (s.fetched 2 2 (if z = 6 then 15 else 8))) := by
  revert z
  revert b
  apply forall_field3 <;> exact forall_field3 rfl rfl rfl rfl rfl rfl rfl rfl

/-- SET of entries of the register table, (HL) among them (R338). -/
theorem exec_set_rTable (b z : BitVec 3) :
    exec (instrOf [0xCB, opcode 3 b z]) s = .next (setLoc b (rTable z) (s.fetched 2 2 (if z = 6 then 15 else 8))) := by
  revert z
  revert b
  apply forall_field3 <;> exact forall_field3 rfl rfl rfl rfl rfl rfl rfl rfl

section
variable (xy : XY) (d : Byte) (y z : BitVec 3)

/-- The rotates and shifts of `(XY+d)` (R339). -/
theorem exec_rot_idx :
    exec (instrOf [xy.byte, 0xCB, d, opcode 0 y z]) s =
      .next (rotIndexed (rotTable y) xy d (copyRegister z) (s.fetched 4 2 23)) := by
  rw [instrOf_four]
  revert z
  revert y
  cases xy <;> apply forall_field3 <;> exact forall_field3 rfl rfl rfl rfl rfl rfl rfl rfl

/-- BIT of `(XY+d)`, for every z (R336). -/
theorem exec_bit_idx :
    exec (instrOf [xy.byte, 0xCB, d, opcode 1 y z]) s = .next (bitMem y (.idx xy d) (s.fetched 4 2 20)) := by
  rw [instrOf_four]
  revert z
  revert y
  cases xy <;> apply forall_field3 <;> exact forall_field3 rfl rfl rfl rfl rfl rfl rfl rfl

/-- RES of `(XY+d)` (R340). -/
theorem exec_res_idx :
    exec (instrOf [xy.byte, 0xCB, d, opcode 2 y z]) s =
      .next (resIndexed y xy d (copyRegister z) (s.fetched 4 2 23)) := by
  rw [instrOf_four]
  revert z
  revert y
  cases xy <;> apply forall_field3 <;> exact forall_field3 rfl rfl rfl rfl rfl rfl rfl rfl

/-- SET of `(XY+d)` (R340). -/
theorem exec_set_idx :
    exec (instrOf [xy.byte, 0xCB, d, opcode 3 y z]) s =
      .next (setIndexed y xy d (copyRegister z) (s.fetched 4 2 23)) := by
  rw [instrOf_four]
  revert z
  revert y
  cases xy <;> apply forall_field3 <;> exact forall_field3 rfl rfl rfl rfl rfl rfl rfl rfl

end

end

/-- Settles O19: each form is one of the first four rotates, of A (`exec_rotA`); the bit that RLCA and RRCA bring round is the
one that leaves. -/
theorem accumulatorRotates : Obligations.AccumulatorRotates := by
  intro s v c done
  obtain ⟨hrlca, hrrca, hrla, hrra⟩ := exec_rotA s
  refine ⟨hrlca.trans (congrArg _ (rotA_fetched s 1 1 4 ?_)), hrrca.trans (congrArg _ (rotA_fetched s 1 1 4 ?_)),
    hrla.trans (congrArg _ (rotA_fetched s 1 1 4 rfl)), hrra.trans (congrArg _ (rotA_fetched s 1 1 4 ?_))⟩
  · rw [rotate, bitIf_getLsbD_seven]
  · rw [rotate, ← bitIf_shiftLeft_seven, bitIf_getLsbD_zero]
  · rw [rotate, ← bitIf_shiftLeft_seven]
    rfl

/-- Settles O20: the eight operations are the model's, with the bit that enters on the left shifted there, and each form is
one `rot` of an entry of the register table (`exec_rot_rTable`). -/
theorem rotateAndShift : Obligations.RotateAndShift := by
  constructor
  · intro v c bit
    refine ⟨rfl, ?_, rfl, ?_, rfl, rfl, rfl, rfl⟩
    · exact congrArg (fun w => (v >>> 1 ||| w, _)) (bitIf_shiftLeft_seven _).symm
    · exact congrArg (fun w => (v >>> 1 ||| w, _)) (bitIf_shiftLeft_seven _).symm
  · intro y z s result flags
    refine ⟨fun hz => ?_, ?_⟩
    · rw [exec_rot_rTable, if_neg hz, rot_fetched]
    · rw [exec_rot_rTable, if_pos rfl, rot_fetched]
      rfl

/-- Settles O21: BIT by the bit it tests (`bitFlags_eq`), RES and SET as `resLoc` and `setLoc` of an entry of the register
table. -/
theorem bitTestResetAndSet : Obligations.BitTestResetAndSet := by
  intro b z s flags cleared set r m
  refine ⟨fun hz => ⟨?_, ?_, ?_⟩, ?_, ?_, ?_⟩
  · rw [exec_bit_register s b z hz, bitFlags_eq]
  · rw [exec_res_rTable, if_neg hz, resLoc_fetched]
  · rw [exec_set_rTable, if_neg hz, setLoc_fetched]
  · rw [exec_bit_mHL, bitMem_hl_fetched, bitFlags_eq]
  · rw [exec_res_rTable, if_pos rfl, resLoc_fetched]
    rfl
  · rw [exec_set_rTable, if_pos rfl, setLoc_fetched]
    rfl

/-- Settles O22: each form is one operation on `(XY+d)` (the `exec_..._idx` lemmas above), whose copy goes to the register of
the table (`State.copyTo_copyRegister`). -/
theorem indexedBitOperations : Obligations.IndexedBitOperations := by
  intro xy d y z s ea v copy w
  refine ⟨?_, ?_, ?_, ?_⟩
  · rw [exec_rot_idx, rotIndexed_fetched, State.copyTo_copyRegister]
  · rw [exec_bit_idx, bitMem_idx_fetched, bitFlags_eq]
  · rw [exec_res_idx, resIndexed_fetched, State.copyTo_copyRegister]
  · rw [exec_set_idx, setIndexed_fetched, State.copyTo_copyRegister]

/-- Settles O23: neither form has an operand, so that running its code gives the state, memory, A and F read after the
fetch. -/
theorem digitRotates : Obligations.DigitRotates :=
  fun _ => ⟨rfl, rfl⟩

end Sys2Proof.Machine

/-!
The statements about jumps, calls, returns and restarts (45_control.md): which operation each form decodes to, and what that
operation does after its fetch. A taken conditional form is the unconditional operation after a fetch with the T-states
of the taken form.
-/

namespace Sys2Proof.Machine

section
variable (s : State)

/-! ## T-states that a taken branch adds count as those of the fetch -/

theorem State.fetched_addCyc (len m1 t n : Nat) : (s.fetched len m1 t).addCyc n = s.fetched len m1 (t + n) := by
  rw [State.fetched, State.addCyc, Nat.add_assoc, State.fetched]

theorem jr_addCyc (e : Byte) (n : Nat) : (jr e s).addCyc n = jr e (s.addCyc n) := rfl

theorem State.returnToCaller_addCyc (n : Nat) : s.returnToCaller.addCyc n = (s.addCyc n).returnToCaller := rfl

theorem State.enterAt_addCyc (target : Word) (n : Nat) : (s.enterAt target).addCyc n = (s.addCyc n).enterAt target := by
  rw [State.enterAt_eq, State.enterAt_eq, State.writeMem_addCyc, State.writeMem_addCyc]
  rfl

/-! ## What the operations do after a fetch: it changes neither F nor SP nor memory, and PC by the bytes fetched -/

section
variable (len m1 t : Nat)

/-- WZ is the target, taken or not (R361). -/
theorem jpIf_fetched (cc : Cond) (nn : Word) :
    jpIf cc nn (s.fetched len m1 t) =
      ((s.fetched len m1 t).setWz nn).setPc (if cc.holds s.f then nn else s.pc + BitVec.ofNat 16 len) := by
  change (if cc.holds s.f then _ else _) = _
  split <;> rfl

/-- The target is relative to the next instruction (R364). -/
theorem jr_fetched (e : Byte) :
    let target := s.pc + BitVec.ofNat 16 len + sext8 e
    jr e (s.fetched len m1 t) = ((s.fetched len m1 t).setPc target).setWz target := rfl

/-- A taken JR cc is JR with 5 T-states more (R365). -/
theorem jrIf_fetched (cc : Cond) (e : Byte) :
    jrIf cc e (s.fetched len m1 t) =
      if cc.holds s.f then jr e (s.fetched len m1 (t + 5)) else s.fetched len m1 t := by
  rw [jrIf, jr_addCyc, State.fetched_addCyc]
  rfl

/-- A taken DJNZ is JR after the decrement, with 5 T-states more (R366). -/
theorem djnz_fetched (e : Byte) :
    let b := s.main.b - 1
    djnz e (s.fetched len m1 t) =
      if b ≠ 0 then jr e ((s.fetched len m1 (t + 5)).setB b) else (s.fetched len m1 t).setB b := by
  intro b
  rw [ite_not, ← State.fetched_addCyc]
  rfl

/-- The address after the instruction goes below SP, high byte first (R367, R373; 20_memory.md R97). -/
theorem State.enterAt_fetched (target : Word) :
    let back := s.pc + BitVec.ofNat 16 len
    (s.fetched len m1 t).enterAt target =
      (((((s.fetched len m1 t).writeMem (s.sp - 1) (hi back)).writeMem (s.sp - 2) (lo back)).setSp (s.sp - 2)).setWz
        target).setPc target := by
  rw [State.enterAt_eq, State.fetched_sp, State.fetched_pc]
  rfl

/-- A taken CALL cc is CALL with 7 T-states more; an untaken one sets WZ (R368). -/
theorem callIf_fetched (cc : Cond) (nn : Word) :
    callIf cc nn (s.fetched len m1 t) =
      if cc.holds s.f then (s.fetched len m1 (t + 7)).enterAt nn else (s.fetched len m1 t).setWz nn := by
  rw [callIf, State.enterAt_addCyc, State.fetched_addCyc]
  rfl

/-- PC and WZ become the word at SP, which goes up by 2 (R369; 20_memory.md R97). -/
theorem State.returnToCaller_fetched :
    (s.fetched len m1 t).returnToCaller = (((s.fetched len m1 t).setSp (s.sp + 2)).setPc s.top16).setWz s.top16 := rfl

/-- A taken RET cc is RET with 6 T-states more (R370). -/
theorem retIf_fetched (cc : Cond) :
    retIf cc (s.fetched len m1 t) =
      if cc.holds s.f then (s.fetched len m1 (t + 6)).returnToCaller else s.fetched len m1 t := by
  rw [retIf, State.returnToCaller_addCyc, State.fetched_addCyc]
  rfl

/-- RETI and RETN are RET, and IFF1 from IFF2 (R371, R372). -/
theorem State.returnFromHandler_fetched :
    (s.fetched len m1 t).returnFromHandler = { (s.fetched len m1 t).returnToCaller with iff1 := s.iff2 } := rfl

end

/-! ## The forms of the jumps and their operations (R360 to R366) -/

/-- `JP nn` (R360). -/
theorem exec_jp_nn (nn : Word) : exec (instrOf [0xC3, lo nn, hi nn]) s = .next (jp nn (s.fetched 3 1 10)) := by
  rw [instrOf_three]
  exact of_bytes (f := fun w => Host.Outcome.next (jp w (s.fetched 3 1 10))) nn rfl

/-- `JP cc,nn` (R361). -/
theorem exec_jp_cc_nn (y : BitVec 3) (nn : Word) :
    exec (instrOf [opcode 3 y 2, lo nn, hi nn]) s = .next (jpIf (ccTable y) nn (s.fetched 3 1 10)) := by
  rw [instrOf_three]
  refine of_bytes (f := fun w => Host.Outcome.next (jpIf (ccTable y) w (s.fetched 3 1 10))) nn ?_
  revert y
  exact forall_field3 rfl rfl rfl rfl rfl rfl rfl rfl

/-- `JP (HL)` (R362). -/
theorem exec_jp_HL : exec (instrOf [0xE9]) s = .next (jpReg .hl (s.fetched 1 1 4)) := rfl

/-- `JP (XY)` (R363). -/
theorem exec_jp_xy (xy : XY) : exec (instrOf [xy.byte, 0xE9]) s = .next (jpReg xy.reg16 (s.fetched 2 2 8)) := by
  cases xy <;> rfl

/-- `JR e` (R364). -/
theorem exec_jr_e (e : Byte) : exec (instrOf [0x18, e]) s = .next (jr e (s.fetched 2 1 12)) := by
  rw [instrOf_two]
  rfl

/-- `JR cc,e`, for the four codes that have it (R365). -/
theorem exec_jr_cc_e (y : BitVec 3) (e : Byte) (hy : 4 ≤ y.toNat) :
    exec (instrOf [opcode 0 y 0, e]) s = .next (jrIf (ccTable (y - 4)) e (s.fetched 2 1 7)) := by
  rw [instrOf_two]
  revert y
  apply forall_field3
  case h0 | h1 | h2 | h3 => exact fun h => absurd h (by decide)
  all_goals exact fun _ => rfl

/-- `DJNZ e` (R366). -/
theorem exec_djnz_e (e : Byte) : exec (instrOf [0x10, e]) s = .next (djnz e (s.fetched 2 1 8)) := by
  rw [instrOf_two]
  rfl

/-! ## The forms of the calls and returns and their operations (R367 to R373) -/

/-- `CALL nn` (R367). -/
theorem exec_call_nn (nn : Word) :
    exec (instrOf [0xCD, lo nn, hi nn]) s = .next ((s.fetched 3 1 17).enterAt nn) := by
  rw [instrOf_three]
  exact of_bytes (f := fun w => Host.Outcome.next ((s.fetched 3 1 17).enterAt w)) nn rfl

/-- `CALL cc,nn` (R368). -/
theorem exec_call_cc_nn (y : BitVec 3) (nn : Word) :
    exec (instrOf [opcode 3 y 4, lo nn, hi nn]) s = .next (callIf (ccTable y) nn (s.fetched 3 1 10)) := by
  rw [instrOf_three]
  refine of_bytes (f := fun w => Host.Outcome.next (callIf (ccTable y) w (s.fetched 3 1 10))) nn ?_
  revert y
  exact forall_field3 rfl rfl rfl rfl rfl rfl rfl rfl

/-- `RST p`, to eight times its field (R373). -/
theorem exec_rst (y : BitVec 3) :
    exec (instrOf [opcode 3 y 7]) s = .next ((s.fetched 1 1 11).enterAt (BitVec.ofNat 16 (8 * y.toNat))) := by
  revert y
  exact forall_field3 rfl rfl rfl rfl rfl rfl rfl rfl

/-- `RET` (R369). -/
theorem exec_ret : exec (instrOf [0xC9]) s = .next (s.fetched 1 1 10).returnToCaller := rfl

/-- `RET cc` (R370). -/
theorem exec_ret_cc (y : BitVec 3) : exec (instrOf [opcode 3 y 0]) s = .next (retIf (ccTable y) (s.fetched 1 1 5)) := by
  revert y
  exact forall_field3 rfl rfl rfl rfl rfl rfl rfl rfl

/-- `RETI` (y = 1) and `RETN` in its seven encodings (R371, R372). -/
theorem exec_reti_retn (y : BitVec 3) :
    exec (instrOf [0xED, opcode 1 y 5]) s = .next (s.fetched 2 2 14).returnFromHandler := by
  revert y
  exact forall_field3 rfl rfl rfl rfl rfl rfl rfl rfl

end

/-- Settles O24: each form is one jump after its fetch (the `exec_jp_`, `exec_jr_` and `exec_djnz_` lemmas above); JP to a
register reads it unchanged by the fetch, and a taken JR cc or DJNZ is a JR with its own T-states. -/
theorem jumps : Obligations.Jumps := by
  intro y xy nn e s target b
  refine ⟨exec_jp_nn s nn, ?_, exec_jp_HL s, ?_, exec_jr_e s e, fun hy => ?_, ?_⟩
  · rw [exec_jp_cc_nn, jpIf_fetched]
    rfl
  · rw [exec_jp_xy, jpReg, State.fetched_reg16, State.reg16_xy]
  · rw [exec_jr_cc_e s y e hy, jrIf_fetched, jr_fetched]
    rfl
  · rw [exec_djnz_e, djnz_fetched]
    rfl

/-- Settles O25: each form enters its target after its fetch (`State.enterAt_fetched`), CALL cc where its condition holds
(`callIf_fetched`). -/
theorem calls : Obligations.Calls := by
  intro y nn s enter
  refine ⟨?_, ?_, ?_⟩
  · rw [exec_call_nn, State.enterAt_fetched]
    rfl
  · rw [exec_call_cc_nn, callIf_fetched, State.enterAt_fetched]
    rfl
  · rw [exec_rst, State.enterAt_fetched]
    rfl

/-- Settles O26: each form returns to the word at SP after its fetch (`State.returnToCaller_fetched`), RET cc where its
condition holds (`retIf_fetched`). -/
theorem returns : Obligations.Returns := by
  intro y s back leave
  refine ⟨?_, ?_, ?_⟩
  · rw [exec_ret, State.returnToCaller_fetched]
    rfl
  · rw [exec_ret_cc, retIf_fetched, State.returnToCaller_fetched]
    rfl
  · rw [exec_reti_retn, State.returnFromHandler_fetched, State.returnToCaller_fetched]
    rfl

end Sys2Proof.Machine

/-!
The statements about the block instructions (46_block.md): one iteration of each form after its fetch, then the repeating
form, which is that iteration and, while its condition holds, PC back at the instruction with 5 T-states more.
-/

namespace Sys2Proof.Machine

/-! ## F as R402 to R415 write it -/

/-- A condition that two words differ, as `if` on it. -/
theorem bitIf_bne (x y : Word) (mask : Byte) : bitIf (x != y) mask = if x ≠ y then mask else 0 := by simp [bitIf]

/-- F of LDI and LDD (R402, R403). -/
theorem blockLoadFlags_eq (a t : Byte) (bc : Word) (f : Byte) :
    let n := t + a
    blockLoadFlags a t bc f =
      (f &&& 0xC1) ||| (if n.getLsbD 1 then 0x20 else 0) ||| (if n.getLsbD 3 then 0x08 else 0) |||
        (if bc ≠ 0 then 0x04 else 0) := by
  rw [blockLoadFlags, bitIf_bne]
  rfl

/-- F of CPI and CPD, S by its mask and Y before H (R406, R407). -/
theorem blockCompareFlags_eq (a t : Byte) (bc : Word) (f : Byte) :
    let r := a - t
    let h := (a ^^^ t ^^^ r).getLsbD 4
    let n := r - (if h then 1 else 0)
    blockCompareFlags a t bc f =
      (r &&& 0x80) ||| (if r = 0 then 0x40 else 0) ||| (if n.getLsbD 1 then 0x20 else 0) ||| (if h then 0x10 else 0) |||
        (if n.getLsbD 3 then 0x08 else 0) ||| (if bc ≠ 0 then 0x04 else 0) ||| 0x02 ||| (f &&& 0x01) := by
  intro r h n
  have hsign : bitIf (r.getLsbD 7) 0x80 = r &&& 0x80 := (BitVec.and_twoPow r 7).symm
  rw [blockCompareFlags, hsign, bitIf_beq, bitIf_bne, BitVec.or_assoc _ (bitIf _ 0x10), BitVec.or_comm (bitIf _ 0x10),
    ← BitVec.or_assoc]
  rfl

/-- F of INI, IND, OUTI and OUTD (R410, R411, R414, R415). -/
theorem blockIoFlags_eq (b t : Byte) (k : Nat) :
    blockIoFlags b t k =
      sz53 b ||| (if t.getLsbD 7 then 0x02 else 0) ||| (if 0xFF < k then 0x11 else 0) |||
        (if par (BitVec.ofNat 8 (k % 8) ^^^ b) then 0x04 else 0) := by
  rw [blockIoFlags, bitIf_decide]
  rfl

/-- A difference is 0 where the bytes are the same. -/
theorem difference_eq_zero_iff (a t : Byte) : a - t = 0 ↔ a = t := by
  rw [BitVec.sub_eq_iff_eq_add, BitVec.ofNat_eq_ofNat, BitVec.zero_add]

/-! ## The direction of a form -/

/-- The direction of the D forms and of the I forms. -/
def dirOf (down : Bool) : Dir := if down then .down else .up

theorem dirOf_delta (down : Bool) : (dirOf down).delta = if down then -1 else 1 := by cases down <;> rfl

theorem dirOf_delta8 (down : Bool) : (dirOf down).delta8 = if down then -1 else 1 := by cases down <;> rfl

section
variable (dir : Dir) (s : State)

/-! ## One iteration: PC stays, and the counter that the repetition tests falls by 1 -/

@[simp] theorem blockLoad_pc : (blockLoad dir s).pc = s.pc := by simp [blockLoad]

@[simp] theorem blockCompare_pc : (blockCompare dir s).pc = s.pc := rfl

@[simp] theorem blockIn_pc : (blockIn dir s).pc = s.pc := by simp [blockIn]

@[simp] theorem blockOut_pc : (blockOut dir s).pc = s.pc := by simp [blockOut]

@[simp] theorem blockLoad_bc : (blockLoad dir s).bc = s.bc - 1 := pair_hi_lo _

@[simp] theorem blockCompare_bc : (blockCompare dir s).bc = s.bc - 1 := pair_hi_lo _

@[simp] theorem blockIn_b : (blockIn dir s).main.b = s.main.b - 1 := rfl

@[simp] theorem blockOut_b : (blockOut dir s).main.b = s.main.b - 1 := by simp [blockOut]

/-! ## What an iteration does after a fetch, which changes neither a register that it reads nor memory -/

section
variable (len m1 t : Nat)

/-- LDI and LDD (R402, R403). -/
theorem blockLoad_fetched :
    let v := s.readMem s.hl
    let bc := s.bc - 1
    blockLoad dir (s.fetched len m1 t) =
      (((((s.fetched len m1 t).writeMem s.de v).setHl (s.hl + dir.delta)).setDe (s.de + dir.delta)).setBc bc).setF
        (blockLoadFlags s.a v bc s.f) := rfl

/-- CPI and CPD (R406, R407). -/
theorem blockCompare_fetched :
    let bc := s.bc - 1
    blockCompare dir (s.fetched len m1 t) =
      ((((s.fetched len m1 t).setHl (s.hl + dir.delta)).setBc bc).setWz (s.wz + dir.delta)).setF
        (blockCompareFlags s.a (s.readMem s.hl) bc s.f) := rfl

/-- INI and IND, the port read at the old B (R410, R411). -/
theorem blockIn_fetched :
    let v := (s.fetched len m1 t).portIn s.bc
    let b := s.main.b - 1
    blockIn dir (s.fetched len m1 t) =
      ((((v.2.setWz (s.bc + dir.delta)).writeMem s.hl v.1).setB b).setHl (s.hl + dir.delta)).setF
        (blockIoFlags b v.1 (v.1.toNat + (s.main.c + dir.delta8).toNat)) := rfl

/-- OUTI and OUTD, the port written at the new B (R414, R415). -/
theorem blockOut_fetched :
    let v := s.readMem s.hl
    let b := s.main.b - 1
    blockOut dir (s.fetched len m1 t) =
      (((((s.fetched len m1 t).setB b).portOut (pair b s.main.c) v).setWz (pair b s.main.c + dir.delta)).setHl
        (s.hl + dir.delta)).setF (blockIoFlags b v (v.toNat + (lo (s.hl + dir.delta)).toNat)) := rfl

end

/-! ## The repetition, after a fetch of the two bytes (R400) -/

section
variable (m1 n : Nat)

theorem State.fetched_pc_sub_two : (s.fetched 2 m1 n).pc - 2 = s.pc := BitVec.add_sub_cancel ..

/-- From PC past the two bytes, a repeat is PC at the first of them and 5 T-states more (R400). -/
theorem State.repeatBlock_of_pc {t : State} (h : t.pc = (s.fetched 2 m1 n).pc) :
    t.repeatBlock = (t.setPc s.pc).addCyc 5 := by
  rw [State.repeatBlock, h, State.fetched_pc_sub_two]

/-- LDIR, LDDR, CPIR and CPDR set WZ to the second of them (R404, R408). -/
theorem State.repeatBlockWz_of_pc {t : State} (h : t.pc = (s.fetched 2 m1 n).pc) :
    t.repeatBlockWz = ((t.setPc s.pc).addCyc 5).setWz (s.pc + 1) := by
  rw [State.repeatBlockWz, State.repeatBlock_of_pc s m1 n h, h, State.fetched_pc_sub_two]

/-- LDIR and LDDR repeat while BC is not 0 (R401, R404, R405). -/
theorem blockLoadRepeat_fetched :
    let moved := blockLoad dir (s.fetched 2 m1 n)
    blockLoadRepeat dir (s.fetched 2 m1 n) =
      if s.bc - 1 ≠ 0 then ((moved.setPc s.pc).addCyc 5).setWz (s.pc + 1) else moved := by
  intro moved
  rw [ite_not, ← State.repeatBlockWz_of_pc s m1 n (blockLoad_pc ..), blockLoadRepeat, blockLoad_bc]
  rfl

/-- CPIR and CPDR repeat while BC is not 0 and the byte's difference from A is not 0 (R401, R408, R409). -/
theorem blockCompareRepeat_fetched :
    let compared := blockCompare dir (s.fetched 2 m1 n)
    blockCompareRepeat dir (s.fetched 2 m1 n) =
      if s.bc - 1 ≠ 0 ∧ s.a - s.readMem s.hl ≠ 0 then ((compared.setPc s.pc).addCyc 5).setWz (s.pc + 1)
      else compared := by
  intro compared
  have hstop : (s.bc - 1 ≠ 0 ∧ s.a - s.readMem s.hl ≠ 0) ↔ ¬ (s.bc - 1 = 0 ∨ s.a = s.readMem s.hl) := by
    rw [not_or, ne_eq, ne_eq, difference_eq_zero_iff]
  simp only [hstop]
  rw [ite_not, ← State.repeatBlockWz_of_pc s m1 n (blockCompare_pc ..), blockCompareRepeat,
    blockCompare_bc]
  rfl

/-- INIR and INDR repeat while B is not 0 (R401, R412, R413). -/
theorem blockInRepeat_fetched :
    let taken := blockIn dir (s.fetched 2 m1 n)
    blockInRepeat dir (s.fetched 2 m1 n) =
      if s.main.b - 1 ≠ 0 then (taken.setPc s.pc).addCyc 5 else taken := by
  intro taken
  rw [ite_not, ← State.repeatBlock_of_pc s m1 n (blockIn_pc ..), blockInRepeat, blockIn_b]
  rfl

/-- OTIR and OTDR repeat while B is not 0 (R401, R416, R417). -/
theorem blockOutRepeat_fetched :
    let sent := blockOut dir (s.fetched 2 m1 n)
    blockOutRepeat dir (s.fetched 2 m1 n) =
      if s.main.b - 1 ≠ 0 then (sent.setPc s.pc).addCyc 5 else sent := by
  intro sent
  rw [ite_not, ← State.repeatBlock_of_pc s m1 n (blockOut_pc ..), blockOutRepeat, blockOut_b]
  rfl

end

end

/-! ## The forms and their operations: the D forms have y = 5, the I forms y = 4, the repeating ones y + 2 -/

section
variable (s : State) (down : Bool)

/-- LDI or LDD, and LDIR or LDDR (R402 to R405). -/
theorem exec_blockLoad :
    let y : BitVec 3 := if down then 5 else 4
    exec (instrOf [0xED, opcode 2 y 0]) s = .next (blockLoad (dirOf down) (s.fetched 2 2 16)) ∧
    exec (instrOf [0xED, opcode 2 (y + 2) 0]) s = .next (blockLoadRepeat (dirOf down) (s.fetched 2 2 16)) := by
  cases down <;> exact ⟨rfl, rfl⟩

/-- CPI or CPD, and CPIR or CPDR (R406 to R409). -/
theorem exec_blockCompare :
    let y : BitVec 3 := if down then 5 else 4
    exec (instrOf [0xED, opcode 2 y 1]) s = .next (blockCompare (dirOf down) (s.fetched 2 2 16)) ∧
    exec (instrOf [0xED, opcode 2 (y + 2) 1]) s = .next (blockCompareRepeat (dirOf down) (s.fetched 2 2 16)) := by
  cases down <;> exact ⟨rfl, rfl⟩

/-- INI or IND, and INIR or INDR (R410 to R413). -/
theorem exec_blockIn :
    let y : BitVec 3 := if down then 5 else 4
    exec (instrOf [0xED, opcode 2 y 2]) s = .next (blockIn (dirOf down) (s.fetched 2 2 16)) ∧
    exec (instrOf [0xED, opcode 2 (y + 2) 2]) s = .next (blockInRepeat (dirOf down) (s.fetched 2 2 16)) := by
  cases down <;> exact ⟨rfl, rfl⟩

/-- OUTI or OUTD, and OTIR or OTDR (R414 to R417). -/
theorem exec_blockOut :
    let y : BitVec 3 := if down then 5 else 4
    exec (instrOf [0xED, opcode 2 y 3]) s = .next (blockOut (dirOf down) (s.fetched 2 2 16)) ∧
    exec (instrOf [0xED, opcode 2 (y + 2) 3]) s = .next (blockOutRepeat (dirOf down) (s.fetched 2 2 16)) := by
  cases down <;> exact ⟨rfl, rfl⟩

end

/-- Settles O27: one iteration is `blockLoad` after the fetch, with the flags of `blockLoadFlags_eq`; the repeating form goes
back after it while BC is not 0 (`blockLoadRepeat_fetched`). -/
theorem blockTransfers : Obligations.BlockTransfers := by
  intro down s y step1 t n bc moved
  obtain ⟨hone, hrepeat⟩ := exec_blockLoad s down
  have hmoved : blockLoad (dirOf down) (s.fetched 2 2 16) = moved := by
    rw [blockLoad_fetched, blockLoadFlags_eq, dirOf_delta]
  rw [blockLoadRepeat_fetched] at hrepeat
  rw [hmoved] at hone hrepeat
  exact ⟨hone, hrepeat⟩

/-- Settles O28: one iteration is `blockCompare` after the fetch, with the flags of `blockCompareFlags_eq`; the repeating
form goes back after it while BC is not 0 and the difference is not 0 (`blockCompareRepeat_fetched`). -/
theorem blockCompares : Obligations.BlockCompares := by
  intro down s y step1 t r h n bc compared
  obtain ⟨hone, hrepeat⟩ := exec_blockCompare s down
  have hcompared : blockCompare (dirOf down) (s.fetched 2 2 16) = compared := by
    rw [blockCompare_fetched, blockCompareFlags_eq, dirOf_delta]
  rw [blockCompareRepeat_fetched] at hrepeat
  rw [hcompared] at hone hrepeat
  exact ⟨hone, hrepeat⟩

/-- Settles O29: one iteration is `blockIn` after the fetch, with the flags of `blockIoFlags_eq`; the repeating form goes
back after it while B is not 0 (`blockInRepeat_fetched`). -/
theorem blockInputs : Obligations.BlockInputs := by
  intro down s y step1 step8 t b k taken
  obtain ⟨hone, hrepeat⟩ := exec_blockIn s down
  have htaken : blockIn (dirOf down) (s.fetched 2 2 16) = taken := by
    rw [blockIn_fetched, blockIoFlags_eq, dirOf_delta, dirOf_delta8]
  rw [blockInRepeat_fetched] at hrepeat
  rw [htaken] at hone hrepeat
  exact ⟨hone, hrepeat⟩

/-- Settles O30: one iteration is `blockOut` after the fetch, with the flags of `blockIoFlags_eq`; the repeating form goes
back after it while B is not 0 (`blockOutRepeat_fetched`). -/
theorem blockOutputs : Obligations.BlockOutputs := by
  intro down s y step1 t b k sent
  obtain ⟨hone, hrepeat⟩ := exec_blockOut s down
  have hsent : blockOut (dirOf down) (s.fetched 2 2 16) = sent := by
    rw [blockOut_fetched, blockIoFlags_eq, dirOf_delta]
  rw [blockOutRepeat_fetched] at hrepeat
  rw [hsent] at hone hrepeat
  exact ⟨hone, hrepeat⟩

end Sys2Proof.Machine

/-!
The statements about the single-byte input and output (47_io.md): which operation each form decodes to, and what that
operation does after its fetch.
-/

namespace Sys2Proof.Machine

section
variable (s : State)

/-! ## What the operations do after a fetch, which changes no register that they read -/

section
variable (len m1 t : Nat)

/-- The port is A:n, and WZ the word after it (R440). -/
theorem inA_fetched (n : Byte) :
    let v := (s.fetched len m1 t).portIn (pair s.a n)
    inA n (s.fetched len m1 t) = (v.2.setA v.1).setWz (pair s.a n + 1) := rfl

/-- The port is A:n; in WZ n alone is incremented (R441). -/
theorem outA_fetched (n : Byte) :
    outA n (s.fetched len m1 t) = ((s.fetched len m1 t).portOut (pair s.a n) s.a).setWz (pair s.a (n + 1)) := rfl

/-- The port and WZ are those of the old BC, and of F only C is kept (R442). -/
theorem inC_some_fetched (r : Reg8) :
    let v := (s.fetched len m1 t).portIn s.bc
    inC (some r) (s.fetched len m1 t) =
      ((v.2.setReg8 r v.1).setWz (s.bc + 1)).setF (sz53P v.1 ||| (s.f &&& 0x01)) := rfl

/-- Without a register, the byte read shows in F alone (R443). -/
theorem inC_none_fetched :
    let v := (s.fetched len m1 t).portIn s.bc
    inC none (s.fetched len m1 t) = (v.2.setWz (s.bc + 1)).setF (sz53P v.1 ||| (s.f &&& 0x01)) := rfl

/-- The port and WZ are those of BC (R444, R445). -/
theorem outC_fetched (v : Byte) :
    outC v (s.fetched len m1 t) = ((s.fetched len m1 t).portOut s.bc v).setWz (s.bc + 1) := rfl

end

/-! ## The forms and their operations (R440 to R445) -/

/-- `IN A,(n)` (R440). -/
theorem exec_in_A_mn (n : Byte) : exec (instrOf [0xDB, n]) s = .next (inA n (s.fetched 2 1 11)) := by
  rw [instrOf_two]
  rfl

/-- `OUT (n),A` (R441). -/
theorem exec_out_mn_A (n : Byte) : exec (instrOf [0xD3, n]) s = .next (outA n (s.fetched 2 1 11)) := by
  rw [instrOf_two]
  rfl

/-- `IN r,(C)`, r being the register of the table (R442). -/
theorem exec_in_register_mC (y : BitVec 3) (hy : y ≠ 6) :
    ∃ r, rTable y = .reg r ∧ exec (instrOf [0xED, opcode 1 y 0]) s = .next (inC (some r) (s.fetched 2 2 12)) := by
  revert y
  exact forall_register ⟨.b, rfl, rfl⟩ ⟨.c, rfl, rfl⟩ ⟨.d, rfl, rfl⟩ ⟨.e, rfl, rfl⟩ ⟨.h, rfl, rfl⟩ ⟨.l, rfl, rfl⟩
    ⟨.a, rfl, rfl⟩

/-- `IN (C)` (R443). -/
theorem exec_in_mC : exec (instrOf [0xED, 0x70]) s = .next (inC none (s.fetched 2 2 12)) := rfl

/-- `OUT (C),r` (R444). -/
theorem exec_out_mC_register (y : BitVec 3) (hy : y ≠ 6) :
    exec (instrOf [0xED, opcode 1 y 1]) s = .next (outC (s.readLoc (rTable y)) (s.fetched 2 2 12)) := by
  revert y
  exact forall_register rfl rfl rfl rfl rfl rfl rfl

/-- `OUT (C),0` (R445). -/
theorem exec_out_mC_zero : exec (instrOf [0xED, 0x71]) s = .next (outC 0 (s.fetched 2 2 12)) := rfl

end

/-- Settles O31: each form is one input or output after its fetch (the `exec_in_` and `exec_out_` lemmas above), which
leaves A, BC and F as they were; IN r,(C) writes the register of the table. -/
theorem inputAndOutput : Obligations.InputAndOutput := by
  intro n y s viaA viaC flags
  refine ⟨?_, ?_, fun hy => ?_, ?_, fun hy => ?_, ?_⟩
  · rw [exec_in_A_mn, inA_fetched]
  · rw [exec_out_mn_A, outA_fetched]
  · obtain ⟨r, hr, hexec⟩ := exec_in_register_mC s y hy
    rw [hexec, inC_some_fetched, hr]
    rfl
  · rw [exec_in_mC, inC_none_fetched]
  · rw [exec_out_mC_register s y hy, outC_fetched]
  · rw [exec_out_mC_zero, outC_fetched]

end Sys2Proof.Machine

/-!
The statements about CPU control (48_cpu_control.md): what each form does after its fetch.
-/

namespace Sys2Proof.Machine

section
variable (s : State)

/-- `IM m`, in its eight encodings (R464 to R466). -/
theorem exec_im (y : BitVec 3) :
    exec (instrOf [0xED, opcode 1 y 6]) s = .next { s.fetched 2 2 8 with
      im := if y = 2 ∨ y = 6 then .im1 else if y = 3 ∨ y = 7 then .im2 else .im0 } := by
  revert y
  exact forall_field3 rfl rfl rfl rfl rfl rfl rfl rfl

/-- The decoder's ED table holds a no-operation at the codes of no instruction (30_encoding.md R151). -/
theorem cell_edRows_noOperation {op : Byte} (h : isEdNoOperation op = true) :
    cell edRows (.i0 .nop) op = .i0 (.ed_nop op) := by
  rw [edRows_noOperation, cell_table, h, cond_true]

/-- An ED no-operation is its fetch, whatever byte stands after it (R467). -/
theorem exec_edNop {op : Byte} (h : isEdNoOperation op = true) (n : Byte) :
    exec (instrOf [0xED, op, n]) s = .next (s.fetched 2 2 8) := by
  have hdecoded : (decodeWindow 0xED op n 0).1 = .ed_nop op :=
    congrArg (fun e => (Entry.take e n 0 2).1) (cell_edRows_noOperation h)
  rw [instrOf_three, hdecoded]
  rfl

end

/-- The codes that R467 lists are those of no instruction (R151). -/
theorem isEdNoOperation_of_listed (op : Byte) :
    (op.toNat < 0x40 ∨ op = 0x77 ∨ op = 0x7F ∨ (0x80 ≤ op.toNat ∧ op.toNat < 0xA0) ∨
      (0xA4 ≤ op.toNat ∧ op.toNat < 0xA8) ∨ (0xAC ≤ op.toNat ∧ op.toNat < 0xB0) ∨
      (0xB4 ≤ op.toNat ∧ op.toNat < 0xB8) ∨ 0xBC ≤ op.toNat) → isEdNoOperation op = true := by
  revert op
  decide

/-- Settles O32: NOP, HALT, DI and EI by their one code each, IM by its table (`exec_im`), and the listed ED codes are those
that decode to a no-operation (`isEdNoOperation_of_listed`). -/
theorem cpuControl : Obligations.CpuControl := fun y _ n s =>
  ⟨rfl, rfl, rfl, rfl, exec_im s y, fun hop => exec_edNop s (isEdNoOperation_of_listed _ hop) n⟩

end Sys2Proof.Machine

/-!
The statements about steps and interrupts (60_exceptions.md): what one instruction does to the EI delay and the requests,
what the boundary does by each acceptance, and C7.
-/

namespace Sys2Proof.Machine

/-! ## The parts of a step (R500) -/

section
variable {s t : State}

/-- After an instruction or a halted cycle a step goes on to the boundary and C7. -/
theorem step_of_instructionStep (h : s.instructionStep = .next t) : step s = t.endStep := by
  rw [step, machineStep, h]

/-- After an acceptance a step goes on to C7. -/
theorem State.endStep_of_boundary (h : s.boundary = .next t) : s.endStep = .next t.c7 := by
  rw [State.endStep, h]

/-- The end of an instruction other than EI, and of a halted cycle, ends the EI delay (R502). -/
theorem State.retire_ends_delay {delay : Fin 2} (h : s.iffDelay = delay) :
    s.retire delay false = { s with iffDelay := 0 } := by
  have hvalues : ∀ d : Fin 2, d = 0 ∨ d = 1 := by decide
  obtain rfl | rfl := hvalues delay
  · change s = _
    rw [← h]
  · rfl

/-- The instruction at PC, run once no chain is left. -/
theorem runInstruction_of_exec (hchain : s.nextIsChain = false) (hexec : s.execNext = .next t) (delay : Fin 2)
    (fuel : Nat) : runInstruction delay (fuel + 1) s = .next (t.retire delay s.nextIsEi) := by
  simp [runInstruction, hexec, hchain]

/-- The instruction at PC of a CPU that is not halted. -/
theorem State.instructionStep_of_exec (hhalted : s.halted = false) (hchain : s.nextIsChain = false)
    (hexec : s.execNext = .next t) : s.instructionStep = .next (t.retire s.iffDelay s.nextIsEi) := by
  rw [State.instructionStep, if_neg (Bool.eq_false_iff.mp hhalted)]
  exact runInstruction_of_exec hchain hexec s.iffDelay 65535

/-- A halted cycle fetches nothing and ends the EI delay (R501, R502). -/
theorem State.instructionStep_of_halted (hhalted : s.halted = true) :
    s.instructionStep = .next { s with r := bumpR s.r 1, cyc := s.cyc + 4, iffDelay := 0 } := by
  have hdelay : s.haltedCycle.iffDelay = s.iffDelay := rfl
  rw [State.instructionStep, if_pos hhalted, State.retire_ends_delay hdelay, State.haltedCycle, State.fetched,
    BitVec.add_zero]

end

/-- Settles O43: the instruction at PC is the one decoded from the bytes there (`State.instructionStep_of_exec`), and the
step goes on after it (`step_of_instructionStep`). -/
theorem stepRunsTheInstructionAtPc : Obligations.StepRunsTheInstructionAtPc := by
  intro s t hhalted i hchain hexec
  rw [step_of_instructionStep (State.instructionStep_of_exec hhalted hchain hexec)]
  congr 1
  rw [State.retire, ite_or]
  rfl

/-- Settles O44: by `State.instructionStep_of_halted`. -/
theorem haltedStep : Obligations.HaltedStep := fun _ hhalted =>
  step_of_instructionStep (State.instructionStep_of_halted hhalted)

/-! ## The EI delay (R502; 48_cpu_control.md R463) -/

/-- The instructions that are EI. -/
theorem isEi_cases {i : Instr} (h : i.isEi = true) : i = .ei ∨ i = .dd_ei ∨ i = .fd_ei := by
  unfold Instr.isEi at h
  split at h
  case h_4 => exact absurd h Bool.false_ne_true
  all_goals simp

/-- Each of them ends with the operation of EI, and none is a lone DD or FD. -/
theorem exec_of_isEi {i : Instr} (h : i.isEi = true) (s : State) :
    i.isChainByte = false ∧ ∃ u, exec i s = .next (ei u) := by
  obtain rfl | rfl | rfl := isEi_cases h <;> exact ⟨rfl, _, rfl⟩

/-- The bytes whose form is EI's decode to an EI. -/
theorem isEi_of_form {b0 b1 b2 b3 n1 n2 : Byte} (h : formOf b0 b1 b2 b3 = .main 0xFB n1 n2) :
    (instrOf [b0, b1, b2, b3]).isEi = true := by
  have hindex {xy : XY} (h : indexForm xy b1 b2 b3 = .main 0xFB n1 n2) : b1 = 0xFB := by
    unfold indexForm at h
    split at h
    · cases h
    split at h
    · cases h
    split at h <;> cases h
    rfl
  rw [instrOf_four, window_isEi]
  unfold formOf at h
  split at h
  · cases h
  split at h
  · cases h
  split at h
  next h0 =>
    rw [h0, hindex h]
    rfl
  split at h
  next h0 =>
    rw [h0, hindex h]
    rfl
  · cases h
    rfl

/-- Every instruction but EI leaves the EI delay to the end of the step. -/
theorem exec_iffDelay {b0 b1 b2 b3 : Byte} {s t : State} (hei : (instrOf [b0, b1, b2, b3]).isEi = false)
    (h : exec (instrOf [b0, b1, b2, b3]) s = .next t) : t.iffDelay = s.iffDelay := by
  obtain ⟨len, n, -, rfl⟩ := exec_instrOf h
  refine act_run_iffDelay _ _ fun hact => ?_
  obtain ⟨n1, n2, hform⟩ := names_of_act_eq hact
  exact absurd (isEi_of_form hform) (Bool.eq_false_iff.mp hei)

section
variable {s t : State}

/-- An instruction other than EI and a lone DD or FD ends the delay. -/
theorem State.instructionStep_other (hhalted : s.halted = false) (hchain : s.nextIsChain = false) (hei : s.nextIsEi = false)
    (h : s.instructionStep = .next t) : t.iffDelay = 0 := by
  obtain ⟨u, hu⟩ := exec_next s.nextInstr s
  have hdelay : u.iffDelay = s.iffDelay := exec_iffDelay hei hu
  rw [State.instructionStep_of_exec hhalted hchain hu, hei, State.retire_ends_delay hdelay] at h
  cases h
  rfl

/-- EI ends with its operation: the delay it sets stays. -/
theorem State.instructionStep_ei (hhalted : s.halted = false) (hei : s.nextIsEi = true) :
    ∃ u, s.instructionStep = .next (ei u) := by
  obtain ⟨hchain, u, hexec⟩ := exec_of_isEi hei s
  refine ⟨u, ?_⟩
  rw [State.instructionStep_of_exec hhalted hchain hexec, hei]
  rfl

/-- The byte FB at PC is EI. -/
theorem State.instructionStep_FB (hhalted : s.halted = false) (hpc : s.readMem s.pc = 0xFB) :
    s.instructionStep = .next (ei (s.fetched 1 1 4)) := by
  have hinstr : s.nextInstr = .ei := by
    rw [State.nextInstr, State.fetchAtPc, hpc]
    rfl
  have hei : s.nextIsEi = true := congrArg Instr.isEi hinstr
  have hchain : s.nextIsChain = false := congrArg Instr.isChainByte hinstr
  have hexec : s.execNext = .next (ei (s.fetched 1 1 4)) := congrArg (exec · s) hinstr
  rw [State.instructionStep_of_exec hhalted hchain hexec, hei]
  rfl

/-- A boundary without an NMI does nothing unless a request is pending, enabled and not delayed (R503). -/
theorem State.boundary_of_not_taken (hnmi : s.nmiPending = false)
    (h : s.intPending = false ∨ s.iff1 = false ∨ s.iffDelay = 1) : s.boundary = .next s := by
  have hnot : (s.intPending && s.iff1 && s.iffDelay == 0) = false := by
    obtain h | h | h := h <;> simp [h]
  simp [State.boundary, hnmi, hnot]

/-- C7 writes its latch and the request alone (R530). -/
theorem State.c7_eq (s : State) :
    ∃ p v latch, s.c7 = { s with intPending := p, intVector := v, c7Latch := latch } := by
  unfold State.c7 State.raiseInt
  split
  · exact ⟨_, _, _, rfl⟩
  · split
    · exact ⟨_, _, _, rfl⟩
    · split
      · split <;> exact ⟨_, _, _, rfl⟩
      · exact ⟨_, _, _, rfl⟩

end

/-- Settles O45: EI sets the delay (`State.instructionStep_ei`), which keeps the boundary from a maskable request
(`State.boundary_of_not_taken`); every other instruction and a halted cycle end it; and a lone DD or FD is no step of its own
(`State.instructionStep_chain`). -/
theorem eiDelayLastsOneInstruction : Obligations.EiDelayLastsOneInstruction := by
  refine ⟨fun s t hhalted hpc hnmi h => ?_, fun s t hhalted hchain hei h => State.instructionStep_other hhalted hchain hei h,
    fun s t hhalted hei h => ?_, fun s hhalted hchain => ?_, fun s t hhalted h => ?_,
    fun s hdelay hnmi => State.boundary_of_not_taken hnmi (.inr (.inr hdelay))⟩
  · have hboundary : (ei (s.fetched 1 1 4)).boundary = .next (ei (s.fetched 1 1 4)) :=
      State.boundary_of_not_taken hnmi (.inr (.inr rfl))
    obtain ⟨p, v, latch, hc7⟩ := (ei (s.fetched 1 1 4)).c7_eq
    rw [step_of_instructionStep (State.instructionStep_FB hhalted hpc), State.endStep_of_boundary hboundary, hc7] at h
    cases h
    exact ⟨rfl, rfl, rfl, rfl, rfl, rfl⟩
  · obtain ⟨u, hei⟩ := State.instructionStep_ei hhalted hei
    cases hei.symm.trans h
    exact ⟨rfl, rfl, rfl⟩
  · exact State.instructionStep_chain hhalted (s.nextIsChain_eq.symm.trans hchain)
  · cases (State.instructionStep_of_halted hhalted).symm.trans h
    rfl

/-! ## The acceptances (R503 to R508, R513) -/

section
variable (s : State)

/-- What taking an NMI does before it enters (R504). -/
def State.nmiWoken : State := ({ s with nmiPending := false }).wake.setIff false s.iff2

theorem State.acceptNmi_enters : s.acceptNmi = (s.nmiWoken.enterAt 0x0066).addCyc 11 := rfl

/-- What taking an NMI does (R504). -/
theorem State.acceptNmi_eq :
    s.acceptNmi =
      { ((s.writeMem (s.sp - 1) (hi s.pc)).writeMem (s.sp - 2) (lo s.pc)).setSp (s.sp - 2) with
        nmiPending := false, halted := false, iff1 := false, r := bumpR s.r 1, pc := 0x0066, wz := 0x0066
        cyc := s.cyc + 11 } := by
  rw [State.acceptNmi_enters, State.enterAt_eq]
  simp only [State.writeMem_eq]
  rfl

/-- What taking a maskable request does before it enters (R505). -/
def State.maskableWoken : State := ({ s with intPending := false }).wake.setIff false false

/-- What taking a maskable request does, whatever its mode (R505). -/
theorem State.maskableWoken_enterAt (target : Word) (n : Nat) :
    (s.maskableWoken.enterAt target).addCyc n =
      { ((s.writeMem (s.sp - 1) (hi s.pc)).writeMem (s.sp - 2) (lo s.pc)).setSp (s.sp - 2) with
        intPending := false, halted := false, iff1 := false, iff2 := false, r := bumpR s.r 1, pc := target, wz := target
        cyc := s.cyc + n } := by
  rw [State.enterAt_eq]
  simp only [State.writeMem_eq]
  rfl

/-- A maskable request is taken by its mode (R505). -/
theorem State.acceptInt_eq :
    s.acceptInt = match s.im with
      | .im0 =>
        if isRst s.intVector then .next ((s.maskableWoken.enterAt (rstTarget s.intVector)).addCyc 13)
        else .refused (.im0DataBusByte s.intVector)
      | .im1 => .next ((s.maskableWoken.enterAt 0x0038).addCyc 13)
      | .im2 => .next ((s.maskableWoken.enterAt (s.readMem16 (s.vectorPointer s.intVector))).addCyc 19) := rfl

/-- Mode 1 enters at 0x0038 (R507). -/
theorem State.acceptInt_im1 (h : s.im = .im1) : s.acceptInt = .next ((s.maskableWoken.enterAt 0x0038).addCyc 13) := by
  simp only [State.acceptInt_eq, h]

/-- Mode 2 enters where its table entry says, the low byte first (R508). -/
theorem State.acceptInt_im2 (h : s.im = .im2) :
    let entry := pair s.i (s.intVector &&& 0xFE)
    s.acceptInt = .next ((s.maskableWoken.enterAt (pair (s.readMem (entry + 1)) (s.readMem entry))).addCyc 19) := by
  simp only [State.acceptInt_eq, h]
  rfl

/-- The target of a one-byte RST is its middle field (R506). -/
theorem rstTarget_eq (v : Byte) : rstTarget v = pair 0 (v &&& 0x38) := by
  revert v
  decide

/-- Mode 0 does what a one-byte RST on the data bus does, and refuses every other byte (R506). -/
theorem State.acceptInt_im0 (h : s.im = .im0) :
    s.acceptInt =
      if s.intVector &&& 0xC7 = 0xC7 then .next ((s.maskableWoken.enterAt (pair 0 (s.intVector &&& 0x38))).addCyc 13)
      else .refused (.im0DataBusByte s.intVector) := by
  simp only [State.acceptInt_eq, h, rstTarget_eq, isRst, beq_iff_eq]

/-- A boundary takes a request that is pending, enabled and not delayed, where there is no NMI (R503). -/
theorem State.boundary_of_taken (hnmi : s.nmiPending = false) (hpending : s.intPending = true) (hiff : s.iff1 = true)
    (hdelay : s.iffDelay = 0) : s.boundary = s.acceptInt := by
  simp [State.boundary, hnmi, hpending, hiff, hdelay]

/-- A boundary takes an NMI first (R503). -/
theorem State.boundary_of_nmi (hnmi : s.nmiPending = true) : s.boundary = .next s.acceptNmi := by
  rw [State.boundary, if_pos hnmi]

end

/-- Settles O46: by `State.acceptNmi_eq`. -/
theorem nmiAcceptance : Obligations.NmiAcceptance := by
  intro s hnmi
  rw [s.boundary_of_nmi hnmi, s.acceptNmi_eq]

/-- Settles O47: the boundary takes the request or leaves it (`State.boundary_of_taken`, `State.boundary_of_not_taken`), and
each mode enters its own target (`State.maskableWoken_enterAt`). -/
theorem maskableAcceptance : Obligations.MaskableAcceptance := by
  intro s hnmi enter entry
  refine ⟨State.boundary_of_not_taken hnmi, fun hpending hiff hdelay => ?_⟩
  rw [s.boundary_of_taken hnmi hpending hiff hdelay]
  refine ⟨fun him => ?_, fun him => ?_, fun him hrst => ?_, fun him hrst => ?_⟩
  · rw [s.acceptInt_im1 him, State.maskableWoken_enterAt]
  · rw [s.acceptInt_im2 him, State.maskableWoken_enterAt]
  · rw [s.acceptInt_im0 him, if_pos hrst, State.maskableWoken_enterAt]
  · rw [s.acceptInt_im0 him, if_neg hrst]

section
variable {s : State}

/-- Whether an address is in the ROM region hangs on the parameters alone. -/
theorem State.inRom_congr {t : State} (h : t.params = s.params) (a : Word) : t.inRom a = s.inRom a := by
  rw [State.inRom, State.inRom, h]

/-- T-states leave the word on the stack. -/
theorem State.top16_addCyc (n : Nat) : (s.addCyc n).top16 = s.top16 := rfl

/-- Entering a handler leaves PC on the stack, where its two bytes are RAM. -/
theorem State.top16_enterAt (h1 : s.inRom (s.sp - 1) = false) (h2 : s.inRom (s.sp - 2) = false) (target : Word) :
    (s.enterAt target).top16 = s.pc := by
  simpa [State.enterAt, State.top16] using s.top16_push16 h1 h2 s.pc

/-- So does an NMI; it keeps IFF2 and the registers of the main bank (R504). -/
theorem State.acceptNmi_keeps (h1 : s.inRom (s.sp - 1) = false) (h2 : s.inRom (s.sp - 2) = false) :
    s.acceptNmi.top16 = s.pc ∧ s.acceptNmi.sp = s.sp - 2 ∧ s.acceptNmi.iff2 = s.iff2 ∧ s.acceptNmi.main = s.main := by
  refine ⟨?_, ?_, ?_, ?_⟩
  · have h1' : s.nmiWoken.inRom (s.nmiWoken.sp - 1) = false := (State.inRom_congr rfl _).trans h1
    have h2' : s.nmiWoken.inRom (s.nmiWoken.sp - 2) = false := (State.inRom_congr rfl _).trans h2
    rw [s.acceptNmi_enters, State.top16_addCyc, State.top16_enterAt h1' h2']
    rfl
  all_goals simp [State.acceptNmi_eq]

end

/-- Settles O48: the NMI pushes PC and keeps IFF2 (`State.acceptNmi_keeps`), and RETN pops the one and copies the other to
IFF1. -/
theorem retnUndoesAnNmi : Obligations.RetnUndoesAnNmi := by
  intro s t u y h1 h2 hnmi hiff _ hnmiTaken hretn
  obtain ⟨htop, hsp, hiff2, hmain⟩ := State.acceptNmi_keeps h1 h2
  rw [s.boundary_of_nmi hnmi, Host.Outcome.next.injEq] at hnmiTaken
  rw [hnmiTaken] at htop hsp hiff2 hmain
  rw [exec_reti_retn, Host.Outcome.next.injEq, State.returnFromHandler_fetched, State.returnToCaller_fetched, htop, hsp,
    BitVec.sub_add_cancel] at hretn
  subst hretn
  exact ⟨rfl, rfl, hiff2.trans hiff, hiff2, hmain⟩

/-! ## The requests and C7 (R509, R510, R530) -/

/-- Settles O49: a request by its definition; C7 by its conditions in turn: uses_8251, IFF1, and whether it raises. -/
theorem schedulerAndRequests : Obligations.SchedulerAndRequests := by
  intro s v
  refine ⟨rfl, rfl, fun huses => ?_, fun huses hiff => ?_, fun huses hiff hqueue hdelay hlatch => ?_,
    fun huses hiff hquiet => ?_⟩
  · simp [State.c7, huses]
  · simp [State.c7, huses, hiff]
  · simp [State.c7, huses, hiff, hqueue, hdelay, hlatch]
  · have hnot : (!s.queue.isEmpty && s.iffDelay == 0 && !s.c7Latch) = false := by
      obtain h | h | h := hquiet <;> simp [h]
    simp [State.c7, huses, hiff, hnot]

/-! ## Where a step fails (R511) -/

section
variable {s t : State}

/-- An instruction leaves the maskable request as it is. -/
theorem exec_request {i : Instr} (h : exec i s = .next t) : t.intPending = s.intPending ∧ t.intVector = s.intVector := by
  rw [exec_eq_plan, Plan.run_eq] at h
  cases h
  exact ⟨act_run_intPending _ _, act_run_intVector _ _⟩

/-- So does the end of the EI delay. -/
theorem State.retire_request (s : State) (delay : Fin 2) (eiDone : Bool) :
    (s.retire delay eiDone).intPending = s.intPending ∧ (s.retire delay eiDone).intVector = s.intVector := by
  unfold State.retire
  split
  · exact ⟨rfl, rfl⟩
  · split <;> exact ⟨rfl, rfl⟩

/-- A chain and the instruction after it leave the maskable request as it is, unless the chain is as long as the fuel. -/
theorem runInstruction_cases (delay : Fin 2) (fuel : Nat) (s : State) :
    (∃ t, runInstruction delay fuel s = .next t ∧ t.intPending = s.intPending ∧ t.intVector = s.intVector) ∨
    (runInstruction delay fuel s = .fault .endlessPrefixChain ∧ s.Chain fuel) := by
  induction fuel generalizing s with
  | zero => exact .inr ⟨rfl, nofun⟩
  | succ fuel ih =>
    cases hchain : s.chainAt s.pc
    case true =>
      rw [runInstruction_chain hchain, State.chain_succ]
      exact (ih s.skipPrefix).imp_right fun ⟨hfault, hrest⟩ => ⟨hfault, hchain, hrest⟩
    case false =>
      obtain ⟨u, hu⟩ := exec_next s.nextInstr s
      obtain ⟨hpending, hvector⟩ := exec_request hu
      obtain ⟨hpending', hvector'⟩ := u.retire_request delay s.nextIsEi
      exact .inl ⟨_, runInstruction_of_exec (s.nextIsChain_eq.trans hchain) hu delay fuel, hpending'.trans hpending,
        hvector'.trans hvector⟩

/-- So does an instruction or a halted cycle. -/
theorem State.instructionStep_cases (s : State) :
    (∃ t, s.instructionStep = .next t ∧ t.intPending = s.intPending ∧ t.intVector = s.intVector) ∨
    (s.instructionStep = .fault .endlessPrefixChain ∧ s.Chain 65536) := by
  cases hhalted : s.halted
  case true => exact .inl ⟨_, State.instructionStep_of_halted hhalted, rfl, rfl⟩
  case false =>
    rw [State.instructionStep, if_neg (Bool.eq_false_iff.mp hhalted)]
    exact runInstruction_cases s.iffDelay 65536 s

/-- A chain through all addresses is DD or FD everywhere (70_reset_and_hazards.md R614). -/
theorem State.Chain.all_index (h : s.Chain 65536) (a : Word) : s.readMem a = 0xDD ∨ s.readMem a = 0xFD := by
  have hat := h (a - s.pc).toNat (a - s.pc).isLt
  rw [BitVec.ofNat_toNat, BitVec.setWidth_eq, BitVec.add_comm, BitVec.sub_add_cancel] at hat
  have hindex : isIndexByte (s.readMem a) = true := (Bool.and_eq_true_iff.mp hat).1
  simpa [isIndexByte] using hindex

/-- A boundary refuses in mode 0 alone, a pending byte that is no RST opcode. -/
theorem State.boundary_next_or_refused (s : State) :
    (∃ t, s.boundary = .next t) ∨
    (s.boundary = .refused (.im0DataBusByte s.intVector) ∧ s.intVector &&& 0xC7 ≠ 0xC7 ∧ s.intPending = true) := by
  obtain ⟨-, hb⟩ | ⟨-, hpending, -, -, hb⟩ | hb := s.boundary_cases
  · exact .inl ⟨_, hb⟩
  · rw [hb]
    cases him : s.im with
    | im1 => exact .inl ⟨_, s.acceptInt_im1 him⟩
    | im2 => exact .inl ⟨_, s.acceptInt_im2 him⟩
    | im0 =>
      rw [s.acceptInt_im0 him]
      split
      next => exact .inl ⟨_, rfl⟩
      next hrst => exact .inr ⟨rfl, hrst, hpending⟩
  · exact .inl ⟨_, hb⟩

end

/-- Settles O50: an instruction fails by an endless chain alone (`State.instructionStep_cases`), and the boundary after it by
the byte of a request (`State.boundary_next_or_refused`), which the instruction left as it was. -/
theorem stepFailsOnlyOutsideInstructions : Obligations.StepFailsOnlyOutsideInstructions := by
  intro s
  obtain ⟨t, ht, hpending, hvector⟩ | ⟨hfault, hchain⟩ := s.instructionStep_cases
  · rw [step_of_instructionStep ht]
    obtain ⟨u, hu⟩ | ⟨hrefused, hrst, hrequest⟩ := t.boundary_next_or_refused
    · exact .inl ⟨_, State.endStep_of_boundary hu⟩
    · refine .inr (.inr ⟨t.intVector, ?_, hrst, hpending ▸ hrequest, hvector⟩)
      rw [State.endStep, hrefused]
  · refine .inr (.inl ⟨?_, hchain.all_index⟩)
    rw [step, machineStep, hfault]

end Sys2Proof.Machine

/-!
The statements about the devices (60_exceptions.md R540 to R575): the port map on the low byte, then what each access of the
UARTs, of the SD device and of the file store behind it does.
-/

namespace Sys2Proof.Machine

/-! ## The port map (R540) -/

section
variable (s : State) (h p v : Byte)

/-- Every port address with the same low byte reaches the same port (R542). -/
theorem portOf_pair : portOf (pair h p) = portOf (pair 0 p) := by
  rw [portOf, portOf, lo_pair, lo_pair]

theorem State.portIn_pair : s.portIn (pair h p) = s.portIn (pair 0 p) := by
  rw [State.portIn, State.portIn, portOf_pair]

theorem State.portOut_pair : s.portOut (pair h p) v = s.portOut (pair 0 p) v := by
  rw [State.portOut, State.portOut, portOf_pair]

/-- The ports that no device owns (R541). -/
theorem portOf_unowned (hp : p ∉ [0x00, 0x01, 0x10, 0x11, 0x12, 0x13, 0x14, 0x15, 0x80, 0x81]) :
    portOf (pair h p) = .unowned := by
  rw [portOf_pair]
  revert p
  decide

theorem State.portOut_sdCommand : s.portOut (pair h 0x10) v = s.sdCommand v := s.portOut_pair h 0x10 v

theorem State.portIn_sdStatus : s.portIn (pair h 0x11) = (s.sdStatus, s) := s.portIn_pair h 0x11

theorem State.portIn_sdData : s.portIn (pair h 0x12) = s.sdDataRead := s.portIn_pair h 0x12

theorem State.portOut_sdData : s.portOut (pair h 0x12) v = s.sdDataWrite v := s.portOut_pair h 0x12 v

theorem State.portOut_sdName :
    s.portOut (pair h 0x13) v = s.setSd (Sd.pushName s.params.sd.fnameCap s.sd v) := s.portOut_pair h 0x13 v

end

/-! ## The UARTs (R545 to R556) -/

section
variable (s : State)

/-- A status bit for input that waits. -/
theorem State.bitIf_queued (mask : Byte) : bitIf s.queued mask = if s.queue = [] then 0 else mask := by
  rw [State.queued]
  cases s.queue <;> rfl

/-- A read takes the head of the queue, or gives 0 where it is empty (R546, R551). -/
theorem State.takeQueued_eq : s.takeQueued = (s.queue.headD 0, { s with queue := s.queue.tail }) := by
  have hself (q : List Byte) (hq : s.queue = q) : s = { s with queue := q } := by rw [← hq]
  rw [State.takeQueued]
  cases hq : s.queue with
  | nil => exact congrArg (Prod.mk 0) (hself [] hq)
  | cons b rest => rfl

/-- The USART has its two status bits for waiting input at bit 1 (R550). -/
theorem State.usartStatus_eq : s.usartStatus = (0x85 : Byte) ||| ((if s.queue = [] then 0 else 1 : Byte) <<< 1) := by
  rw [State.usartStatus, State.bitIf_queued]
  split <;> rfl

end

/-- Settles O51: each port by its low byte (`State.portIn_pair`, `State.portOut_pair`); the reads take the head of the queue
(`State.takeQueued_eq`) or show that it waits. -/
theorem uartAndUnownedPorts : Obligations.UartAndUnownedPorts := by
  intro h v s queued head taken used
  refine ⟨?_, ?_, s.portOut_pair h 0x80 v, s.portOut_pair h 0x81 v, ?_, ?_, s.portOut_pair h 0x00 v, s.portOut_pair h 0x01 v,
    s.portOut_pair h 0x11 v, ?_, fun p hp => ?_⟩
  · rw [State.portIn_pair]
    exact congrArg (fun bit => (0x02 ||| bit, s)) (s.bitIf_queued 0x01)
  · exact (s.portIn_pair h 0x81).trans s.takeQueued_eq
  · rw [State.portIn_pair]
    exact congrArg (fun status => (status, used)) s.usartStatus_eq
  · rw [State.portIn_pair]
    exact congrArg (fun r => (upperCase r.1, r.2)) used.takeQueued_eq
  · rintro p (rfl | rfl | rfl | rfl) <;> exact s.portIn_pair h _
  · rw [State.portIn, State.portOut, portOf_unowned h p hp]
    exact ⟨rfl, rfl⟩

/-! ## The SD latches and status (R561 to R563) -/

/-- The bit at a position. -/
theorem bitAt_getLsbD (j k : Fin 8) : (bitAt j).getLsbD k = decide (k = j) := by
  revert j k
  decide

/-- A bit of a mask that a condition lets through. -/
theorem bitIf_getLsbD (p : Bool) (mask : Byte) (i : Nat) : (bitIf p mask).getLsbD i = (p && mask.getLsbD i) := by
  cases p
  · exact BitVec.getLsbD_zero
  · exact (Bool.true_and _).symm

/-- Every mode but write can be read (R566). -/
theorem FileMode.readable_iff (m : FileMode) : m.readable = true ↔ m ≠ .write := by cases m <;> decide

/-- Every mode but read can be written (R567). -/
theorem FileMode.writable_iff (m : FileMode) : m.writable = true ↔ m ≠ .read := by cases m <;> decide

section
variable (s : State)

/-- A byte is available in an open file or an open listing (R563). -/
theorem State.sdAvail_iff :
    s.sdAvail = true ↔
      (∃ f, s.sd.file = some f ∧ f.mode ≠ .write ∧ f.position < (FileStore.bytes s.files f.name).length) ∨
      (∃ b rest, s.sd.dir = some (b :: rest)) := by
  rw [State.sdAvail, Bool.or_eq_true]
  refine or_congr ?_ ?_
  · cases s.sd.file with
    | none => simp
    | some f => simp [FileMode.readable_iff]
  · cases s.sd.dir with
    | none => simp
    | some bytes => cases bytes <;> simp

/-- The status byte, bit by bit. -/
theorem State.sdStatus_getLsbD (k : Fin 8) :
    s.sdStatus.getLsbD k = true ↔
      k = s.params.sd.readyBit ∨ (k = s.params.sd.errorBit ∧ s.sd.error = true) ∨
        (k = s.params.sd.availBit ∧ s.sdAvail = true) := by
  simp only [State.sdStatus, BitVec.getLsbD_or, bitIf_getLsbD, bitAt_getLsbD, Bool.or_eq_true, Bool.and_eq_true,
    decide_eq_true_eq, or_assoc, and_comm]

end

/-- Settles O52: the latches by their ports, and the status byte by its three bits (`State.sdStatus_getLsbD`). -/
theorem sdLatchesAndStatus : Obligations.SdLatchesAndStatus := by
  intro h v s p available
  refine ⟨s.portOut_sdName h 0, fun hv => ?_, s.portOut_pair h 0x14 v, s.portOut_pair h 0x15 v, fun _ => ?_⟩
  · rw [s.portOut_sdName h v, Sd.pushName, if_neg hv]
    rfl
  · rw [State.portIn_sdStatus]
    refine ⟨rfl, fun k => ?_⟩
    rw [State.sdStatus_getLsbD, State.sdAvail_iff]

/-! ## The SD commands (R564 to R570) -/

/-- A code selects its command where the codes are distinct. -/
theorem command?_code {codes : SdCodes} (hdistinct : codes.toList.Nodup) (command : SdCommand) :
    codes.command? (codes.code command) = some command := by
  simp only [SdCodes.toList, List.nodup_cons, List.mem_cons, List.not_mem_nil, not_or, or_false] at hdistinct
  cases command <;> simp [SdCodes.command?, SdCodes.code, hdistinct, eq_comm]

/-- Any other byte selects none. -/
theorem command?_of_not_mem {codes : SdCodes} {v : Byte} (hv : v ∉ codes.toList) : codes.command? v = none := by
  simp only [SdCodes.toList, List.mem_cons, List.not_mem_nil, not_or, or_false] at hv
  simp [SdCodes.command?, hv]

/-- What each command does (R564). -/
def State.sdRun (s : State) : SdCommand → State
  | .openRead => s.sdOpenRead
  | .create => s.sdCreate
  | .openAppend => s.sdOpenAppend
  | .seekToStart => s.sdSeek 0
  | .close => s.setSd s.sd.closeBoth
  | .listDirectory => s.sdListDirectory
  | .openReadWrite => s.sdOpenReadWrite
  | .seekToByte => s.sdSeek s.sd.seekPosition

/-- A command's code runs it. -/
theorem State.sdCommand_code (s : State) (hlegal : s.params.sd.legal) (command : SdCommand) :
    s.sdCommand (s.params.sd.codes.code command) = s.sdRun command := by
  rw [State.sdCommand, command?_code hlegal.1]
  cases command <;> rfl

/-- Any other byte is ignored. -/
theorem State.sdCommand_of_not_mem (s : State) {v : Byte} (hv : v ∉ s.params.sd.codes.toList) : s.sdCommand v = s := by
  rw [State.sdCommand, command?_of_not_mem hv]

/-- The seek position has its bytes in the two latches (R562). -/
theorem Sd.seekPosition_eq (d : Sd) : d.seekPosition = 256 * d.seekHi.toNat + d.seekLo.toNat := by
  rw [Sd.seekPosition, pair, BitVec.toNat_append, ← Nat.shiftLeft_add_eq_or_of_lt d.seekLo.isLt, Nat.shiftLeft_eq,
    Nat.mul_comm]

section
variable (s : State)

/-- With no file open a seek sets ERROR alone (R569). -/
theorem State.sdSeek_of_none (hfile : s.sd.file = none) (offset : Nat) :
    s.sdSeek offset = { s with sd := { s.sd with error := true } } := by
  rw [State.sdSeek, hfile]
  rfl

/-- A seek moves an open file within its length, where the backend allows it, and else closes it (R569). -/
theorem State.sdSeek_of_some {f : OpenFile} (hfile : s.sd.file = some f) (offset : Nat) :
    s.sdSeek offset =
      if offset ≤ (FileStore.bytes s.files f.name).length ∧
          s.params.policy.refuses s.files (.seek f.handle f.position offset) = false then
        { s with sd := { s.sd with file := some { f with position := offset }, error := false } }
      else { s with sd := { s.sd with file := none, error := true } } := by
  rw [State.sdSeek, hfile]
  simp only [Storage.seek, Bool.and_eq_true, decide_eq_true_eq, Bool.not_eq_true']
  rfl

/-- An open succeeds or fails as its answer says. -/
theorem State.sdOpened_ite (opening : Opening) (p : Prop) [Decidable p] (answer : FileStore × Nat) :
    s.sdOpened opening (if p then some answer else none) =
      if p then s.sdOpened opening (some answer) else s.sdOpened opening none := apply_ite ..

/-- open-for-read needs the name in the store and the backend's leave (R565). -/
theorem State.sdOpenRead_eq :
    s.sdOpenRead = s.sdOpened .read (if FileStore.has s.files s.sd.fname = true ∧
      s.params.policy.refuses s.files (.openRead s.sd.fname) = false then some (s.files, 0) else none) := by
  simp only [State.sdOpenRead, Storage.openRead, Bool.and_eq_true, Bool.not_eq_true']

/-- So does open-for-read-write (R565). -/
theorem State.sdOpenReadWrite_eq :
    s.sdOpenReadWrite = s.sdOpened .readWrite (if FileStore.has s.files s.sd.fname = true ∧
      s.params.policy.refuses s.files (.openReadWrite s.sd.fname) = false then some (s.files, 0) else none) := by
  simp only [State.sdOpenReadWrite, Storage.openReadWrite, Bool.and_eq_true, Bool.not_eq_true']

/-- create needs the backend's leave alone (R568). -/
theorem State.sdCreate_eq :
    s.sdCreate = s.sdOpened .writeTrunc (if s.params.policy.refuses s.files (.openWriteTrunc s.sd.fname) = false then
      some (FileStore.put s.files s.sd.fname [], 0) else none) := by
  rw [State.sdCreate, Storage.openWriteTrunc]
  cases s.params.policy.refuses s.files (.openWriteTrunc s.sd.fname) <;> rfl

/-- open-for-append fails where the backend refuses it (R568). -/
theorem State.sdOpenAppend_refused (h : s.params.policy.refuses s.files (.openAppend s.sd.fname) = true) :
    s.sdOpenAppend = s.sdOpened .append none := by
  rw [State.sdOpenAppend, Storage.openAppend, if_pos h]
  rfl

/-- Else it opens a file at its end (R568). -/
theorem State.sdOpenAppend_present (h : s.params.policy.refuses s.files (.openAppend s.sd.fname) = false)
    (hpresent : FileStore.has s.files s.sd.fname = true) :
    s.sdOpenAppend = s.sdOpened .append (some (s.files, (FileStore.bytes s.files s.sd.fname).length)) := by
  rw [State.sdOpenAppend, Storage.openAppend, h, hpresent]
  rfl

/-- A missing file it creates empty (R568). -/
theorem State.sdOpenAppend_missing (h : s.params.policy.refuses s.files (.openAppend s.sd.fname) = false)
    (hmissing : FileStore.has s.files s.sd.fname = false) :
    s.sdOpenAppend = s.sdOpened .append (some (FileStore.put s.files s.sd.fname [], 0)) := by
  rw [State.sdOpenAppend, Storage.openAppend, h, hmissing]
  simp

end

/-- Settles O53: the codes are distinct, so each runs its command (`State.sdCommand_code`); what a command does is said
by the lemma of its own above. -/
theorem sdFileCommands : Obligations.SdFileCommands := by
  intro h s hlegal codes name present allowed run opened emptied failed
  have hrun (command : SdCommand) : run (codes.code command) = s.sdRun command :=
    (s.portOut_sdCommand h _).trans (s.sdCommand_code hlegal command)
  refine ⟨?_, ?_, ?_, ?_, ?_, fun v hv => ?_, fun v offset hseek => ?_⟩
  · exact (hrun .openRead).trans (s.sdOpenRead_eq.trans (s.sdOpened_ite ..))
  · exact (hrun .openReadWrite).trans (s.sdOpenReadWrite_eq.trans (s.sdOpened_ite ..))
  · exact (hrun .create).trans (s.sdCreate_eq.trans (s.sdOpened_ite ..))
  · refine (hrun .openAppend).trans ?_
    split
    next hrefused => exact s.sdOpenAppend_refused (Bool.not_eq_false _ ▸ hrefused)
    next hallowed =>
      have hallowed : allowed (.openAppend name) := not_not.mp hallowed
      split
      next hpresent => exact s.sdOpenAppend_present hallowed hpresent
      next hmissing => exact s.sdOpenAppend_missing hallowed (Bool.eq_false_iff.mpr hmissing)
  · exact hrun .close
  · exact (s.portOut_sdCommand h v).trans (s.sdCommand_of_not_mem hv)
  · have hmove : run v = s.sdSeek offset := by
      obtain ⟨rfl, rfl⟩ | ⟨rfl, rfl⟩ := hseek
      · exact hrun .seekToStart
      · exact (hrun .seekToByte).trans (congrArg s.sdSeek s.sd.seekPosition_eq)
    rw [hmove]
    split
    next hfile => exact s.sdSeek_of_none hfile offset
    next f hfile => exact s.sdSeek_of_some hfile offset

/-! ## The SD data port (R566, R567) -/

section
variable {s : State} {f : OpenFile}

/-- A read gives the byte at the position and moves over it (R566). -/
theorem State.sdDataRead_byte (hfile : s.sd.file = some f) (hmode : f.mode ≠ .write) {b : Byte}
    (hb : (FileStore.bytes s.files f.name)[f.position]? = some b) :
    s.sdDataRead = (b, { s with sd := { s.sd with file := some { f with position := f.position + 1 } } }) := by
  have hbyte : (if f.mode.readable then Storage.readByte s.files f.handle f.position else none) = some b :=
    (if_pos (f.mode.readable_iff.mpr hmode)).trans hb
  rw [State.sdDataRead, hfile]
  simp only [hbyte]
  rfl

/-- A read at the end, or of a file that is only written, gives 0 and closes it (R566). -/
theorem State.sdDataRead_end (hfile : s.sd.file = some f)
    (h : f.mode = .write ∨ (FileStore.bytes s.files f.name).length ≤ f.position) :
    s.sdDataRead = (0, { s with sd := { s.sd with file := none } }) := by
  have hnone : (if f.mode.readable then Storage.readByte s.files f.handle f.position else none) = none := by
    obtain h | h := h
    · rw [h]
      rfl
    · rw [Storage.readByte, List.getElem?_eq_none h, ite_self]
  rw [State.sdDataRead, hfile]
  simp only [hnone]
  rfl

/-- A read of an open listing gives its first byte, and closes it with its last (R566, R571). -/
theorem State.sdDataRead_listing {b : Byte} {rest : List Byte} (hfile : s.sd.file = none)
    (hdir : s.sd.dir = some (b :: rest)) :
    s.sdDataRead = (b, s.setSd { s.sd with dir := if rest.isEmpty then none else some rest }) := by
  simp only [State.sdDataRead, hfile, hdir]

/-- A read with nothing open gives 0 (R566). -/
theorem State.sdDataRead_closed (hfile : s.sd.file = none) (hdir : s.sd.dir = none) : s.sdDataRead = (0, s) := by
  simp only [State.sdDataRead, hfile, hdir]

/-- A write to a file open for writing goes to the backend, and moves over the byte written (R567). -/
theorem State.sdDataWrite_of_written (hfile : s.sd.file = some f) (hmode : f.mode ≠ .read) {v : Byte} {files : FileStore}
    (hwritten : Storage.writeByte s.params.policy s.files f.handle f.position v = some files) :
    s.sdDataWrite v =
      { s with sd := { s.sd with file := some { f with position := f.position + 1 } }, files := files } := by
  simp only [State.sdDataWrite, hfile, f.mode.writable_iff.mpr hmode, hwritten, if_true]

/-- A write where no file is open for writing is dropped (R567). -/
theorem State.sdDataWrite_dropped (v : Byte) (h : s.sd.file = none ∨ (s.sd.file = some f ∧ f.mode = .read)) :
    s.sdDataWrite v = s := by
  obtain hfile | ⟨hfile, hmode⟩ := h
  · simp only [State.sdDataWrite, hfile]
  · simp only [State.sdDataWrite, hfile, hmode]
    rfl

end

section
variable {p : StoragePolicy} {files : FileStore} {h : Handle} {position : Nat} {v : Byte}

/-- A write inside a file replaces the byte (R567). -/
theorem Storage.writeByte_inside (hallowed : p.refuses files (.writeByte h position v) = false)
    (hposition : position < (FileStore.bytes files h.name).length) :
    Storage.writeByte p files h position v =
      some (FileStore.put files h.name ((FileStore.bytes files h.name).set position v)) := by
  simp only [Storage.writeByte, hallowed, hposition, Bool.false_eq_true, if_false, if_true]

/-- A write at its end extends it (R567). -/
theorem Storage.writeByte_end (hallowed : p.refuses files (.writeByte h position v) = false)
    (hposition : position = (FileStore.bytes files h.name).length) :
    Storage.writeByte p files h position v =
      some (FileStore.put files h.name (FileStore.bytes files h.name ++ [v])) := by
  subst hposition
  simp [Storage.writeByte, hallowed]

end

/-- Settles O54: a read by what is open and what is left of it, a write by the position in the file. -/
theorem sdDataPort : Obligations.SdDataPort := by
  intro h v s f read written moved
  have hread : read = s.sdDataRead := s.portIn_sdData h
  have hwritten : written = s.sdDataWrite v := s.portOut_sdData h v
  rw [hread, hwritten]
  refine ⟨fun hfile hmode b hb => State.sdDataRead_byte hfile hmode hb, fun hfile hend => State.sdDataRead_end hfile hend,
    State.sdDataRead_closed, fun hfile hmode hallowed => ⟨fun hposition => ?_, fun hposition => ?_⟩,
    State.sdDataWrite_dropped v⟩
  · exact State.sdDataWrite_of_written hfile hmode (Storage.writeByte_inside hallowed hposition)
  · exact State.sdDataWrite_of_written hfile hmode (Storage.writeByte_end hallowed hposition)

/-! ## The listing and the store behind it (R571, R575) -/

/-- Reading an open listing to its end. -/
theorem State.readPortTimes_listing (h : Byte) {s : State} {bytes : List Byte} (hbytes : bytes ≠ [])
    (hfile : s.sd.file = none) (hdir : s.sd.dir = some bytes) :
    State.readPortTimes (pair h 0x12) bytes.length s = (bytes, { s with sd := { s.sd with dir := none } }) := by
  induction bytes generalizing s with
  | nil => exact absurd rfl hbytes
  | cons b rest ih =>
    have hread := (s.portIn_sdData h).trans (State.sdDataRead_listing hfile hdir)
    rw [List.length_cons, State.readPortTimes, hread]
    cases rest with
    | nil => rfl
    | cons c rest =>
      have hrest := ih (s := s.setSd { s.sd with dir := some (c :: rest) }) (List.cons_ne_nil c rest) hfile rfl
      exact congrArg (fun r : List Byte × State => (b :: r.1, r.2)) hrest

/-- The names that a listing leaves out are "." and ".." (R571). -/
theorem sdListing_eq (names : List FileName) :
    sdListing names =
      ((names.filter (fun n => decide (n ≠ [0x2E] ∧ n ≠ [0x2E, 0x2E]))).map (fun n => n ++ [0x0D, 0x0A])).flatten := by
  have htest (n : FileName) :
      (!(n == [0x2E] || n == [0x2E, 0x2E])) = decide (n ≠ [0x2E] ∧ n ≠ [0x2E, 0x2E]) := by
    rw [Bool.eq_iff_iff]
    simp
  rw [sdListing, funext htest]

/-- list-directory opens the listing, or nothing where it is empty (R571). -/
theorem State.sdListDirectory_eq (s : State) :
    let names := (Storage.list s.params.policy s.files).filter (fun n => decide (n ≠ [0x2E] ∧ n ≠ [0x2E, 0x2E]))
    let bytes := (names.map (fun n => n ++ [0x0D, 0x0A])).flatten
    s.sdListDirectory =
      { s with sd := { s.sd with file := none, dir := if bytes = [] then none else some bytes, error := false } } := by
  intro names bytes
  have hbytes : sdListing (Storage.list s.params.policy s.files) = bytes := sdListing_eq _
  simp only [State.sdListDirectory, hbytes, List.isEmpty_iff]
  rfl

/-- A file put in the store leaves every other one. -/
theorem FileStore.find?_put_other (files : FileStore) {name other : FileName} (h : other ≠ name) (bs : List Byte) :
    FileStore.find? (FileStore.put files name bs) other = FileStore.find? files other := by
  induction files with
  | nil => simp [FileStore.put, FileStore.find?, Ne.symm h]
  | cons e rest ih =>
    by_cases hname : e.1 = name
    · simp [FileStore.put, FileStore.find?, hname, Ne.symm h]
    · simp [FileStore.put, FileStore.find?, hname, ih]

/-- A name is in the store where it is one of its names. -/
theorem FileStore.has_iff_mem_names (files : FileStore) (name : FileName) :
    FileStore.has files name = true ↔ name ∈ FileStore.names files := by
  induction files with
  | nil => simp [FileStore.has, FileStore.find?, FileStore.names]
  | cons e rest ih =>
    simp only [FileStore.has, FileStore.names] at ih ⊢
    by_cases hname : e.1 = name
    · simp [FileStore.find?, hname]
    · simp [FileStore.find?, hname, Ne.symm hname, ih]

/-- The backend lists the names of its store, in some order (R575). -/
theorem Storage.list_perm (policy : StoragePolicy) (files : FileStore) :
    (Storage.list policy files).Perm (FileStore.names files) := by
  rw [Storage.list]
  split
  next hperm => exact List.isPerm_iff.mp hperm
  next => exact .refl _

/-- Settles O55: the command opens the listing (`State.sdListDirectory_eq`), reading takes it byte by byte
(`State.readPortTimes_listing`), and the store is a map from its names to their bytes. -/
theorem sdDirectoryListing : Obligations.SdDirectoryListing := by
  refine ⟨fun h s hlegal => ?_, fun h s bytes hbytes hfile hdir => State.readPortTimes_listing h hbytes hfile hdir,
    fun files name other bs => ⟨FileStore.bytes_put_same .., FileStore.has_put_same .., fun hother => ?_⟩,
    FileStore.has_iff_mem_names, Storage.list_perm⟩
  · have hcommand := s.sdCommand_code hlegal .listDirectory
    exact (s.portOut_sdCommand h _).trans (hcommand.trans s.sdListDirectory_eq)
  · have hfind := FileStore.find?_put_other files hother bs
    exact ⟨congrArg (·.getD []) hfind, congrArg Option.isSome hfind⟩

end Sys2Proof.Machine

/-!
The statements about reset and load (70_reset_and_hazards.md; 20_memory.md R94): what a load leaves to read, and that the
machine after power-on has the invariant whatever the free parameters are.
-/

namespace Sys2Proof.Machine

/-! ## A load (R94, R580) -/

/-- The initial memory after placing bytes: each reads at its place, as far as memory goes, and every other byte as before. -/
theorem Memory.unlisted_placeAll (init : InitialMemory) (a : Nat) (bs : List Byte) {b : Nat} (hb : b < 65536) :
    Memory.unlisted (Memory.placeAll init a bs) b =
      if a ≤ b then (bs[b - a]?).getD (Memory.unlisted init b) else Memory.unlisted init b := by
  induction bs generalizing init a with
  | nil => simp [Memory.placeAll]
  | cons v bs ih =>
    rw [Memory.placeAll]
    split
    next ha =>
      rw [ih]
      obtain hlt | rfl | hgt := Nat.lt_trichotomy a b
      · have hindex : b - a = b - (a + 1) + 1 := by omega
        rw [if_pos (Nat.succ_le_of_lt hlt), if_pos (Nat.le_of_lt hlt), hindex, List.getElem?_cons_succ,
          Memory.unlisted_place_other init v (Nat.ne_of_gt hlt)]
      · simp
      · rw [if_neg (by omega), if_neg (by omega), Memory.unlisted_place_other init v (Nat.ne_of_lt hgt)]
    next ha => rw [if_neg (by omega)]

/-- After a load the image reads from address 0 on, `MEM_INIT` after it, and every other byte is the one of the rest or
free. -/
theorem readMem_hostLoad (s : State) (l : Load) (a : Word) :
    (hostLoad s l).readMem a = ((l.romImage ++ l.memInit)[a.toNat]?).getD (l.rest.getD (Config.memInit a.toNat)) :=
  Memory.unlisted_placeAll { listed := [], rest := l.rest } 0 (l.romImage ++ l.memInit) a.isLt

/-- Leaving out the entries of a name leaves those of every other. -/
theorem FileStore.find?_filter_ne (files : FileStore) {n name : FileName} (h : n ≠ name) :
    FileStore.find? (files.filter (fun e => decide (e.1 ≠ n))) name = FileStore.find? files name := by
  induction files with
  | nil => rfl
  | cons e rest ih =>
    by_cases hn : e.1 = n
    · simpa [FileStore.find?, hn, h] using ih
    · simp only [List.filter_cons, ne_eq, hn, not_false_eq_true, decide_true, if_true, FileStore.find?] at ih ⊢
      rw [ih]

/-- The finite map of a store has the first entry of each name. -/
theorem FileStore.find?_oneEntryPerName (files : FileStore) (name : FileName) :
    FileStore.find? (Config.oneEntryPerName files) name = FileStore.find? files name := by
  induction files with
  | nil => rfl
  | cons e rest ih =>
    rw [Config.oneEntryPerName, FileStore.find?, FileStore.find?]
    split
    next => rfl
    next hname => rw [FileStore.find?_filter_ne _ hname, ih]

/-- It has each name once. -/
theorem FileStore.wf_oneEntryPerName (files : FileStore) : FileStore.wf (Config.oneEntryPerName files) := by
  induction files with
  | nil => exact List.nodup_nil
  | cons e rest ih =>
    refine List.nodup_cons.mpr ⟨fun hmem => ?_, ih.sublist (List.filter_sublist.map _)⟩
    obtain ⟨e', he', hname⟩ := List.mem_map.mp hmem
    exact of_decide_eq_true (List.mem_filter.mp he').2 hname

/-- Settles O56: power-on and reset by their definitions, a load by what it leaves of the store
(`FileStore.find?_oneEntryPerName`) and of memory (`readMem_hostLoad`). -/
theorem resetValues : Obligations.ResetValues := by
  unfold Obligations.ResetValues
  intro z cpu
  have hcpu (s : State) : cpu (hostReset s) :=
    ⟨rfl, rfl, rfl, rfl, rfl, rfl, rfl, rfl, rfl, rfl, rfl, rfl, rfl, rfl, rfl, rfl, rfl, rfl⟩
  refine ⟨⟨hcpu State.reset, rfl, rfl, rfl, rfl, rfl, rfl⟩,
    fun s => ⟨hcpu s, rfl, rfl, rfl, rfl, rfl, rfl, rfl, rfl, rfl⟩,
    fun s l => ⟨rfl, rfl, rfl, rfl, fun name => ?_, readMem_hostLoad s l⟩⟩
  have hfind := FileStore.find?_oneEntryPerName l.files name
  exact ⟨congrArg Option.isSome hfind, congrArg (·.getD []) hfind⟩

/-! ## The invariant at power-on -/

/-- The SD parameters at reset are such as R9 allows, whatever the free value is. -/
theorem sdParams_legal_at_reset : Config.sdParams.legal := by
  rw [Config.sdParams]
  split
  next hlegal => exact hlegal
  next => decide

/-- Settles O57: nothing is listed in memory and nothing is open; the parameters are held to R9 (`sdParams_legal_at_reset`)
and the files to a finite map (`FileStore.wf_oneEntryPerName`). -/
theorem resetHasTheInvariant : Obligations.ResetHasTheInvariant where
  mem_wf := State.reset_mem_wf
  initial := rfl
  params := sdParams_legal_at_reset
  files_wf := FileStore.wf_oneEntryPerName Config.freeFiles
  sd_inv := ⟨Nat.zero_le _, .inl rfl, nofun, nofun⟩

end Sys2Proof.Machine
